-- ==== Sys2Proof/Word.lean ====
section
/-! DEFINITION. The words of the ULK-624: the byte of a link frame, the line-clock value, and the
three arithmetic conventions of R1 that every block uses. -/

namespace Sys2Proof

/-- One character of a link frame (R188). -/
abbrev Byte := BitVec 8

/-- A line-clock value: a 32-bit count of milliseconds that wraps (R6). -/
abbrev Clock := BitVec 32

/-- The interval between two line-clock values: their difference modulo 2^32 (R6). -/
def elapsed (now start : Clock) : Nat := (now - start).toNat

/-- "Clamped to lo..hi" (R1). -/
def clampTo (lo hi n : Nat) : Nat := min (max n lo) hi

/-- A saturating sum: a count that would pass `top` stays at `top` (R1). -/
def addSaturating (top a b : Nat) : Nat := min (a + b) top

/-- The largest value of a saturating 32-bit field. -/
def top32 : Nat := 4294967295

/-- The largest value of a saturating 16-bit field. -/
def top16 : Nat := 65535

end Sys2Proof
end

