-- ==== Sys2Proof/Syntax.lean ====
section
/-! DEFINITION. The commands of the ULK-624: one constructor of `Instr` for each row of
spec/opcode_table.json, with the row's operands as the request payload (R196), the converter
message (R59), the pyrometer message (R18) or the pin that carries it gives them. -/

namespace Sys2Proof

/-- A recipe key: a pair of grade and size class, each 0..255 (R142, R197). -/
structure Key where
  grade : BitVec 8
  size  : BitVec 8
deriving DecidableEq, Repr, Inhabited

/-- The parameters of Table 7-2 except the policy: the recipe body of R145 and R201. -/
structure Body where
  /-- heating gain G, sixteenths per hJ × 65536 -/
  gain    : Nat
  /-- surface share of a heat step Fs, in 1/256 -/
  surface : Nat
  /-- loss coefficient Kl -/
  loss    : Nat
  /-- equalisation coefficient Ke -/
  equal   : Nat
  /-- exit temperature T_exit -/
  tExit   : Nat
  /-- window half-width W -/
  width   : Nat
  /-- surface limit Slim -/
  slim    : Nat
  /-- hold temperature T_hold -/
  tHold   : Nat
  /-- maximum hold, seconds -/
  maxHold : Nat
deriving DecidableEq, Repr, Inhabited

/-- What READ RECIPE names: a key or a window number (R159). -/
inductive RecipeSelector where
  | key (k : Key)
  | window (n : Nat)
deriving DecidableEq, Repr, Inhabited

/-- A frame of Table 10-1 whose second CRC byte has arrived: the fields that follow the sync byte.
The payload length byte is the length of `payload`. -/
structure Frame where
  address : Byte
  kind    : Byte
  tag     : Byte
  payload : List Byte
  crc     : BitVec 16
deriving DecidableEq, Repr, Inhabited

/-- The commands. A request's operands are the fields of its payload in Table 10-4, in that order;
numbers are held as naturals (their field widths are `Instr.wellFormed`), flag bytes, source sets
and window keys as the bit patterns they are. Zones are numbered 1 to 6. -/
inductive Instr where
  -- line requests (chapters 4 and 5)
  | start
  | stop
  | hold
  | resume
  | drain
  | purge
  | declareEmpty
  | readLine
  | readTrain (first count : Nat)
  -- zone and power requests (chapter 3)
  | setZone (zone mode blockSize setpoint budget : Nat) (options : BitVec 8)
  | readZone (zone : Nat)
  | enableZone (zone : Nat)
  | disableZone (zone : Nat)
  | pauseZone (zone : Nat)
  | continueZone (zone : Nat)
  | doseZone (zone : Nat)
  | powerOn
  | powerOff
  | powerPause
  | powerContinue
  -- order requests (chapter 6)
  | postOrder (billetId : BitVec 32) (key : Key) (flags : BitVec 8) (entryTemp exitOverride : Nat)
  | withdraw (n : Nat)
  | readOrders (first count : Nat)
  | reclaim (n : Nat)
  -- recipe requests (chapters 7 and 8)
  | loadRecipe (key : Key) (body : Body) (trim : Int) (policy : Nat)
  | readRecipe (selector : RecipeSelector)
  | flushRecipe (key : Key)
  | flushUnpinned
  | pinRecipe (key : Key)
  | unpinRecipe (key : Key)
  | setWindow (window enable : Nat) (base mask : BitVec 16) (body : Body)
  | readWants
  | takeWritebacks
  | requestWriteback (key : Key)
  -- attention and counter requests (chapter 9)
  | readAttention
  | enableAttention (set : BitVec 16)
  | disableAttention (set : BitVec 16)
  | clearAttention (set : BitVec 16)
  | selectCounter (counter event : Nat)
  | readCounters
  -- settings, identification and restart (chapter 11)
  | writeSetting (id value : Nat)
  | readSettings
  | writeProfile (profile : Vector Nat 12)
  | identify
  | restart
  | restartTakesEffect
  | powerOnReset
  -- the link (chapter 10)
  | frameReceived (frame : Frame)
  | idleGapAbandon
  | framingErrorAbandon
  | lengthByteDiscard (length : Nat)
  | replySent
  -- the converter and the coil guards (chapter 3)
  | sliceDone (sequence : BitVec 8) (energy : Nat)
  | sliceFault (sequence : BitVec 8) (energy : Nat)
  | convReadyFall
  | sliceTimerExpiry
  | guardAsserted (zone : Nat)
  | guardNegated (zone : Nat)
  -- the pyrometer and the tracker's timers (chapter 1)
  | pyroTemperatureMessage (value : Nat)
  | pyroNoTarget
  | readingTimerExpiry
  | surveyTimerExpiry
  -- the press and the handling machines (chapters 4 and 5)
  | pressCall
  | pressStopAsserted
  | pressStopNegated
  | holdDelayExpiry
  | pushDone
  | extractDone
  | divertDone
  | handlingTimerExpiry
  | minPushTimerExpiry
  | coldWaitExpiry
  -- the order ring's and the recipe table's timers (chapters 6 and 7)
  | batchDelayExpiry
  | fetchTimeout (key : Key)
  -- characters and levels that only move a phase or a pin
  | syncByteBeginsFrame
  | convReadyRise
  | pressCallNegated
deriving DecidableEq, Repr, Inhabited

end Sys2Proof
end

