-- ==== Sys2Proof/Config.lean ====
section
/-! DEFINITION. What the spec leaves open and the model leaves free. The line settings are state of the part
(Table 11-1), not configuration. -/

namespace Sys2Proof

/-- Which of the timer expiries that are due together is taken first: "may be taken in either order" (R9,
R23, R90, R136, R153). A free value of the line clock and the expiries due, an index read modulo
their number; nothing is known of it (log entry 5). -/
opaque Config.dueChoice : Clock → List Instr → Nat

/-- The block count of a zone whose grant runs on past sixteen slices: its field holds 0..16 (Table 3-2),
each continuation adds one (R58), and a burst has no limit on its slices (R65). A free value of the
line clock and the slice sequence number at the continuation; nothing is known of it but its range
(log entry 15). -/
opaque Config.blockCountPastRange : Clock → BitVec 8 → Fin 17

end Sys2Proof
end

