-- ==== Sys2Proof/WellFormed.lean ====
section
/-! DEFINITION. Which commands are well formed: every operand fits the field that carries it
(Table 10-4 and Table 10-10 for requests, R59 for converter messages, R18 for pyrometer messages),
and an event names something that exists. A well-formed request may still be refused: the blocks'
own range checks are theirs (R193). -/

namespace Sys2Proof

/-- The number fits a one-byte field. -/
def fitsByte (n : Nat) : Bool := decide (n < 256)

/-- The number fits a two-byte field. -/
def fitsHalf (n : Nat) : Bool := decide (n < 65536)

/-- The number fits a four-byte field. -/
def fitsWord (n : Nat) : Bool := decide (n < 4294967296)

/-- The number names one of the six zones, 1..6. -/
def isZone (n : Nat) : Bool := decide (1 ≤ n ∧ n ≤ 6)

/-- Every field of a recipe body fits its bytes in Table 10-10. -/
def Body.fits (b : Body) : Bool :=
  fitsHalf b.gain && fitsByte b.surface && fitsHalf b.loss && fitsHalf b.equal && fitsHalf b.tExit &&
  fitsHalf b.width && fitsHalf b.slim && fitsHalf b.tHold && fitsHalf b.maxHold

/-- The signed value fits a two-byte two's complement field (R197). -/
def fitsSigned (t : Int) : Bool := decide (-32768 ≤ t ∧ t < 32768)

/-- The operands of the command fit the fields that carry them. -/
def Instr.wellFormed : Instr → Bool
  | .start | .stop | .hold | .resume | .drain | .purge | .declareEmpty | .readLine => true
  | .readTrain first count => fitsByte first && fitsByte count
  | .setZone zone mode block setpoint budget _ =>
      fitsByte zone && fitsByte mode && fitsByte block && fitsHalf setpoint && fitsHalf budget
  | .readZone zone | .enableZone zone | .disableZone zone | .pauseZone zone
  | .continueZone zone | .doseZone zone => fitsByte zone
  | .powerOn | .powerOff | .powerPause | .powerContinue => true
  | .postOrder _ _ _ entryTemp exitOverride => fitsHalf entryTemp && fitsHalf exitOverride
  | .withdraw n | .reclaim n => fitsByte n
  | .readOrders first count => fitsByte first && fitsByte count
  | .loadRecipe _ body trim policy => body.fits && fitsSigned trim && fitsByte policy
  | .readRecipe (.key _) => true
  | .readRecipe (.window n) => fitsByte n
  | .flushRecipe _ | .flushUnpinned | .pinRecipe _ | .unpinRecipe _ => true
  | .setWindow window enable _ _ body => fitsByte window && fitsByte enable && body.fits
  | .readWants | .takeWritebacks | .requestWriteback _ | .readAttention => true
  | .enableAttention _ | .disableAttention _ | .clearAttention _ => true
  | .selectCounter counter event => fitsByte counter && fitsByte event
  | .readCounters => true
  | .writeSetting id value => fitsByte id && fitsWord value
  | .readSettings => true
  | .writeProfile profile => profile.toList.all fitsHalf
  | .identify | .restart | .restartTakesEffect | .powerOnReset => true
  | .frameReceived frame => decide (frame.payload.length ≤ 200)
  | .idleGapAbandon | .framingErrorAbandon => true
  | .lengthByteDiscard length => decide (200 < length) && fitsByte length
  | .replySent => true
  | .sliceDone _ energy | .sliceFault _ energy => fitsHalf energy
  | .convReadyFall | .sliceTimerExpiry => true
  | .guardAsserted zone | .guardNegated zone => isZone zone
  | .pyroTemperatureMessage value => fitsHalf value
  | .pyroNoTarget | .readingTimerExpiry | .surveyTimerExpiry => true
  | .pressCall | .pressStopAsserted | .pressStopNegated | .holdDelayExpiry => true
  | .pushDone | .extractDone | .divertDone | .handlingTimerExpiry | .minPushTimerExpiry
  | .coldWaitExpiry | .batchDelayExpiry => true
  | .fetchTimeout _ | .syncByteBeginsFrame | .convReadyRise | .pressCallNegated => true

end Sys2Proof
end

