-- ==== Sys2Proof/Decode.lean ====
section
/-! DEFINITION. From bits to commands. The table gives no row bits of its own (`decodeTableWord`); the
bytes of a request frame are decoded from the payload layouts of Table 10-4, Table 10-8 and
Table 10-10 (`decodeRequest`), and written by `encodeRequest`. -/

namespace Sys2Proof

/-- The command a word of the opcode table spells. No row of spec/opcode_table.json carries bits (every
row's "fields" is empty and none has "fixed"), so no word spells a command. -/
def decodeTableWord (_nbits _w : Nat) : Option Instr := none

/-! ### Little-endian fields (R197) -/

/-- A one-byte number. -/
def get8 (b : Byte) : Nat := b.toNat

/-- A two-byte number, least significant byte first. -/
def get16 (b0 b1 : Byte) : Nat := b0.toNat + 256 * b1.toNat

/-- A four-byte number, least significant byte first. -/
def get32 (b0 b1 b2 b3 : Byte) : Nat := get16 b0 b1 + 65536 * get16 b2 b3

/-- A signed two-byte number, two's complement. -/
def getSigned (b0 b1 : Byte) : Int :=
  if get16 b0 b1 < 32768 then (get16 b0 b1 : Int) else (get16 b0 b1 : Int) - 65536

/-- A key: the size class at the lower offset, the grade at the higher (R197). -/
def getKey (b0 b1 : Byte) : Key := ⟨b1, b0⟩

/-- A one-byte field. -/
def put8 (n : Nat) : List Byte := [BitVec.ofNat 8 n]

/-- A two-byte field, least significant byte first. -/
def put16 (n : Nat) : List Byte := [BitVec.ofNat 8 n, BitVec.ofNat 8 (n / 256)]

/-- A four-byte field, least significant byte first. -/
def put32 (n : Nat) : List Byte := put16 n ++ put16 (n / 65536)

/-- A signed two-byte field, two's complement. -/
def putSigned (t : Int) : List Byte := put16 (t % 65536).toNat

/-- A key's two bytes (R197). -/
def putKey (k : Key) : List Byte := [k.size, k.grade]

/-- The number a window matches against a key: grade × 256 + size class (section 7.1). -/
def Key.value (k : Key) : BitVec 16 := k.grade ++ k.size

/-- The 17 bytes of a recipe body (Table 10-10). -/
def putBody (b : Body) : List Byte :=
  put16 b.gain ++ put8 b.surface ++ put16 b.loss ++ put16 b.equal ++ put16 b.tExit ++ put16 b.width ++
  put16 b.slim ++ put16 b.tHold ++ put16 b.maxHold

/-- A recipe body read from its 17 bytes (Table 10-10). -/
def getBody : List Byte → Option Body
  | [g0, g1, fs, l0, l1, e0, e1, x0, x1, w0, w1, s0, s1, h0, h1, m0, m1] =>
      some ⟨get16 g0 g1, get8 fs, get16 l0 l1, get16 e0 e1, get16 x0 x1, get16 w0 w1, get16 s0 s1,
        get16 h0 h1, get16 m0 m1⟩
  | _ => none

/-- The twelve values of a profile read from its 24 bytes (Table 10-4). -/
def getProfile : List Byte → Option (Vector Nat 12)
  | [a0, a1, b0, b1, c0, c1, d0, d1, e0, e1, f0, f1, g0, g1, h0, h1, i0, i1, j0, j1, k0, k1, l0, l1] =>
      some #v[get16 a0 a1, get16 b0 b1, get16 c0 c1, get16 d0 d1, get16 e0 e1, get16 f0 f1,
        get16 g0 g1, get16 h0 h1, get16 i0 i1, get16 j0 j1, get16 k0 k1, get16 l0 l1]
  | _ => none

/-! ### Requests (R193, R196) -/

/-- What the port's dispatch finds in a taken frame: a kind that is not in Table 10-4, a payload of
another length than the kind's, a field whose encoding chapter 10 does not define where the block
answers BAD_VALUE before any other check (a POWER sub-action, a READ RECIPE selector; R52, R197),
or a request. -/
inductive Dispatched where
  | unknownKind
  | badLength
  | badEncoding
  | request (i : Instr)
deriving DecidableEq, Repr

/-- A request without payload: its length is 0. -/
def noPayload (i : Instr) : List Byte → Dispatched
  | [] => .request i
  | _ => .badLength

/-- A request whose payload is one number. -/
def oneByte (f : Nat → Instr) : List Byte → Dispatched
  | [b] => .request (f (get8 b))
  | _ => .badLength

/-- A request whose payload is two numbers. -/
def twoBytes (f : Nat → Nat → Instr) : List Byte → Dispatched
  | [a, b] => .request (f (get8 a) (get8 b))
  | _ => .badLength

/-- A request whose payload is a key. -/
def oneKey (f : Key → Instr) : List Byte → Dispatched
  | [a, b] => .request (f (getKey a b))
  | _ => .badLength

/-- A request whose payload is a source set. -/
def oneSet (f : BitVec 16 → Instr) : List Byte → Dispatched
  | [a, b] => .request (f (b ++ a))
  | _ => .badLength

/-- The POWER request's sub-actions (R52, Table 10-4). -/
def decodePower : List Byte → Dispatched
  | [a] => match get8 a with
    | 0 => .request .powerOn
    | 1 => .request .powerOff
    | 2 => .request .powerPause
    | 3 => .request .powerContinue
    | _ => .badEncoding
  | _ => .badLength

/-- SET ZONE's payload: the zone and bytes 1 to 7 of the zone view (Table 10-8). -/
def decodeSetZone : List Byte → Dispatched
  | [z, m, b, s0, s1, g0, g1, o] =>
      .request (.setZone (get8 z) (get8 m) (get8 b) (get16 s0 s1) (get16 g0 g1) o)
  | _ => .badLength

/-- POST ORDER's payload (Table 10-4). -/
def decodePostOrder : List Byte → Dispatched
  | [i0, i1, i2, i3, k0, k1, f, t0, t1, x0, x1] =>
      .request (.postOrder (BitVec.ofNat 32 (get32 i0 i1 i2 i3)) (getKey k0 k1) f (get16 t0 t1)
        (get16 x0 x1))
  | _ => .badLength

/-- LOAD RECIPE's payload: key, body, trim, policy (Table 10-4). -/
def decodeLoadRecipe : List Byte → Dispatched
  | k0 :: k1 :: rest => match getBody (rest.take 17), rest.drop 17 with
    | some body, [t0, t1, p] => .request (.loadRecipe (getKey k0 k1) body (getSigned t0 t1) (get8 p))
    | _, _ => .badLength
  | _ => .badLength

/-- READ RECIPE's payload: selector, then a key, or a window number and one byte ignored. -/
def decodeReadRecipe : List Byte → Dispatched
  | [s, a, b] => match get8 s with
    | 0 => .request (.readRecipe (.key (getKey a b)))
    | 1 => .request (.readRecipe (.window (get8 a)))
    | _ => .badEncoding
  | _ => .badLength

/-- SET WINDOW's payload: window, enable, base key, mask, body (Table 10-4). -/
def decodeSetWindow : List Byte → Dispatched
  | w :: e :: b0 :: b1 :: m0 :: m1 :: rest => match getBody rest with
    | some body => .request (.setWindow (get8 w) (get8 e) (b1 ++ b0) (m1 ++ m0) body)
    | none => .badLength
  | _ => .badLength

/-- WRITE SETTING's payload: id and a four-byte value (R197). -/
def decodeWriteSetting : List Byte → Dispatched
  | [i, v0, v1, v2, v3] => .request (.writeSetting (get8 i) (get32 v0 v1 v2 v3))
  | _ => .badLength

/-- WRITE PROFILE's payload: twelve two-byte values. -/
def decodeWriteProfile (payload : List Byte) : Dispatched :=
  match getProfile payload with
  | some profile => .request (.writeProfile profile)
  | none => .badLength

/-- The dispatch of a taken frame: first the kind, then the length, against Table 10-4 (R193, R196). -/
def decodeRequest (kind : Byte) (payload : List Byte) : Dispatched :=
  match kind.toNat with
  | 0x01 => noPayload .start payload
  | 0x02 => noPayload .stop payload
  | 0x03 => noPayload .hold payload
  | 0x04 => noPayload .resume payload
  | 0x05 => noPayload .drain payload
  | 0x06 => noPayload .purge payload
  | 0x07 => noPayload .declareEmpty payload
  | 0x08 => noPayload .readLine payload
  | 0x09 => twoBytes .readTrain payload
  | 0x10 => decodeSetZone payload
  | 0x11 => oneByte .readZone payload
  | 0x12 => oneByte .enableZone payload
  | 0x13 => oneByte .disableZone payload
  | 0x14 => oneByte .pauseZone payload
  | 0x15 => oneByte .continueZone payload
  | 0x16 => oneByte .doseZone payload
  | 0x17 => decodePower payload
  | 0x20 => decodePostOrder payload
  | 0x21 => oneByte .withdraw payload
  | 0x22 => twoBytes .readOrders payload
  | 0x23 => oneByte .reclaim payload
  | 0x30 => decodeLoadRecipe payload
  | 0x31 => decodeReadRecipe payload
  | 0x32 => oneKey .flushRecipe payload
  | 0x33 => noPayload .flushUnpinned payload
  | 0x34 => oneKey .pinRecipe payload
  | 0x35 => oneKey .unpinRecipe payload
  | 0x36 => decodeSetWindow payload
  | 0x37 => noPayload .readWants payload
  | 0x38 => noPayload .takeWritebacks payload
  | 0x39 => oneKey .requestWriteback payload
  | 0x40 => noPayload .readAttention payload
  | 0x41 => oneSet .enableAttention payload
  | 0x42 => oneSet .disableAttention payload
  | 0x43 => oneSet .clearAttention payload
  | 0x48 => twoBytes .selectCounter payload
  | 0x49 => noPayload .readCounters payload
  | 0x50 => decodeWriteSetting payload
  | 0x51 => noPayload .readSettings payload
  | 0x52 => decodeWriteProfile payload
  | 0x70 => noPayload .identify payload
  | 0x71 => noPayload .restart payload
  | _ => .unknownKind

/-- The kind and payload that carry a request (Table 10-4); none for a command that is no request. -/
def encodeRequest : Instr → Option (Byte × List Byte)
  | .start => some (0x01, [])
  | .stop => some (0x02, [])
  | .hold => some (0x03, [])
  | .resume => some (0x04, [])
  | .drain => some (0x05, [])
  | .purge => some (0x06, [])
  | .declareEmpty => some (0x07, [])
  | .readLine => some (0x08, [])
  | .readTrain first count => some (0x09, put8 first ++ put8 count)
  | .setZone zone mode block setpoint budget options =>
      some (0x10, put8 zone ++ put8 mode ++ put8 block ++ put16 setpoint ++ put16 budget ++ [options])
  | .readZone zone => some (0x11, put8 zone)
  | .enableZone zone => some (0x12, put8 zone)
  | .disableZone zone => some (0x13, put8 zone)
  | .pauseZone zone => some (0x14, put8 zone)
  | .continueZone zone => some (0x15, put8 zone)
  | .doseZone zone => some (0x16, put8 zone)
  | .powerOn => some (0x17, put8 0)
  | .powerOff => some (0x17, put8 1)
  | .powerPause => some (0x17, put8 2)
  | .powerContinue => some (0x17, put8 3)
  | .postOrder billetId key flags temp exitOverride =>
      some (0x20, put32 billetId.toNat ++ putKey key ++ [flags] ++ put16 temp ++ put16 exitOverride)
  | .withdraw n => some (0x21, put8 n)
  | .readOrders first count => some (0x22, put8 first ++ put8 count)
  | .reclaim n => some (0x23, put8 n)
  | .loadRecipe key body trim policy =>
      some (0x30, putKey key ++ putBody body ++ putSigned trim ++ put8 policy)
  | .readRecipe (.key k) => some (0x31, put8 0 ++ putKey k)
  | .readRecipe (.window n) => some (0x31, put8 1 ++ put8 n ++ put8 0)
  | .flushRecipe key => some (0x32, putKey key)
  | .flushUnpinned => some (0x33, [])
  | .pinRecipe key => some (0x34, putKey key)
  | .unpinRecipe key => some (0x35, putKey key)
  | .setWindow window enable base mask body =>
      some (0x36, put8 window ++ put8 enable ++ put16 base.toNat ++ put16 mask.toNat ++ putBody body)
  | .readWants => some (0x37, [])
  | .takeWritebacks => some (0x38, [])
  | .requestWriteback key => some (0x39, putKey key)
  | .readAttention => some (0x40, [])
  | .enableAttention set => some (0x41, put16 set.toNat)
  | .disableAttention set => some (0x42, put16 set.toNat)
  | .clearAttention set => some (0x43, put16 set.toNat)
  | .selectCounter counter event => some (0x48, put8 counter ++ put8 event)
  | .readCounters => some (0x49, [])
  | .writeSetting id value => some (0x50, put8 id ++ put32 value)
  | .readSettings => some (0x51, [])
  | .writeProfile profile => some (0x52, profile.toList.flatMap put16)
  | .identify => some (0x70, [])
  | .restart => some (0x71, [])
  | .restartTakesEffect | .powerOnReset | .frameReceived _ | .idleGapAbandon | .framingErrorAbandon
  | .lengthByteDiscard _ | .replySent | .sliceDone _ _ | .sliceFault _ _ | .convReadyFall
  | .sliceTimerExpiry | .guardAsserted _ | .guardNegated _ | .pyroTemperatureMessage _
  | .pyroNoTarget | .readingTimerExpiry | .surveyTimerExpiry | .pressCall | .pressStopAsserted
  | .pressStopNegated | .holdDelayExpiry | .pushDone | .extractDone | .divertDone
  | .handlingTimerExpiry | .minPushTimerExpiry | .coldWaitExpiry | .batchDelayExpiry
  | .fetchTimeout _ | .syncByteBeginsFrame | .convReadyRise | .pressCallNegated => none

/-! ### The frame check (R189) -/

/-- One bit step of the CRC-16 with polynomial 0x1021, not reflected. -/
def crcBit (crc : BitVec 16) : BitVec 16 :=
  if crc.msb then (crc <<< 1) ^^^ 0x1021#16 else crc <<< 1

/-- The CRC taken over one more byte. -/
def crcByte (crc : BitVec 16) (b : Byte) : BitVec 16 :=
  crcBit (crcBit (crcBit (crcBit (crcBit (crcBit (crcBit (crcBit (crc ^^^ (b ++ 0#8)))))))))

/-- The CRC of a frame's bytes from the station address to the last payload byte, from 0xFFFF, with no
final inversion (R189). -/
def crc16 (bytes : List Byte) : BitVec 16 := bytes.foldl crcByte 0xFFFF#16

/-- The bytes the CRC covers: address, kind, tag, payload length and payload (Table 10-1). -/
def Frame.covered (f : Frame) : List Byte :=
  [f.address, f.kind, f.tag, BitVec.ofNat 8 f.payload.length] ++ f.payload

/-- A frame as it stands on the line: sync byte, covered bytes, CRC high byte first (Table 10-1). -/
def Frame.bytes (f : Frame) : List Byte :=
  [0xA5#8] ++ f.covered ++ [f.crc.extractLsb' 8 8, f.crc.extractLsb' 0 8]

/-- The frame of these fields with the CRC of R189. -/
def Frame.make (address kind tag : Byte) (payload : List Byte) : Frame :=
  let f : Frame := ⟨address, kind, tag, payload, 0⟩
  { f with crc := crc16 f.covered }

end Sys2Proof
end

