-- ==== Sys2Proof/Machine/Types.lean ====
section
/-! DEFINITION. The data of the ULK-624's blocks: one structure or inductive for each table of fields
and each set of named values the spec gives. -/

namespace Sys2Proof.Machine

/-! ### Named values (Table 10-5) -/

/-- The line state (R74). -/
inductive LineState where
  | stopped | run | hold | purging | faulted
deriving DecidableEq, Repr, Inhabited

/-- A billet record's verdict (Table 1-1). -/
inductive Verdict where
  | none | awaiting | good | rejectHot | rejectCold | rejectAged | rejectUnmeasured
deriving DecidableEq, Repr, Inhabited

/-- A DONE order's verdict (Table 6-3). -/
inductive OrderVerdict where
  | delivered | rejectHot | rejectCold | rejectAged | rejectUnmeasured | noRecipe | purged | restartLost
deriving DecidableEq, Repr, Inhabited

/-- A zone's mode (Table 3-1). -/
inductive ZoneMode where
  | step | block | burst
deriving DecidableEq, Repr, Inhabited

/-- A zone's state (R46). -/
inductive ZoneState where
  | off | idle | waiting | delivering | spent | halted
deriving DecidableEq, Repr, Inhabited

/-- A zone's stop code (R47). -/
inductive StopCode where
  | none | paused | budgetSpent | guardHalt | supplyLost | disabled
deriving DecidableEq, Repr, Inhabited

/-- A stop that waits for the slice in flight to end (Table 3-2). -/
inductive PendingEnd where
  | none | halt | disable
deriving DecidableEq, Repr, Inhabited

/-- The zone the pair-favour flag names (R57). -/
inductive Favour where
  | zone6 | zone5
deriving DecidableEq, Repr, Inhabited

/-- The state of an entry that holds a key (R144); an INVALID entry holds none and is an absent one. -/
inductive EntryState where
  | pending | valid | learned
deriving DecidableEq, Repr, Inhabited

/-- A recipe's learning policy (section 8.2). -/
inductive Policy where
  | writeThrough | writeBack
deriving DecidableEq, Repr, Inhabited

/-- Why a write-back record was handed over (Table 8-2). -/
inductive Cause where
  | evicted | flushed | requested | through
deriving DecidableEq, Repr, Inhabited

/-- The readiness of position 11 (R25). -/
inductive Readiness where
  | empty | notReady | ready
deriving DecidableEq, Repr, Inhabited

/-- The receiver's phase (section 10.2). -/
inductive ReceiverPhase where
  | hunting | receiving | deaf
deriving DecidableEq, Repr, Inhabited

/-- The cause of the last reset (R206). -/
inductive ResetCause where
  | powerOn | restartRequest
deriving DecidableEq, Repr, Inhabited

/-- Result codes (Table 10-3). -/
inductive ResultCode where
  | ok | unknownKind | badLength | badValue | wrongState | ringFull | tableBlocked | inUse | notFound
  | limit | listFull | empty | lineUnknown | notEmpty
deriving DecidableEq, Repr, Inhabited

/-- The eleven attention sources (Table 9-1). -/
inductive Source where
  | restarted | orderDone | ringLow | recipeWanted | recipeLost | writeback | zoneError | zoneEnd
  | supply | line | pressDeclined
deriving DecidableEq, Repr, Inhabited

/-- The fifteen events a counter can count (Table 9-2, 1 to 15). -/
inductive CountedEvent where
  | billetLoaded | delivered | rejectedHot | rejectedCold | rejectedAged | rejectedUnmeasured
  | orderSkipped | missAllocation | fetchTimeout | sliceCompleted | sliceLost | guardHalt
  | callDeclined | pushCompleted | writebackRecord
deriving DecidableEq, Repr, Inhabited

/-! ### Timers -/

/-- A running timer: the line clock at which it was loaded and the milliseconds it was loaded with.
A stopped timer is an absent one. -/
structure RunningTimer where
  loadedAt : Clock
  period   : Nat
deriving DecidableEq, Repr, Inhabited

/-- The cold-wait timer's three states (R93). -/
inductive ColdWait where
  | stopped
  | running (timer : RunningTimer)
  | expired
deriving DecidableEq, Repr, Inhabited

/-! ### Recipes (chapters 7 and 8) -/

/-- What a billet record's recipe is read from: a table entry or an override window (R3). -/
inductive RecipeRef where
  | entry (i : Fin 32)
  | window (w : Fin 2)
deriving DecidableEq, Repr, Inhabited

/-- An order's resolution (Table 6-2). -/
inductive Resolution where
  | recipe (ref : RecipeRef)
  | noRecipe
deriving DecidableEq, Repr, Inhabited

/-- A table entry that is not INVALID (Tables 7-1 and 7-2). -/
structure Entry where
  key      : Key
  state    : EntryState
  body     : Body
  policy   : Policy
  trim     : Int
  learned  : Nat
  pinned   : Bool
  useCount : Nat
deriving DecidableEq, Repr, Inhabited

/-- An override window (R145). -/
structure Window where
  enabled  : Bool
  base     : BitVec 16
  mask     : BitVec 16
  body     : Body
  useCount : Nat
deriving DecidableEq, Repr, Inhabited

/-- A want for the recipe of a PENDING entry, with its fetch timer (R151). -/
structure Want where
  key      : Key
  entry    : Fin 32
  wantedAt : Clock
  timeout  : Nat
deriving DecidableEq, Repr, Inhabited

/-- A write-back record (Table 8-2). -/
structure WritebackRecord where
  key     : Key
  trim    : Int
  learned : Nat
  cause   : Cause
deriving DecidableEq, Repr, Inhabited

/-- The recipe table (chapter 7): an absent entry is an INVALID one. -/
structure RecipeTable where
  entries     : Vector (Option Entry) 32
  windows     : Vector Window 2
  replacement : Fin 4
  wants       : List Want
  writebacks  : List WritebackRecord
deriving DecidableEq, Repr

/-! ### Orders (chapter 6) -/

/-- The fields of an order but its state (Table 6-2). -/
structure BilletOrder where
  billetId     : BitVec 32
  key          : Key
  entryTemp    : Option Nat
  exitOverride : Option Nat
  report       : Bool
  delay        : Bool
  resolution   : Resolution
deriving DecidableEq, Repr, Inhabited

/-- The status record of a DONE order (Table 6-3). -/
structure StatusRecord where
  verdict  : OrderVerdict
  reading  : Option Nat
  energy   : Nat
  inLine   : Nat
  holdTime : Nat
  finalTm  : Nat
deriving DecidableEq, Repr, Inhabited

/-- A ring slot with its state (Table 6-1); a FREE slot holds nothing that can be read (R122). -/
inductive Slot where
  | free
  | queued (order : BilletOrder)
  | loading (order : BilletOrder)
  | inLine (order : BilletOrder)
  | done (order : BilletOrder) (status : StatusRecord)
deriving DecidableEq, Repr, Inhabited

/-- The order ring (R120, R135). -/
structure Ring where
  slots      : Vector Slot 64
  reclaim    : Fin 64
  load       : Fin 64
  tail       : Fin 64
  occupied   : Nat
  queued     : Nat
  batch      : Nat
  batchTimer : Option RunningTimer
deriving DecidableEq, Repr

/-! ### The train (chapters 1 and 2) -/

/-- A billet record (Table 1-1). -/
structure BilletRecord where
  slot       : Fin 64
  billetId   : BitVec 32
  ref        : RecipeRef
  position   : Nat
  tm         : Nat
  sx         : Nat
  lastUpdate : Clock
  exitGoal   : Nat
  holdGoal   : Nat
  energy     : Nat
  enteredAt  : Clock
  holdTime   : Nat
  aged       : Bool
  suspect    : Bool
  extracting : Bool
  verdict    : Verdict
  reading    : Option Nat
deriving DecidableEq, Repr, Inhabited

/-- The thermal tracker (R2, R6, R10, R17, R19, R36): the train stands oldest record first. -/
structure Tracker where
  train        : List BilletRecord
  surveyTimer  : Option RunningTimer
  readingTimer : Option RunningTimer
  clock        : Clock
  line         : LineState
  demand       : Vector Bool 6
deriving DecidableEq, Repr

/-! ### The arbiter (chapter 3): zone z stands at index z − 1 -/

/-- The settings of a zone channel (Table 3-1). -/
structure ZoneSettings where
  mode        : ZoneMode
  blockSize   : Nat
  setpoint    : Nat
  budget      : Nat
  reload      : Bool
  errorNotice : Bool
  endNotice   : Bool
deriving DecidableEq, Repr, Inhabited

/-- A zone channel: its settings and its running state (Tables 3-1 and 3-2). -/
structure Zone where
  settings         : ZoneSettings
  state            : ZoneState
  request          : Bool
  paused           : Bool
  forced           : Bool
  pendingEnd       : PendingEnd
  blockCount       : Nat
  stopCode         : StopCode
  remaining        : Nat
  slicesCompleted  : BitVec 32
  energyDelivered  : BitVec 32
  energyUncredited : BitVec 32
deriving DecidableEq, Repr, Inhabited

/-- The slice in flight (R49). -/
structure SliceRecord where
  sequence : BitVec 8
  zone     : Fin 6
  eset     : Nat
  forced   : Bool
deriving DecidableEq, Repr, Inhabited

/-- The power arbiter (R46, R49). -/
structure Arbiter where
  zones      : Vector Zone 6
  enable     : Bool
  pause      : Bool
  favour     : Favour
  sequence   : BitVec 8
  slice      : Option SliceRecord
  sliceTimer : Option RunningTimer
deriving DecidableEq, Repr

/-! ### The cadence unit (chapters 4 and 5) -/

/-- A handling operation; a PUSH loads an order's slot or a gap (R89). -/
inductive Operation where
  | push (slot : Option (Fin 64))
  | extract
  | divert
deriving DecidableEq, Repr, Inhabited

/-- The cadence unit (Table 4-1). An absent exit verdict is an empty exit. -/
structure Cadence where
  line             : LineState
  manual           : Bool
  pressStop        : Bool
  supply           : Bool
  holdDelay        : Option RunningTimer
  noLoad           : Bool
  occupancyUnknown : Bool
  pendingCall      : Bool
  operation        : Option Operation
  handlingTimer    : Option RunningTimer
  minPush          : Option RunningTimer
  coldWait         : ColdWait
  purgeStep        : Nat
  exitVerdict      : Option Verdict
  readiness        : Readiness
deriving DecidableEq, Repr, Inhabited

/-! ### Attention, counters, settings (chapters 9 and 11) -/

/-- The attention unit's sets: bit n stands for source n (R178, R179, R197). -/
structure Attention where
  pending : BitVec 11
  enabled : BitVec 11
deriving DecidableEq, Repr, Inhabited

/-- An event counter; a selection of none is selection 0 (R185). -/
structure Counter where
  selection : Nat
  count     : BitVec 32
deriving DecidableEq, Repr, Inhabited

/-- The line settings (Table 11-1), the trajectory profile (R29) and the last reset cause (R206). -/
structure Settings where
  ambient         : Nat
  deadband        : Nat
  surveyPeriod    : Nat
  readingTimeout  : Nat
  handlingTimeout : Nat
  minPushInterval : Nat
  coldWait        : Nat
  holdDelay       : Nat
  fetchTimeout    : Nat
  batchThreshold  : Nat
  batchDelay      : Nat
  ringLowMark     : Nat
  sliceTimeout    : Nat
  supplyCeiling   : Nat
  pairAlternation : Nat
  profile         : Vector Nat 12
  lastReset       : ResetCause
deriving DecidableEq, Repr

/-! ### The link port and the pins (chapter 10, section 0.7) -/

/-- A reply as a block hands it to the port: the result code, and the reply data of Table 10-4 for an
accepted request (R193, R194). -/
structure Reply where
  result : ResultCode
  data   : List Byte
deriving DecidableEq, Repr, Inhabited

/-- The link port (R188, R190, R192, R207). -/
structure Port where
  inbound    : Option Frame
  replyFrame : Option (List Byte)
  discard    : Bool
  receiver   : ReceiverPhase
  station    : BitVec 5
  restartDue : Bool
deriving DecidableEq, Repr, Inhabited

/-- The levels of the signal pins (Table 0-4): inputs as the environment last drove them, outputs as
the part drives them. -/
structure Pins where
  pressCall  : Bool
  pressStop  : Bool
  convReady  : Bool
  guards     : Vector Bool 6
  address    : BitVec 5
  push       : Bool
  extract    : Bool
  divert     : Bool
  skip       : Bool
  pressReady : Bool
  alert      : Bool
  linkDe     : Bool
deriving DecidableEq, Repr

/-- A message of the arbiter on CONV_TX (R59). -/
inductive ConvMessage where
  | sliceOrder (sequence : BitVec 8) (zone : Nat) (energy : Nat)
  | sliceCancel (sequence : BitVec 8)
deriving DecidableEq, Repr, Inhabited

/-- What the part has sent that leaves no level behind: converter messages, oldest first, and the
pulses given on SKIP and PRESS_DECLINE. DESIGN CHOICE (log entry 3). -/
structure Wires where
  convTx        : List ConvMessage
  skipPulses    : Nat
  declinePulses : Nat
deriving DecidableEq, Repr, Inhabited

end Sys2Proof.Machine
end

