-- ==== Sys2Proof/Machine/Defaults.lean ====
section
/-! DEFINITION. The values the blocks hold after power-on: the defaults of Tables 2-1, 3-1 and 11-1,
and each block's power-on state. -/

namespace Sys2Proof.Machine

/-- The default trajectory profile (Table 2-1). -/
def defaultProfile : Vector Nat 12 := #v[21, 43, 64, 85, 107, 128, 149, 171, 192, 213, 235, 256]

/-- The default line settings (Table 11-1), with the reset cause of a power-on (R206). -/
def defaultSettings : Settings where
  ambient := 400
  deadband := 80
  surveyPeriod := 250
  readingTimeout := 1500
  handlingTimeout := 8000
  minPushInterval := 15000
  coldWait := 30000
  holdDelay := 20
  fetchTimeout := 5000
  batchThreshold := 0
  batchDelay := 500
  ringLowMark := 4
  sliceTimeout := 2000
  supplyCeiling := 4000
  pairAlternation := 0
  profile := defaultProfile
  lastReset := .powerOn

/-- The default zone settings (Table 3-1). -/
def defaultZoneSettings : ZoneSettings where
  mode := .step
  blockSize := 4
  setpoint := 500
  budget := 400
  reload := true
  errorNotice := true
  endNotice := false

/-- A zone channel after power-on (R73). -/
def powerOnZone : Zone where
  settings := defaultZoneSettings
  state := .off
  request := false
  paused := false
  forced := false
  pendingEnd := .none
  blockCount := 0
  stopCode := .none
  remaining := 0
  slicesCompleted := 0
  energyDelivered := 0
  energyUncredited := 0

/-- The arbiter after power-on (R73). -/
def powerOnArbiter : Arbiter where
  zones := Vector.replicate 6 powerOnZone
  enable := false
  pause := false
  favour := .zone6
  sequence := 0
  slice := none
  sliceTimer := none

/-- The body of parameters that are all 0: a window's after power-on (R165), a PENDING entry's at
its allocation (R143). -/
def zeroBody : Body := ⟨0, 0, 0, 0, 0, 0, 0, 0, 0⟩

/-- The recipe table after power-on (R165, R177). -/
def powerOnRecipes : RecipeTable where
  entries := Vector.replicate 32 none
  windows := Vector.replicate 2 ⟨false, 0, 0, zeroBody, 0⟩
  replacement := 0
  wants := []
  writebacks := []

/-- The order ring after power-on (R140). -/
def powerOnRing : Ring where
  slots := Vector.replicate 64 .free
  reclaim := 0
  load := 0
  tail := 0
  occupied := 0
  queued := 0
  batch := 0
  batchTimer := none

/-- The thermal tracker after power-on (R28, R44). -/
def powerOnTracker : Tracker where
  train := []
  surveyTimer := none
  readingTimer := none
  clock := 0
  line := .stopped
  demand := Vector.replicate 6 false

/-- The cadence unit after either reset, before PRESS_STOP is looked at (R103). -/
def resetCadence : Cadence where
  line := .stopped
  manual := false
  pressStop := false
  supply := false
  holdDelay := none
  noLoad := false
  occupancyUnknown := true
  pendingCall := false
  operation := none
  handlingTimer := none
  minPush := none
  coldWait := .stopped
  purgeStep := 0
  exitVerdict := none
  readiness := .empty

/-- The attention unit after power-on: P holds RESTARTED, source 0, alone, and E is empty (R184). -/
def powerOnAttention : Attention := ⟨1, 0⟩

/-- The port after either reset, with the station address read from the pins (R202). -/
def resetPort (address : BitVec 5) : Port where
  inbound := none
  replyFrame := none
  discard := false
  receiver := .hunting
  station := address
  restartDue := false

/-- The pins with every level low. The spec gives no level of an input at power-on: DESIGN CHOICE
(log entry 2). Every output is negated (R103, R184, R202). -/
def lowPins : Pins where
  pressCall := false
  pressStop := false
  convReady := false
  guards := Vector.replicate 6 false
  address := 0
  push := false
  extract := false
  divert := false
  skip := false
  pressReady := false
  alert := false
  linkDe := false

end Sys2Proof.Machine
end

