-- ==== Sys2Proof/Machine/State.lean ====
section
/-! DEFINITION. The state of the ULK-624, the outcomes of a command, and the state after power-on. -/

namespace Sys2Proof.Machine

/-- The state: one field for each block of Table 0-1, the settings, the pins, what has been sent, the
last reply a block handed to the port, and the queue of commands that wait. -/
structure State where
  port      : Port
  ring      : Ring
  recipes   : RecipeTable
  tracker   : Tracker
  arbiter   : Arbiter
  cadence   : Cadence
  attention : Attention
  counters  : Vector Counter 4
  settings  : Settings
  pins      : Pins
  wires     : Wires
  reply     : Option Reply
  pending   : List Instr
deriving DecidableEq, Repr

/-- The reasons for which the machine stops with a fault. There are none: the part answers a request it
does not carry out with a result code and goes on (R193, R194), and an event that finds nothing to
act on changes nothing (R60, R90). The type is closed and empty. -/
inductive Fault where
deriving DecidableEq, Repr

/-- The reasons for which a command has no meaning. -/
inductive Refusal where
  /-- Raised by `exec` alone, for a command of the table that the model does not give a meaning yet;
  safe, since no claim about that command can then be proved. No arm raises it. -/
  | notModelled (mnemonic : String)
deriving DecidableEq, Repr

/-- What a command answers. -/
abbrev Outcome : Type := Host.Outcome State Fault Refusal

/-- The machine right after power-on (R28, R44, R73, R103, R140, R165, R177, R184, R187, R202, R203). The
input pins' levels are log entry 2's; with PRESS_STOP low no hold-delay timer is loaded. -/
def State.reset : State where
  port := resetPort 0
  ring := powerOnRing
  recipes := powerOnRecipes
  tracker := powerOnTracker
  arbiter := powerOnArbiter
  cadence := resetCadence
  attention := powerOnAttention
  counters := Vector.replicate 4 ⟨0, 0⟩
  settings := defaultSettings
  pins := lowPins
  wires := ⟨[], 0, 0⟩
  reply := none
  pending := []

end Sys2Proof.Machine
end

