-- ==== Sys2Proof/Machine/Operands.lean ====
section
/-! DEFINITION. Operands: how a request's numbers name zones, settings, sources and recipes, the range
checks the blocks make on them, and the codes a reply gives to named values (Table 10-5). -/

namespace Sys2Proof.Machine

/-! ### Zones, windows, settings, sources -/

/-- The channel a zone number names, 1..6 (R45). -/
def zoneOf (n : Nat) : Option (Fin 6) :=
  if h : 1 ≤ n ∧ n ≤ 6 then some ⟨n - 1, by omega⟩ else none

/-- The number of a zone, 1..6. -/
def zoneNumber (z : Fin 6) : Nat := z.val + 1

/-- All six zones. -/
def allZones : List (Fin 6) := [0, 1, 2, 3, 4, 5]

/-- The window a window number names, 0 or 1 (R159, R164). -/
def windowOf (n : Nat) : Option (Fin 2) :=
  if h : n < 2 then some ⟨n, h⟩ else none

/-- A mode code names a mode (Table 10-5). -/
def modeOf : Nat → Option ZoneMode
  | 0 => some .step
  | 1 => some .block
  | 2 => some .burst
  | _ => none

/-- A policy code names a policy (Table 10-5). -/
def policyOf : Nat → Option Policy
  | 0 => some .writeThrough
  | 1 => some .writeBack
  | _ => none

/-- The settings a SET ZONE carries, when every value lies in its range (Table 3-1), the mode names a
mode, and no undefined option bit is set (R45, R197). -/
def zoneSettingsOf (mode blockSize setpoint budget : Nat) (options : BitVec 8) : Option ZoneSettings :=
  match modeOf mode with
  | none => none
  | some m =>
    if blockSize ≤ 16 ∧ 1 ≤ setpoint ∧ setpoint ≤ 4000 ∧ 1 ≤ budget ∧ budget ≤ 65535 ∧
        options.toNat < 8 then
      some ⟨m, blockSize, setpoint, budget, options.getLsbD 0, options.getLsbD 1, options.getLsbD 2⟩
    else none

/-- The range of a setting id (Table 11-1); none outside 1..15. -/
def settingRange : Nat → Option (Nat × Nat)
  | 1 => some (0, 800)
  | 2 => some (0, 800)
  | 3 => some (50, 1000)
  | 4 => some (100, 5000)
  | 5 => some (1000, 30000)
  | 6 => some (0, 600000)
  | 7 => some (0, 600000)
  | 8 => some (0, 600)
  | 9 => some (500, 60000)
  | 10 => some (0, 16)
  | 11 => some (1, 60000)
  | 12 => some (0, 63)
  | 13 => some (100, 10000)
  | 14 => some (1, 4000)
  | 15 => some (0, 1)
  | _ => none

/-- The settings with one of them written (Table 11-1's ids). -/
def writeSettingOf (id value : Nat) (c : Settings) : Settings :=
  match id with
  | 1 => { c with ambient := value }
  | 2 => { c with deadband := value }
  | 3 => { c with surveyPeriod := value }
  | 4 => { c with readingTimeout := value }
  | 5 => { c with handlingTimeout := value }
  | 6 => { c with minPushInterval := value }
  | 7 => { c with coldWait := value }
  | 8 => { c with holdDelay := value }
  | 9 => { c with fetchTimeout := value }
  | 10 => { c with batchThreshold := value }
  | 11 => { c with batchDelay := value }
  | 12 => { c with ringLowMark := value }
  | 13 => { c with sliceTimeout := value }
  | 14 => { c with supplyCeiling := value }
  | 15 => { c with pairAlternation := value }
  | _ => c

/-- The fifteen settings in id order (R205). -/
def settingValues (c : Settings) : List Nat :=
  [c.ambient, c.deadband, c.surveyPeriod, c.readingTimeout, c.handlingTimeout, c.minPushInterval,
   c.coldWait, c.holdDelay, c.fetchTimeout, c.batchThreshold, c.batchDelay, c.ringLowMark,
   c.sliceTimeout, c.supplyCeiling, c.pairAlternation]

/-- No value of the list is less than the one before it. -/
def nonDecreasing : List Nat → Bool
  | a :: b :: rest => decide (a ≤ b) && nonDecreasing (b :: rest)
  | _ => true

/-- A profile WRITE PROFILE accepts: every value 0..256, none less than the one before it (R29, R205). -/
def profileOk (p : Vector Nat 12) : Bool :=
  p.toList.all (fun v => decide (v ≤ 256)) && nonDecreasing p.toList

/-- The number of a source (Table 9-1). -/
def Source.number : Source → Nat
  | .restarted => 0
  | .orderDone => 1
  | .ringLow => 2
  | .recipeWanted => 3
  | .recipeLost => 4
  | .writeback => 5
  | .zoneError => 6
  | .zoneEnd => 7
  | .supply => 8
  | .line => 9
  | .pressDeclined => 10

/-- The sources a source set names; none when it names a number above 10 (R197, section 9.4). -/
def sourceSetOf (set : BitVec 16) : Option (BitVec 11) :=
  if set.toNat < 2048 then some (set.setWidth 11) else none

/-- The number of a counted event (Table 9-2). -/
def CountedEvent.number : CountedEvent → Nat
  | .billetLoaded => 1
  | .delivered => 2
  | .rejectedHot => 3
  | .rejectedCold => 4
  | .rejectedAged => 5
  | .rejectedUnmeasured => 6
  | .orderSkipped => 7
  | .missAllocation => 8
  | .fetchTimeout => 9
  | .sliceCompleted => 10
  | .sliceLost => 11
  | .guardHalt => 12
  | .callDeclined => 13
  | .pushCompleted => 14
  | .writebackRecord => 15

/-! ### Recipes and orders -/

/-- Every parameter of a recipe body lies in its range in Table 7-2. -/
def bodyOk (b : Body) : Bool :=
  decide (1 ≤ b.gain ∧ b.gain ≤ 65535 ∧ b.surface ≤ 255 ∧ b.loss ≤ 65535 ∧ b.equal ≤ 65535 ∧
    3200 ≤ b.tExit ∧ b.tExit ≤ 24000 ∧ 16 ≤ b.width ∧ b.width ≤ 1600 ∧
    b.tExit + b.width ≤ b.slim ∧ b.slim ≤ 25600 ∧ b.tHold ≤ b.tExit ∧
    1 ≤ b.maxHold ∧ b.maxHold ≤ 7200)

/-- A trim lies in −2048..+2047 (Table 7-1). -/
def trimOk (t : Int) : Bool := decide (-2048 ≤ t ∧ t ≤ 2047)

/-- The order a POST ORDER carries, when its values pass the first check of R124: no undefined flag bit
(R197), a present entry temperature at most 16000, a present exit override in 3200..24000. An
absent field's number is ignored. -/
def orderOf (billetId : BitVec 32) (key : Key) (flags : BitVec 8) (entryTemp exitOverride : Nat)
    (resolution : Resolution) : Option BilletOrder :=
  let temp := if flags.getLsbD 2 then some entryTemp else none
  let goal := if flags.getLsbD 3 then some exitOverride else none
  if flags.toNat < 16 ∧ temp.all (fun t => decide (t ≤ 16000)) ∧
      goal.all (fun g => decide (3200 ≤ g ∧ g ≤ 24000)) then
    some ⟨billetId, key, temp, goal, flags.getLsbD 0, flags.getLsbD 1, resolution⟩
  else none

/-! ### Codes of named values in replies (Tables 10-3 and 10-5) -/

/-- Bit n of a flag byte. -/
def flagBit (n : Nat) (b : Bool) : Nat := if b then 2 ^ n else 0

/-- The result code's byte (Table 10-3). -/
def ResultCode.code : ResultCode → Nat
  | .ok => 0
  | .unknownKind => 1
  | .badLength => 2
  | .badValue => 3
  | .wrongState => 4
  | .ringFull => 5
  | .tableBlocked => 6
  | .inUse => 7
  | .notFound => 8
  | .limit => 9
  | .listFull => 10
  | .empty => 11
  | .lineUnknown => 12
  | .notEmpty => 13

/-- The line state's code. -/
def LineState.code : LineState → Nat
  | .stopped => 0
  | .run => 1
  | .hold => 2
  | .purging => 3
  | .faulted => 4

/-- The billet verdict's code. -/
def Verdict.code : Verdict → Nat
  | .none => 0
  | .awaiting => 1
  | .good => 2
  | .rejectHot => 3
  | .rejectCold => 4
  | .rejectAged => 5
  | .rejectUnmeasured => 6

/-- The exit verdict's code: 0xFF for an empty exit. -/
def exitCode : Option Verdict → Nat
  | none => 0xFF
  | some v => v.code

/-- The order verdict's code; 0 stands for an order that is not DONE. -/
def OrderVerdict.code : OrderVerdict → Nat
  | .delivered => 1
  | .rejectHot => 2
  | .rejectCold => 3
  | .rejectAged => 4
  | .rejectUnmeasured => 5
  | .noRecipe => 6
  | .purged => 7
  | .restartLost => 8

/-- The slot state's code. -/
def Slot.code : Slot → Nat
  | .free => 0
  | .queued _ => 1
  | .loading _ => 2
  | .inLine _ => 3
  | .done _ _ => 4

/-- The zone mode's code. -/
def ZoneMode.code : ZoneMode → Nat
  | .step => 0
  | .block => 1
  | .burst => 2

/-- The zone state's code. -/
def ZoneState.code : ZoneState → Nat
  | .off => 0
  | .idle => 1
  | .waiting => 2
  | .delivering => 3
  | .spent => 4
  | .halted => 5

/-- The stop code's code. -/
def StopCode.code : StopCode → Nat
  | .none => 0
  | .paused => 1
  | .budgetSpent => 2
  | .guardHalt => 3
  | .supplyLost => 4
  | .disabled => 5

/-- The pending end's code. -/
def PendingEnd.code : PendingEnd → Nat
  | .none => 0
  | .halt => 1
  | .disable => 2

/-- The entry state's code; an absent entry is INVALID, 0. -/
def entryCode : Option Entry → Nat
  | none => 0
  | some e => match e.state with
    | .pending => 1
    | .valid => 2
    | .learned => 3

/-- The policy's code. -/
def Policy.code : Policy → Nat
  | .writeThrough => 0
  | .writeBack => 1

/-- The write-back cause's code. -/
def Cause.code : Cause → Nat
  | .evicted => 0
  | .flushed => 1
  | .requested => 2
  | .through => 3

/-- The code of the operation in flight. -/
def operationCode : Option Operation → Nat
  | none => 0
  | some (.push _) => 1
  | some .extract => 2
  | some .divert => 3

/-- The loaded slot byte of the line view: 0xFF but for a PUSH that loads an order (R199). -/
def loadedSlotCode : Option Operation → Nat
  | some (.push (some i)) => i.val
  | _ => 0xFF

/-- The cold-wait timer's code. -/
def ColdWait.code : ColdWait → Nat
  | .stopped => 0
  | .running _ => 1
  | .expired => 2

/-- The readiness code. -/
def Readiness.code : Readiness → Nat
  | .empty => 0
  | .notReady => 1
  | .ready => 2

/-- The reset cause's code (Table 10-4, IDENTIFY). -/
def ResetCause.code : ResetCause → Nat
  | .powerOn => 0
  | .restartRequest => 1

/-- The resolution byte of a recipe reference (R197). -/
def RecipeRef.code : RecipeRef → Nat
  | .entry i => i.val
  | .window w => 0x80 + w.val

/-- The resolution byte (R197). -/
def Resolution.code : Resolution → Nat
  | .recipe ref => ref.code
  | .noRecipe => 0xFE

end Sys2Proof.Machine
end

