-- ==== Sys2Proof/Machine/Flags.lean ====
section
/-! DEFINITION. Flags and levels: every condition the rules compute from the state, each once. -/

namespace Sys2Proof.Machine

/-! ### Recipes of records -/

/-- The parameters a recipe reference reads (R3); an INVALID entry, which no record refers to (R144),
reads the zero parameters of R143. -/
def RecipeTable.bodyOf (t : RecipeTable) : RecipeRef → Body
  | .entry i => match t.entries[i] with
    | some e => e.body
    | none => zeroBody
  | .window w => t.windows[w].body

/-- The trim a recipe reference reads: 0 for an override window (R3, R145). -/
def RecipeTable.trimOf (t : RecipeTable) : RecipeRef → Int
  | .entry i => match t.entries[i] with
    | some e => e.trim
    | none => 0
  | .window _ => 0

/-- The parameters a billet record reads from its recipe reference (R3). -/
def State.bodyOf (s : State) (r : BilletRecord) : Body := s.recipes.bodyOf r.ref

/-- The trim a billet record reads (R3). -/
def State.trimOf (s : State) (r : BilletRecord) : Int := s.recipes.trimOf r.ref

/-- The effective gain G′ from G and the trim (R11). -/
def effectiveGain (gain : Nat) (trim : Int) : Nat :=
  clampTo 1 65535 ((gain * (4096 + trim).toNat + 2048) / 4096)

/-- The rise of the mean for an energy (R12 step 2, R34 step 1). -/
def meanRise (energy gain : Nat) : Nat := (energy * gain + 32768) / 65536

/-- The rise of the surface excess for a rise of the mean (R12 step 3, R34 step 2). -/
def surfaceRise (rise surface : Nat) : Nat := (rise * surface + 128) / 256

/-! ### The exit and position 11 -/

/-- The record at the exit position: the oldest one, if it stands at 12 (R2). -/
def Tracker.exitRecord (t : Tracker) : Option BilletRecord :=
  match t.train with
  | r :: _ => if r.position = 12 then some r else none
  | [] => none

/-- The record at a position. -/
def Tracker.recordAt (t : Tracker) (p : Nat) : Option BilletRecord :=
  t.train.find? (fun r => r.position == p)

/-- The readiness of position 11: its billet is ready when its Tm is at least exit goal − W (R25). -/
def State.readinessNow (s : State) : Readiness :=
  match s.tracker.recordAt 11 with
  | none => .empty
  | some r => if r.exitGoal ≤ r.tm + (s.bodyOf r).width then .ready else .notReady

/-- The verdict of an exit reading: the first test of Table 1-2 that holds (R22). -/
def readingVerdict (body : Body) (aged : Bool) (ts tm exitGoal : Nat) : Verdict :=
  if aged then .rejectAged
  else if body.slim < ts then .rejectHot
  else if exitGoal + body.width < tm then .rejectHot
  else if tm + body.width < exitGoal then .rejectCold
  else .good

/-- The re-check of a GOOD exit record (R24). -/
def recheckVerdict (body : Body) (r : BilletRecord) : Verdict :=
  if r.aged then .rejectAged
  else if r.tm + body.width < r.exitGoal then .rejectCold
  else .good

/-- A verdict is one of the four REJECT verdicts. -/
def Verdict.isReject : Verdict → Bool
  | .rejectHot | .rejectCold | .rejectAged | .rejectUnmeasured => true
  | .none | .awaiting | .good => false

/-! ### Trajectory, guard and demand (chapter 2) -/

/-- The trajectory goal of a record under the line state known to the tracker (R30). -/
def trajectoryGoal (line : LineState) (ambient : Nat) (r : BilletRecord) : Option Nat :=
  match line with
  | .run => some (max r.exitGoal ambient)
  | .hold => some (max r.holdGoal ambient)
  | .stopped | .purging | .faulted => none

/-- The trajectory target at a profile fraction (R31). -/
def trajectoryTarget (ambient goal fraction : Nat) : Nat :=
  ambient + ((goal - ambient) * fraction + 128) / 256

/-- The profile value of a coil position; position 12 has none (section 2.1). -/
def profileAt (profile : Vector Nat 12) (p : Nat) : Option Nat := profile[p]?

/-- A record at a coil position is below target (R30, R31, R32). -/
def State.belowTarget (s : State) (r : BilletRecord) : Bool :=
  match trajectoryGoal s.tracker.line s.settings.ambient r, profileAt s.settings.profile r.position with
  | some goal, some fraction =>
      decide (r.tm + s.settings.deadband < trajectoryTarget s.settings.ambient goal fraction)
  | _, _ => false

/-- The effective setpoint of a zone: min(setpoint, SUPPLY_CEILING) (R33, R58 step 1). -/
def State.effectiveSetpoint (s : State) (z : Fin 6) : Nat :=
  min s.arbiter.zones[z].settings.setpoint s.settings.supplyCeiling

/-- A record of a zone with this effective setpoint is guarded (R34). -/
def State.guarded (s : State) (eset : Nat) (r : BilletRecord) : Bool :=
  let body := s.bodyOf r
  let rise := surfaceRise (meanRise eset (effectiveGain body.gain (s.trimOf r))) body.surface
  decide (body.slim < r.tm + r.sx + rise)

/-- The upstream position of a zone, 2z − 2 (section 0.2). -/
def upstream (z : Fin 6) : Nat := 2 * z.val

/-- The downstream position of a zone, 2z − 1 (section 0.2). -/
def downstream (z : Fin 6) : Nat := 2 * z.val + 1

/-- A record stands at one of a zone's positions. -/
def inZone (z : Fin 6) (r : BilletRecord) : Bool :=
  r.position == upstream z || r.position == downstream z

/-- The occupants of a zone (R35). -/
def Tracker.occupants (t : Tracker) (z : Fin 6) : List BilletRecord := t.train.filter (inZone z)

/-- The line state is one in which zones can have demand (R35, condition 1). -/
def LineState.heats : LineState → Bool
  | .run | .hold => true
  | .stopped | .purging | .faulted => false

/-- The guard query: some occupant of the zone is guarded (R42). -/
def State.guardQuery (s : State) (z : Fin 6) : Bool :=
  (s.tracker.occupants z).any (s.guarded (s.effectiveSetpoint z))

/-- The occupancy query: the number of records in the zone (R42). -/
def State.occupancy (s : State) (z : Fin 6) : Nat := (s.tracker.occupants z).length

/-- Zone demand (R35). -/
def State.demandNow (s : State) (z : Fin 6) : Bool :=
  s.tracker.line.heats && (s.tracker.occupants z).any s.belowTarget && !s.guardQuery z

/-! ### Zone channels (chapter 3) -/

/-- A zone claims the converter while its request or its forced flag is set (R48). -/
def Zone.claims (c : Zone) : Bool := c.request || c.forced

/-- A zone is eligible for a grant: WAITING and not paused (R56). -/
def Zone.eligible (c : Zone) : Bool := c.state == .waiting && !c.paused

/-- The block size as it acts: 0 acts as 16 (R45). -/
def ZoneSettings.actingBlockSize (c : ZoneSettings) : Nat := if c.blockSize = 0 then 16 else c.blockSize

/-- The zones from highest to lowest rank (R56, R57). -/
def rankOrder (pairAlternation : Nat) (favour : Favour) : List (Fin 6) :=
  if pairAlternation = 1 ∧ favour = .zone5 then [4, 5, 3, 2, 1, 0] else [5, 4, 3, 2, 1, 0]

/-- The zones that rank above a zone (R65). -/
def higherZones (pairAlternation : Nat) (favour : Favour) (z : Fin 6) : List (Fin 6) :=
  (rankOrder pairAlternation favour).takeWhile (fun x => x != z)

/-- The converter is free, on and not paused, so that a grant is made to an eligible zone (R56). -/
def Arbiter.mayGrant (a : Arbiter) : Bool := a.slice.isNone && a.enable && !a.pause

/-- Some eligible zone of higher rank waits (R65). -/
def State.higherWaits (s : State) (z : Fin 6) : Bool :=
  (higherZones s.settings.pairAlternation s.arbiter.favour z).any (fun x => s.arbiter.zones[x].eligible)

/-! ### The line (chapters 4 and 5) -/

/-- Some hold cause is present (R76). -/
def Cadence.held (c : Cadence) : Bool := c.manual || c.pressStop || c.supply

/-- Global enable is set and CONV_READY is high (R80, R81). -/
def State.powerFit (s : State) : Bool := s.arbiter.enable && s.pins.convReady

/-- The level of PRESS_READY (R85). -/
def Cadence.pressReadyLevel (c : Cadence) : Bool :=
  c.line == .run && c.exitVerdict == some .good && c.operation.isNone

/-- The test of R84: a draining line in RUN with an empty train and handling idle. -/
def State.drained (s : State) : Bool :=
  s.cadence.line == .run && s.cadence.noLoad && s.tracker.train.isEmpty && s.cadence.operation.isNone

/-- Position 11 lets a push be made (Table 4-2, case 3). -/
def Cadence.pushFit (c : Cadence) : Bool :=
  c.readiness == .empty || c.readiness == .ready || c.coldWait == .expired

/-- The level of ALERT: some source is both pending and enabled (R179). -/
def Attention.alertLevel (a : Attention) : Bool := a.pending &&& a.enabled != 0#11

/-! ### Recipe keys (chapter 7) -/

/-- The set a key belongs to (R142). -/
def setOf (k : Key) : Fin 8 := ⟨(k.grade.toNat + k.size.toNat) % 8, Nat.mod_lt _ (by decide)⟩

/-- Way w of set s is entry 4 × s + w (R142). -/
def wayOf (set : Fin 8) (w : Fin 4) : Fin 32 := ⟨4 * set.val + w.val, by omega⟩

/-- The four entries of a set, way 0 first (R142). -/
def waysOf (set : Fin 8) : List (Fin 32) := [wayOf set 0, wayOf set 1, wayOf set 2, wayOf set 3]

/-- An entry holds the key in a state other than INVALID (R142). -/
def holdsKey (k : Key) : Option Entry → Bool
  | some e => e.key == k
  | none => false

/-- The key search (R142). -/
def RecipeTable.keySearch (t : RecipeTable) (k : Key) : Option (Fin 32) :=
  (waysOf (setOf k)).find? (fun i => holdsKey k t.entries[i])

/-- A window matches a key: they agree at every bit where the mask holds a 0 (R145). -/
def Window.covers (w : Window) (k : Key) : Bool := (k.value ^^^ w.base) &&& ~~~w.mask == 0#16

/-- A window takes part in the lookup and matches (R146). -/
def Window.resolves (w : Window) (k : Key) : Bool := w.enabled && w.covers k

/-- The write-back list can take a record for a key: it holds fewer than 8, or one for that key (R149). -/
def canTake (list : List WritebackRecord) (k : Key) : Bool :=
  decide (list.length < 8) || list.any (fun r => r.key == k)

/-- A way is eligible as a victim (R149). -/
def victimFit (list : List WritebackRecord) : Option Entry → Bool
  | none => false
  | some e => !e.pinned && e.useCount == 0 &&
      match e.state with
      | .pending => false
      | .valid => true
      | .learned => canTake list e.key

/-- The ways in the order a victim search looks at them, from the replacement counter upward (R149). -/
def searchOrder (set : Fin 8) (replacement : Fin 4) : List (Fin 32) :=
  [wayOf set replacement, wayOf set (replacement + 1), wayOf set (replacement + 2),
   wayOf set (replacement + 3)]

/-- The way an allocation takes: the lowest INVALID way, otherwise the first victim (R148, R158). -/
def RecipeTable.wayFor (t : RecipeTable) (k : Key) : Option (Fin 32) :=
  match (waysOf (setOf k)).find? (fun i => t.entries[i].isNone) with
  | some i => some i
  | none => (searchOrder (setOf k) t.replacement).find? (fun i => victimFit t.writebacks t.entries[i])

/-- The number of pinned ways in a set (R162). -/
def RecipeTable.pinnedWays (t : RecipeTable) (set : Fin 8) : Nat :=
  (waysOf set).countP (fun i => (t.entries[i].map Entry.pinned).getD false)

/-- A head is loadable: its resolution is a window, or an entry that is VALID or LEARNED (R129). -/
def RecipeTable.loadable (t : RecipeTable) : Resolution → Bool
  | .noRecipe => false
  | .recipe (.window _) => true
  | .recipe (.entry i) => match t.entries[i] with
    | some e => e.state != .pending
    | none => false

end Sys2Proof.Machine
end

