-- ==== Sys2Proof/Machine/Ops.lean ====
section
/-! DEFINITION. The named operations the blocks share: replies, attention sources, event counters,
timers, and the channel, record and entry updates. -/

namespace Sys2Proof.Machine

/-! ### Replies (R193, R194) -/

/-- The block carries the request out and hands result code OK and its reply data to the port. -/
def State.accept (s : State) (data : List Byte) : State := { s with reply := some ⟨.ok, data⟩ }

/-- The block refuses the request with a result code; a refused request changes nothing else (R193). -/
def State.refuse (s : State) (code : ResultCode) : State := { s with reply := some ⟨code, []⟩ }

/-! ### The attention unit (R178, R179) -/

/-- The set that holds one source. -/
def Source.bit (x : Source) : BitVec 11 := 1#11 <<< x.number

/-- The state with the attention sets replaced; the ALERT level follows (R179). -/
def State.setAttention (s : State) (a : Attention) : State :=
  { s with attention := a, pins := { s.pins with alert := a.alertLevel } }

/-- A block raises a source: its number is placed in P, whatever E holds (R178). -/
def State.raise (s : State) (x : Source) : State :=
  s.setAttention { s.attention with pending := s.attention.pending ||| x.bit }

/-- A source raised only when a condition holds. -/
def State.raiseIf (s : State) (b : Bool) (x : Source) : State := if b then s.raise x else s

/-! ### The event counters (R185) -/

/-- A counter at an occurrence of an event: it adds one, wrapping, if its selection is that event. -/
def Counter.tick (event : Nat) (c : Counter) : Counter :=
  if c.selection = event then { c with count := c.count + 1 } else c

/-- Every counter whose selection is the event adds one (R185). -/
def State.count (s : State) (e : CountedEvent) : State :=
  { s with counters := s.counters.mapIdx (fun _ c => c.tick e.number) }

/-! ### Timers -/

/-- A timer loaded now with a period. -/
def State.timer (s : State) (period : Nat) : RunningTimer := ⟨s.tracker.clock, period⟩

/-- A timer loaded now, or not started when its setting is 0. -/
def State.timerUnlessZero (s : State) (period : Nat) : Option RunningTimer :=
  if period = 0 then none else some (s.timer period)

/-- A running timer falls due when the line clock has advanced by its period (R6, R151). -/
def RunningTimer.due (t : RunningTimer) (now : Clock) : Bool := decide (t.period ≤ elapsed now t.loadedAt)

/-! ### Updates of one channel, one record, one entry -/

/-- The state with one zone channel changed. -/
def State.updateZone (s : State) (z : Fin 6) (f : Zone → Zone) : State :=
  { s with arbiter.zones := s.arbiter.zones.set z (f s.arbiter.zones[z]) }

/-- The state with every zone channel changed alike. -/
def State.updateZones (s : State) (f : Zone → Zone) : State :=
  { s with arbiter.zones := s.arbiter.zones.mapIdx (fun _ c => f c) }

/-- The state with the exit record changed, if there is one. -/
def State.updateExit (s : State) (f : BilletRecord → BilletRecord) : State :=
  match s.tracker.train with
  | r :: rest => if r.position = 12 then { s with tracker.train := f r :: rest } else s
  | [] => s

/-- The state with one table entry replaced; none makes it INVALID. -/
def State.setEntry (s : State) (i : Fin 32) (e : Option Entry) : State :=
  { s with recipes.entries := s.recipes.entries.set i e }

/-- The state with one ring slot replaced. -/
def State.setSlot (s : State) (i : Fin 64) (x : Slot) : State :=
  { s with ring.slots := s.ring.slots.set i x }

/-! ### Use counts (R150) -/

/-- The use count a resolution names, changed. An order marked NO_RECIPE refers to nothing. -/
def RecipeTable.changeUse (t : RecipeTable) (r : Resolution) (f : Nat → Nat) : RecipeTable :=
  match r with
  | .noRecipe => t
  | .recipe (.entry i) =>
      { t with entries := t.entries.set i (t.entries[i].map (fun e => { e with useCount := f e.useCount })) }
  | .recipe (.window w) =>
      { t with windows := t.windows.set w { t.windows[w] with useCount := f t.windows[w].useCount } }

/-- One order more resolved to the entry or window. -/
def State.addUse (s : State) (r : Resolution) : State :=
  { s with recipes := s.recipes.changeUse r (· + 1) }

/-- One order less resolved to the entry or window. -/
def State.dropUse (s : State) (r : Resolution) : State :=
  { s with recipes := s.recipes.changeUse r (· - 1) }

end Sys2Proof.Machine
end

