-- ==== Sys2Proof/Machine/Thermal.lean ====
section
/-! DEFINITION. The thermal tracker's arithmetic and its acts on the train: thermal update, heat step,
split of a slice, demand evaluation, exit re-check, readiness (chapters 1 and 2). The reports to
the arbiter change its request flags (R36, R48); the grant that follows is made once for the
whole event (R56) and is not here. -/

namespace Sys2Proof.Machine

/-! ### One record -/

/-- The longest interval a thermal update applies (R7 step 1). -/
def updateCap : Nat := 4000

/-- The loss of the mean over an interval (R7 step 2). -/
def lossOver (tm ambient loss dt : Nat) : Nat := ((tm - ambient) * loss * dt + 2147483648) / 4294967296

/-- The equalisation of the surface excess over an interval, capped at the excess (R7 step 3). -/
def equalOver (sx equal dt : Nat) : Nat := min ((sx * equal * dt + 8388608) / 16777216) sx

/-- The thermal update of a record to `now` (R7, R8). -/
def thermalUpdate (ambient : Nat) (line : LineState) (body : Body) (now : Clock) (r : BilletRecord) :
    BilletRecord :=
  let dt := min (elapsed now r.lastUpdate) updateCap
  let held := if line = .hold then addSaturating top32 r.holdTime dt else r.holdTime
  { r with
    tm := max (r.tm - lossOver r.tm ambient body.loss dt) ambient
    sx := r.sx - equalOver r.sx body.equal dt
    holdTime := held
    aged := r.aged || decide (body.maxHold * 1000 < held)
    lastUpdate := now }

/-- Steps 2 to 4 of the heat step, on a record just updated (R12). -/
def heat (body : Body) (trim : Int) (e : Nat) (r : BilletRecord) : BilletRecord :=
  let rise := meanRise e (effectiveGain body.gain trim)
  { r with
    tm := min (r.tm + rise) 25600
    sx := min (r.sx + surfaceRise rise body.surface) 4000
    energy := addSaturating top32 r.energy e }

/-- The thermal update of a record of the train to the line clock, under the line state known to the
tracker (R7, R9). -/
def State.updated (s : State) (r : BilletRecord) : BilletRecord :=
  thermalUpdate s.settings.ambient s.tracker.line (s.bodyOf r) s.tracker.clock r

/-- A heat step of a share, at the line clock (R12). -/
def State.heatStep (s : State) (e : Nat) (r : BilletRecord) : BilletRecord :=
  heat (s.bodyOf r) (s.trimOf r) e (s.updated r)

/-- The thermal update of every record in the train (R9). -/
def State.updateTrain (s : State) : State :=
  { s with tracker.train := s.tracker.train.map s.updated }

/-! ### The credit (R13) -/

/-- The shares of a slice of e: downstream, upstream and uncredited (the table of R13). -/
def splitShares (downOccupied upOccupied : Bool) (e : Nat) : Nat × Nat × Nat :=
  match downOccupied, upOccupied with
  | true, true => ((e + 1) / 2, e / 2, 0)
  | true, false => (e, 0, 0)
  | false, true => (0, e, 0)
  | false, false => (0, 0, e)

/-- The shares of a slice of e for a zone's occupants as they stand. -/
def State.shares (s : State) (z : Fin 6) (e : Nat) : Nat × Nat × Nat :=
  splitShares (s.tracker.recordAt (downstream z)).isSome (s.tracker.recordAt (upstream z)).isSome e

/-- A record after the credit of e to a zone: its share by a heat step if it stands in the zone. -/
def State.credited (s : State) (z : Fin 6) (e : Nat) (r : BilletRecord) : BilletRecord :=
  if r.position = downstream z then s.heatStep (s.shares z e).1 r
  else if r.position = upstream z then s.heatStep (s.shares z e).2.1 r
  else r

/-- The train after the credit of e to a zone (R13, R39 step 1). -/
def State.creditZone (s : State) (z : Fin 6) (e : Nat) : State :=
  { s with tracker.train := s.tracker.train.map (s.credited z e) }

/-! ### Demand (R35, R36, R37) -/

/-- A request arriving at a channel (R46, R48). -/
def Zone.arrive (c : Zone) : Zone :=
  { c with request := true, state := if c.state = .idle then .waiting else c.state }

/-- A request withdrawn at a channel (R46, R48). -/
def Zone.withdraw (c : Zone) : Zone :=
  { c with
    request := false
    state := if c.state = .waiting ∧ c.forced = false then .idle else c.state }

/-- The demand flag of a zone set without a report. -/
def State.setDemand (s : State) (z : Fin 6) (d : Bool) : State :=
  { s with tracker.demand := s.tracker.demand.set z d }

/-- The evaluation of one zone's demand: a change updates the flag and is reported (R36). -/
def State.evaluateZone (s : State) (z : Fin 6) : State :=
  let d := s.demandNow z
  if d = s.tracker.demand[z] then s
  else (s.setDemand z d).updateZone z (if d then Zone.arrive else Zone.withdraw)

/-- The evaluation of all six zones (R37). -/
def State.evaluateAll (s : State) : State := allZones.foldl State.evaluateZone s

/-! ### Reports to the cadence unit (R22 to R25) -/

/-- The exit verdict as the tracker passes it to the cadence unit: empty, or the exit record's. -/
def State.reportExit (s : State) : State :=
  { s with cadence.exitVerdict := s.tracker.exitRecord.map BilletRecord.verdict }

/-- The position-11 readiness as the tracker hands it to the cadence unit (R25). -/
def State.reportReadiness (s : State) : State :=
  { s with cadence.readiness := s.readinessNow }

/-- A record as the re-check at exit leaves it: only a GOOD record that is not being extracted is
re-checked (R24). -/
def State.rechecked (s : State) (r : BilletRecord) : BilletRecord :=
  if r.verdict = .good ∧ r.extracting = false then
    { r with verdict := recheckVerdict (s.bodyOf r) r }
  else r

/-- The re-check at exit, and its report (R24). -/
def State.recheckExit (s : State) : State := (s.updateExit s.rechecked).reportExit

/-! ### Moving the train (R4, R5, R15) -/

/-- The exit goal of a new record (R5). -/
def exitGoalOf (body : Body) (exitOverride : Option Nat) : Nat :=
  min (exitOverride.getD body.tExit) (body.slim - body.width)

/-- The record of an order whose billet has entered position 0 (R4, R5). -/
def State.newRecord (s : State) (slot : Fin 64) (order : BilletOrder) (ref : RecipeRef) : BilletRecord :=
  let body := s.recipes.bodyOf ref
  let goal := exitGoalOf body order.exitOverride
  { slot := slot
    billetId := order.billetId
    ref := ref
    position := 0
    tm := clampTo s.settings.ambient 25600 (order.entryTemp.getD s.settings.ambient)
    sx := 0
    lastUpdate := s.tracker.clock
    exitGoal := goal
    holdGoal := min body.tHold goal
    energy := 0
    enteredAt := s.tracker.clock
    holdTime := 0
    aged := false
    suspect := false
    extracting := false
    verdict := .none
    reading := none }

/-- A record moved up one position; the one that comes to 12 becomes AWAITING_READING unless the line
is in PURGING (R15 step 2, R19). -/
def movedUp (line : LineState) (r : BilletRecord) : BilletRecord :=
  { r with
    position := r.position + 1
    verdict := if r.position = 11 ∧ line ≠ .purging then .awaiting else r.verdict }

/-- The train updated and moved up, with the reading timer of an arriving record started (R15 steps 1
and 2, R19). -/
def State.advanceTrain (s : State) : State :=
  let s1 := s.updateTrain
  let arrives := (s1.tracker.recordAt 11).isSome && s1.tracker.line != .purging
  { s1 with
    tracker.train := s1.tracker.train.map (movedUp s1.tracker.line)
    tracker.readingTimer :=
      if arrives then some (s1.timer s1.settings.readingTimeout) else s1.tracker.readingTimer }

/-- The LOADING order of a slot becomes IN_LINE, and its record joins the end of the train (R4, R131). -/
def State.bindOrder (s : State) (slot : Fin 64) : State :=
  match s.ring.slots[slot] with
  | .loading order =>
      let s1 := s.setSlot slot (.inLine order)
      match order.resolution with
      | .recipe ref => { s1 with tracker.train := s1.tracker.train ++ [s1.newRecord slot order ref] }
      | .noRecipe => s1
  | _ => s

/-- The survey timer started if the train was empty and now holds a record (R15 step 4, R17). -/
def State.startSurvey (s : State) (wasEmpty : Bool) : State :=
  if wasEmpty && !s.tracker.train.isEmpty then
    { s with tracker.surveyTimer := some (s.timer s.settings.surveyPeriod) }
  else s

/-- The column taken as pushed: steps 1 to 4 of R15, with the order the push loaded, if any. -/
def State.columnPushed (s : State) (loaded : Option (Fin 64)) : State :=
  let s1 := s.advanceTrain
  let s2 := match loaded with
    | some slot => s1.bindOrder slot
    | none => s1
  s2.startSurvey s.tracker.train.isEmpty

end Sys2Proof.Machine
end

