-- ==== Sys2Proof/Machine/Power.lean ====
section
/-! DEFINITION. The power arbiter: slice orders and grants, the end of a slice, halts, the credit
exchange and supply loss up to the notice to the cadence unit (chapter 3). -/

namespace Sys2Proof.Machine

/-! ### Messages and slice orders (R57, R58, R59) -/

/-- A message sent on CONV_TX (R59). -/
def State.send (s : State) (m : ConvMessage) : State :=
  { s with wires.convTx := s.wires.convTx ++ [m] }

/-- The pair-favour flag after a slice order for a zone (R57). -/
def turnFavour (pairAlternation : Nat) (z : Fin 6) (favour : Favour) : Favour :=
  if pairAlternation = 1 then
    if z = 5 then .zone5 else if z = 4 then .zone6 else favour
  else favour

/-- A slice order to a zone, with the block count it leaves (R58). A forced slice is one DOSE ZONE
asked for; its forced flag has been cleared at the grant. -/
def State.orderSlice (s : State) (z : Fin 6) (forced : Bool) (blockCount : Nat) : State :=
  let eset := s.effectiveSetpoint z
  let sequence := s.arbiter.sequence + 1
  let s1 := s.send (.sliceOrder sequence (zoneNumber z) eset)
  let s2 := { s1 with
    arbiter.sequence := sequence
    arbiter.slice := some ⟨sequence, z, eset, forced⟩
    arbiter.sliceTimer := some (s1.timer s1.settings.sliceTimeout)
    arbiter.favour := turnFavour s1.settings.pairAlternation z s1.arbiter.favour }
  s2.updateZone z (fun c => { c with state := .delivering, blockCount := blockCount })

/-- A channel at a forced grant the guard refuses: the forced flag is cleared, and the zone becomes IDLE
unless its request stands (R58). -/
def Zone.dropDose (c : Zone) : Zone :=
  { c with forced := false, state := if c.request then .waiting else .idle }

/-- The grant among zones in rank order: the first eligible one is granted. A forced grant the guard
refuses orders no slice, and the grant is made again: to the same zone as a normal slice while its
request stands, otherwise among the zones still eligible (R56, R58). -/
def State.grantAmong (s : State) : List (Fin 6) → State
  | [] => s
  | z :: rest =>
    if s.arbiter.zones[z].eligible then
      if s.arbiter.zones[z].forced then
        if s.guardQuery z then
          let s1 := s.updateZone z Zone.dropDose
          if s.arbiter.zones[z].request then s1.orderSlice z false 1 else s1.grantAmong rest
        else (s.updateZone z (fun c => { c with forced := false })).orderSlice z true 1
      else s.orderSlice z false 1
    else s.grantAmong rest

/-- The grant of R56: made whenever the converter is free, on and not paused and a zone is eligible. -/
def State.grant (s : State) : State :=
  if s.arbiter.mayGrant then
    s.grantAmong (rankOrder s.settings.pairAlternation s.arbiter.favour)
  else s

/-! ### Stops of a channel -/

/-- A channel that becomes OFF with a stop code (R51, R54, R62 case 2, R71 step 3). -/
def Zone.turnOff (code : StopCode) (c : Zone) : Zone :=
  { c with
    state := .off, stopCode := code, paused := false, forced := false, pendingEnd := .none
    blockCount := 0 }

/-- A channel that becomes HALTED (R68, steps 1 and 2). -/
def Zone.halted (c : Zone) : Zone :=
  { c with
    state := .halted, stopCode := .guardHalt, paused := false, forced := false, pendingEnd := .none
    blockCount := 0 }

/-- A zone halts (R68). -/
def State.haltZone (s : State) (z : Fin 6) : State :=
  ((s.updateZone z Zone.halted).count .guardHalt).raiseIf
    s.arbiter.zones[z].settings.errorNotice .zoneError

/-- A channel whose grant ends: WAITING while it claims the converter, otherwise IDLE (R62). -/
def Zone.endGrant (c : Zone) : Zone :=
  { c with state := if c.claims then .waiting else .idle, blockCount := 0 }

/-- A channel that is spent: SPENT with reload on, OFF with reload off (R66). -/
def Zone.spend (c : Zone) : Zone :=
  if c.settings.reload then { c with state := .spent, stopCode := .budgetSpent, blockCount := 0 }
  else c.turnOff .budgetSpent

/-- A zone is spent, and its end notice is given (R66). -/
def State.spendZone (s : State) (z : Fin 6) : State :=
  (s.updateZone z Zone.spend).raiseIf s.arbiter.zones[z].settings.endNotice .zoneEnd

/-- What DISABLE ZONE and POWER OFF do to a channel (R51, R54). -/
def Zone.disable (c : Zone) : Zone :=
  match c.state with
  | .off => c
  | .delivering => { c with pendingEnd := if c.pendingEnd = .halt then .halt else .disable }
  | .idle | .waiting | .spent | .halted => c.turnOff .disabled

/-- The reload of a channel at a push completion (R67, Table 3-3). -/
def Zone.reloaded (c : Zone) : Zone :=
  match c.state with
  | .off | .halted => c
  | .idle | .waiting | .delivering => { c with remaining := c.settings.budget }
  | .spent => { c with
      remaining := c.settings.budget
      state := if c.claims then .waiting else .idle
      stopCode := if c.paused then .paused else .none }

/-! ### The end of a slice (R39, R61 to R66) -/

/-- A channel's counters at the end of a slice with a credit exchange: budget, slices completed, energy
delivered (R61 steps 3 and 4, R71 step 1). -/
def Zone.countSlice (e : Nat) (c : Zone) : Zone :=
  { c with
    remaining := c.remaining - 1
    slicesCompleted := c.slicesCompleted + 1
    energyDelivered := c.energyDelivered + BitVec.ofNat 32 e }

/-- A channel at the tracker's answer: the uncredited part and the demand (R61 step 5). -/
def Zone.takeAnswer (uncredited : Nat) (demand : Bool) (c : Zone) : Zone :=
  { c with
    energyUncredited := c.energyUncredited + BitVec.ofNat 32 uncredited
    request := demand }

/-- The credit exchange for a zone and its credited energy, both sides: the tracker's heat steps, demand
and answer, and the readiness report of zone 6 (R39); the arbiter's totals and request flag. -/
def State.creditExchange (s : State) (z : Fin 6) (e : Nat) : State :=
  let s1 := s.creditZone z e
  let d := s1.demandNow z
  let s2 := (s1.setDemand z d).updateZone z (Zone.takeAnswer (s.shares z e).2.2 d)
  if z = 5 then s2.reportReadiness else s2

/-- The slice record removed and its timer stopped. -/
def State.clearSlice (s : State) : State :=
  { s with arbiter.slice := none, arbiter.sliceTimer := none }

/-- Steps common to every end of a slice with a credit exchange (R61 steps 1 to 6, R71 step 1). -/
def State.closeSlice (s : State) (x : SliceRecord) (e : Nat) : State :=
  ((s.updateZone x.zone (Zone.countSlice e)).creditExchange x.zone e).clearSlice

/-- A bursting or blocking zone keeps the converter (R64, R65). -/
def State.keepsConverter (s : State) (z : Fin 6) : Bool :=
  let c := s.arbiter.zones[z]
  c.request &&
  match c.settings.mode with
  | .step => false
  | .block => decide (c.blockCount < c.settings.actingBlockSize)
  | .burst => !s.higherWaits z

/-- The block count at a continuation: it grows by one (R58) within its range 0..16 (Table 3-2). A burst may
run on past 16 slices (R65), and no rule states the count then: it is free in its range (log
entry 15). -/
def State.nextBlockCount (s : State) (z : Fin 6) : Nat :=
  let count := s.arbiter.zones[z].blockCount
  if count < 16 then count + 1 else (Config.blockCountPastRange s.tracker.clock s.arbiter.sequence).val

/-- The decision on a zone's next state after its slice (R62), and the grant that follows when the
converter is left free. -/
def State.decideZone (s : State) (z : Fin 6) (forced : Bool) : State :=
  let c := s.arbiter.zones[z]
  if c.pendingEnd = .halt then (s.haltZone z).grant
  else if c.pendingEnd = .disable then (s.updateZone z (Zone.turnOff .disabled)).grant
  else if c.remaining = 0 then (s.spendZone z).grant
  else if forced || c.paused || s.arbiter.pause then (s.updateZone z Zone.endGrant).grant
  else if s.keepsConverter z then s.orderSlice z false (s.nextBlockCount z)
  else (s.updateZone z Zone.endGrant).grant

/-! ### Supply loss (R70, R71) -/

/-- Steps 1 to 4 of a supply loss, with the energy R70 credits to a slice in flight. Step 5, the notice
to the cadence unit, is `State.supplyLoss`. -/
def State.loseSupply (s : State) (energy : SliceRecord → Nat) : State :=
  let s1 := match s.arbiter.slice with
    | some x => (s.closeSlice x (energy x)).count .sliceLost
    | none => s
  let s2 := { s1 with arbiter.enable := false }
  (s2.updateZones (fun c => if c.state = .off then c else c.turnOff .supplyLost)).raise .supply

end Sys2Proof.Machine
end

