-- ==== Sys2Proof/Machine/Orders.lean ====
section
/-! DEFINITION. The order ring: retirement, batching, RING_LOW, the load decision, withdrawal and reclaim
(chapter 6), and the removal of a record from the exit (R16). -/

namespace Sys2Proof.Machine

/-! ### ORDER_DONE batching (R135) -/

/-- ORDER_DONE raised: the batch counter becomes 0 and the delay timer stops (R135). -/
def State.raiseOrderDone (s : State) : State :=
  ({ s with ring.batch := 0, ring.batchTimer := none }).raise .orderDone

/-- A retirement raises ORDER_DONE: at once with BATCH_THRESHOLD 0, REPORT and no DELAY, otherwise when
the threshold is above 0 and the counter has reached it (R135 steps 3 and 4). -/
def batchRaises (threshold batch : Nat) (report delay : Bool) : Bool :=
  (report && !delay && threshold == 0) || (decide (0 < threshold) && decide (threshold ≤ batch))

/-- A retirement taken into batching (R135). -/
def State.batch (s : State) (order : BilletOrder) : State :=
  let s1 := if order.report then { s with ring.batch := addSaturating top16 s.ring.batch 1 } else s
  let s2 := if order.delay then
      { s1 with ring.batchTimer := some (s1.timer s1.settings.batchDelay) } else s1
  if batchRaises s2.settings.batchThreshold s2.ring.batch order.report order.delay then
    s2.raiseOrderDone
  else s2

/-! ### Retirement (R132, R133) -/

/-- The event a retirement is counted under (R132 step 3). -/
def OrderVerdict.counted : OrderVerdict → Option CountedEvent
  | .delivered => some .delivered
  | .rejectHot => some .rejectedHot
  | .rejectCold => some .rejectedCold
  | .rejectAged => some .rejectedAged
  | .rejectUnmeasured => some .rejectedUnmeasured
  | .noRecipe => some .orderSkipped
  | .purged | .restartLost => none

/-- A retirement counted for the event counters (R132 step 3). -/
def State.countRetirement (s : State) (v : OrderVerdict) : State :=
  match v.counted with
  | some e => s.count e
  | none => s

/-- Steps 3 and 4 of a retirement: the count, and batching unless the verdict is RESTART_LOST. -/
def State.afterRetirement (s : State) (order : BilletOrder) (v : OrderVerdict) : State :=
  let s1 := s.countRetirement v
  if v = .restartLost then s1 else s1.batch order

/-- The retirement of the order in a slot with a status record (R132): an IN_LINE or LOADING order lowers
its use count, a QUEUED one is an order marked NO_RECIPE and lowers none. A slot that holds no order
to retire is left as it is. -/
def State.retire (s : State) (slot : Fin 64) (status : StatusRecord) : State :=
  match s.ring.slots[slot] with
  | .inLine order | .loading order =>
      ((s.setSlot slot (.done order status)).dropUse order.resolution).afterRetirement order status.verdict
  | .queued order => (s.setSlot slot (.done order status)).afterRetirement order status.verdict
  | .free | .done _ _ => s

/-- The status record with no values of a billet: absent reading and zeros (R133). -/
def emptyStatus (v : OrderVerdict) : StatusRecord := ⟨v, none, 0, 0, 0, 0⟩

/-- The status record of a billet's record at its removal at line clock `now` (R16, R133). -/
def recordStatus (v : OrderVerdict) (now : Clock) (r : BilletRecord) : StatusRecord :=
  ⟨v, r.reading, r.energy, elapsed now r.enteredAt / 1000, r.holdTime / 1000, r.tm⟩

/-- The verdict with which a diversion outside a purge retires a record: its own reject verdict (R16).
A diversion is started only for a reject verdict, which is final (R100), so the last case meets no
record a run reaches (log entry 10). -/
def Verdict.atDiversion : Verdict → OrderVerdict
  | .rejectHot => .rejectHot
  | .rejectCold => .rejectCold
  | .rejectAged => .rejectAged
  | .rejectUnmeasured => .rejectUnmeasured
  | .none | .awaiting | .good => .purged

/-! ### Removal from the exit (R16) -/

/-- The train without its oldest record; the timers that depend on it follow (R16, R17, R20). -/
def State.dropExit (s : State) : State :=
  let rest := s.tracker.train.tail
  { s with
    tracker.train := rest
    tracker.surveyTimer := if rest.isEmpty then none else s.tracker.surveyTimer
    tracker.readingTimer := none }

/-- The exit record leaves the train and its order is retired with the verdict its record and the kind
of leaving give (R16); the exit verdict becomes empty (R99, R100, R111). With no record at position
12 only the latter happens. -/
def State.removeExit (s : State) (verdict : BilletRecord → OrderVerdict) : State :=
  match s.tracker.exitRecord with
  | some r =>
      { s.dropExit.retire r.slot (recordStatus (verdict r) s.tracker.clock r) with
        cadence.exitVerdict := none }
  | none => { s with cadence.exitVerdict := none }

/-! ### The load decision (R94, R129, R138) -/

/-- RING_LOW raised when the queued count has fallen from above RING_LOW_MARK to it or below (R138). -/
def State.ringLow (s : State) (before : Nat) : State :=
  s.raiseIf (decide (s.settings.ringLowMark < before) && decide (s.ring.queued ≤ s.settings.ringLowMark))
    .ringLow

/-- The head leaves QUEUED: the load pointer advances and the queued count falls by one (R129). -/
def State.advanceLoad (s : State) : State :=
  { s with ring.load := s.ring.load + 1, ring.queued := s.ring.queued - 1 }

/-- One skip pulse on SKIP (R95). -/
def State.skipPulse (s : State) : State :=
  { s with wires.skipPulses := s.wires.skipPulses + 1 }

/-- The skips of a push start, at most `n` of them: while the head is marked NO_RECIPE it is retired,
with a skip pulse (R129 step 1). -/
def State.skipHeads (s : State) : Nat → State
  | 0 => s
  | n + 1 =>
    match s.ring.slots[s.ring.load] with
    | .queued order =>
        if order.resolution = .noRecipe then
          (((s.retire s.ring.load (emptyStatus .noRecipe)).advanceLoad).skipPulse).skipHeads n
        else s
    | .free | .loading _ | .inLine _ | .done _ _ => s

/-- The head of a push start, if it is loadable (R129 step 2): its slot. -/
def State.loadableHead (s : State) : Option (Fin 64) :=
  if s.ring.queued = 0 then none
  else match s.ring.slots[s.ring.load] with
    | .queued order => if s.recipes.loadable order.resolution then some s.ring.load else none
    | .free | .loading _ | .inLine _ | .done _ _ => none

/-- A queued slot becomes LOADING; the order's fields stay (R129 step 2). -/
def Slot.toLoading : Slot → Slot
  | .queued order => .loading order
  | x => x

/-- The load decision of a push start: the slot the push loads, or a gap, and the ring after it (R129). -/
def State.loadDecision (s : State) : State × Option (Fin 64) :=
  if s.cadence.noLoad then (s, none)
  else
    let s1 := s.skipHeads s.ring.queued
    match s1.loadableHead with
    | some i =>
        (((s1.setSlot i s1.ring.slots[i].toLoading).advanceLoad).ringLow s.ring.queued, some i)
    | none => (s1.ringLow s.ring.queued, none)

/-! ### NO_RECIPE marking (R130) -/

/-- A slot whose QUEUED order is resolved to an entry takes the mark NO_RECIPE (R130). -/
def Slot.markNoRecipe (i : Fin 32) : Slot → Slot
  | .queued order =>
      if order.resolution = .recipe (.entry i) then .queued { order with resolution := .noRecipe }
      else .queued order
  | x => x

/-- A slot whose QUEUED order is resolved to an entry. -/
def Slot.queuedFor (i : Fin 32) : Slot → Bool
  | .queued order => order.resolution == .recipe (.entry i)
  | .free | .loading _ | .inLine _ | .done _ _ => false

/-- Every QUEUED order resolved to an entry is marked NO_RECIPE, and the entry's use count falls by one
for each (R130). -/
def State.markNoRecipe (s : State) (i : Fin 32) : State :=
  let marked := s.ring.slots.toList.countP (Slot.queuedFor i)
  { s with
    ring.slots := s.ring.slots.mapIdx (fun _ x => x.markNoRecipe i)
    recipes := s.recipes.changeUse (.recipe (.entry i)) (· - marked) }

/-! ### Withdraw and reclaim (R126, R128) -/

/-- Frees the newest QUEUED orders, at most `n` of them; answers the number freed (R126). -/
def State.withdrawNewest (s : State) : Nat → State × Nat
  | 0 => (s, 0)
  | n + 1 =>
    let newest := s.ring.tail - 1
    match s.ring.slots[newest] with
    | .queued order =>
        let s1 := (s.setSlot newest .free).dropUse order.resolution
        let s2 := { s1 with
          ring.tail := newest
          ring.occupied := s1.ring.occupied - 1
          ring.queued := s1.ring.queued - 1 }
        let (s3, freed) := s2.withdrawNewest n
        (s3, freed + 1)
    | .free | .loading _ | .inLine _ | .done _ _ => (s, 0)

/-- Frees DONE orders from the oldest end, at most `n` of them; answers the number freed (R128). -/
def State.reclaimOldest (s : State) : Nat → State × Nat
  | 0 => (s, 0)
  | n + 1 =>
    if s.ring.occupied = 0 then (s, 0)
    else match s.ring.slots[s.ring.reclaim] with
      | .done _ _ =>
          let s1 := s.setSlot s.ring.reclaim .free
          let s2 := { s1 with
            ring.reclaim := s1.ring.reclaim + 1
            ring.occupied := s1.ring.occupied - 1 }
          let (s3, freed) := s2.reclaimOldest n
          (s3, freed + 1)
      | .free | .queued _ | .loading _ | .inLine _ => (s, 0)

end Sys2Proof.Machine
end

