-- ==== Sys2Proof/Machine/Recipes.lean ====
section
/-! DEFINITION. The recipe table: hand-over of write-back records, eviction and flush, the lookup and
its allocation, and the learning step (chapters 7 and 8). -/

namespace Sys2Proof.Machine

/-! ### The write-back list (R173) -/

/-- The list after a hand-over: the key's record updated in place, or the record appended (R173). -/
def handInto (list : List WritebackRecord) (x : WritebackRecord) : List WritebackRecord :=
  if list.any (fun r => r.key == x.key) then list.map (fun r => if r.key = x.key then x else r)
  else list ++ [x]

/-- A write-back record formed from an entry as it stands (Table 8-2). -/
def Entry.record (e : Entry) (cause : Cause) : WritebackRecord := ⟨e.key, e.trim, e.learned, cause⟩

/-- A record handed to the write-back list: WRITEBACK is raised and the event counted (R173). -/
def State.handOver (s : State) (x : WritebackRecord) : State :=
  (({ s with recipes.writebacks := handInto s.recipes.writebacks x }).raise .writeback).count
    .writebackRecord

/-- An entry gives up its key: a LEARNED one hands its record first, then it becomes INVALID (R149, R160,
R161). An INVALID way gives up nothing. -/
def State.giveUp (s : State) (i : Fin 32) (cause : Cause) : State :=
  match s.recipes.entries[i] with
  | some e => (if e.state = .learned then s.handOver (e.record cause) else s).setEntry i none
  | none => s

/-! ### Lookup and allocation (R146, R148) -/

/-- The replacement counter advances by one, from 3 wrapping to 0 (R147). -/
def State.advanceReplacement (s : State) : State :=
  { s with recipes.replacement := s.recipes.replacement + 1 }

/-- The entry an allocation at a miss makes: PENDING, with zero parameters, WRITE_THROUGH, unpinned, in
use by the order being posted (R148 step 5). -/
def pendingEntry (k : Key) : Entry := ⟨k, .pending, zeroBody, .writeThrough, 0, 0, false, 1⟩

/-- The allocation at a POST ORDER miss in the way found: eviction, new entry, want, count (R148 steps 4
to 7). -/
def State.allocate (s : State) (k : Key) (i : Fin 32) : State :=
  let s1 := (s.giveUp i .evicted).setEntry i (some (pendingEntry k))
  let want : Want := ⟨k, i, s1.tracker.clock, s1.settings.fetchTimeout⟩
  (({ s1 with recipes.wants := s1.recipes.wants ++ [want] }).raise .recipeWanted).count .missAllocation

/-- The outcome of a lookup that resolves a key: the reference, the lookup outcome's code (0 window,
1 found, 2 newly allocated; Table 10-4), and the table after it, its use count raised. -/
structure Lookup where
  ref     : RecipeRef
  outcome : Nat
  after   : State

/-- The lookup of a posted key: window 0, window 1, the table, an allocation (R146). None when the key is
blocked: no room for a want, or no way (R148). -/
def State.lookup (s : State) (k : Key) : Option Lookup :=
  if s.recipes.windows[(0 : Fin 2)].resolves k then
    some ⟨.window 0, 0, s.addUse (.recipe (.window 0))⟩
  else if s.recipes.windows[(1 : Fin 2)].resolves k then
    some ⟨.window 1, 0, s.addUse (.recipe (.window 1))⟩
  else match s.recipes.keySearch k with
    | some i => some ⟨.entry i, 1, s.addUse (.recipe (.entry i))⟩
    | none =>
      if 4 ≤ s.recipes.wants.length then none
      else match s.recipes.wayFor k with
        | some i => some ⟨.entry i, 2, s.allocate k i⟩
        | none => none

/-! ### LOAD RECIPE (R157, R158) -/

/-- An entry that LOAD RECIPE fills or overwrites: key, pinned flag and use count are kept (R157). -/
def Entry.load (body : Body) (trim : Int) (policy : Policy) (e : Entry) : Entry :=
  { e with state := .valid, body := body, policy := policy, trim := trim, learned := 0 }

/-- The entry LOAD RECIPE makes for an absent key (R158). -/
def loadedEntry (k : Key) (body : Body) (trim : Int) (policy : Policy) : Entry :=
  ⟨k, .valid, body, policy, trim, 0, false, 0⟩

/-- The want of an entry removed from the want list; the others keep their order (R151, R157). -/
def State.dropWant (s : State) (i : Fin 32) : State :=
  { s with recipes.wants := s.recipes.wants.filter (fun w => w.entry != i) }

/-! ### Learning (R167 to R170) -/

/-- The trim after a learning step: raised or lowered by 8 outside the dead band W / 2, then clamped
(R167 steps 2 and 3). -/
def learnedTrim (residual : Int) (width : Nat) (trim : Int) : Int :=
  let band : Int := (width / 2 : Nat)
  let moved := if band < residual then trim + 8 else if residual < -band then trim - 8 else trim
  max (-2048) (min moved 2047)

/-- The entry after steps 1 to 3 of a learning step (R167). -/
def Entry.learn (residual : Int) (width : Nat) (e : Entry) : Entry :=
  { e with
    learned := addSaturating top16 e.learned 1
    trim := learnedTrim residual width e.trim }

/-- A trim change handed on by the entry's policy (R169, R170): the entry is the one after the change. -/
def State.handOnTrim (s : State) (i : Fin 32) (e : Entry) : State :=
  match e.policy with
  | .writeBack => s.setEntry i (some { e with state := .learned })
  | .writeThrough =>
    if canTake s.recipes.writebacks e.key then
      (s.setEntry i (some { e with state := .valid })).handOver (e.record .through)
    else s.setEntry i (some { e with state := .learned })

/-- A learning step for an entry, with the re-evaluation of all zones and the grant that follow a trim
change (R167, R168). -/
def State.learn (s : State) (i : Fin 32) (residual : Int) (width : Nat) : State :=
  match s.recipes.entries[i] with
  | none => s
  | some e =>
    let e1 := e.learn residual width
    if e1.trim = e.trim then s.setEntry i (some e1)
    else ((s.handOnTrim i e1).evaluateAll).grant

end Sys2Proof.Machine
end

