-- ==== Sys2Proof/Machine/Line.lean ====
section
/-! DEFINITION. The cadence unit: handling operations, the press's calls, the choice of the next
operation, changes of line state, hold causes, timeouts and the purge (chapters 4 and 5). -/

namespace Sys2Proof.Machine

/-! ### Levels and pulses -/

/-- PRESS_READY set to its level at the end of an event (R85). -/
def State.settle (s : State) : State := { s with pins.pressReady := s.cadence.pressReadyLevel }

/-- A call declined: one pulse on PRESS_DECLINE, PRESS_DECLINED raised, the decline counted (R87). -/
def State.decline (s : State) : State :=
  (({ s with wires.declinePulses := s.wires.declinePulses + 1 }).raise .pressDeclined).count .callDeclined

/-- A pending call declined, if there is one (R88). -/
def State.declinePending (s : State) : State :=
  if s.cadence.pendingCall then ({ s with cadence.pendingCall := false }).decline else s

/-! ### Handling operations (R89) -/

/-- A handling operation starts: it is recorded, the handling timer is loaded and its output asserted;
SKIP is asserted with a PUSH that loads a gap (R89, R95). -/
def State.startOperation (s : State) (o : Operation) : State :=
  { s with
    cadence.operation := some o
    cadence.handlingTimer := some (s.timer s.settings.handlingTimeout)
    pins.push := match o with
      | .push _ => true
      | .extract | .divert => s.pins.push
    pins.skip := match o with
      | .push none => true
      | .push (some _) | .extract | .divert => s.pins.skip
    pins.extract := match o with
      | .extract => true
      | .push _ | .divert => s.pins.extract
    pins.divert := match o with
      | .divert => true
      | .push _ | .extract => s.pins.divert }

/-- The operation in flight ends: timer stopped, outputs negated, record removed (R89, R97 step 1). -/
def State.endOperation (s : State) : State :=
  { s with
    cadence.operation := none
    cadence.handlingTimer := none
    pins.push := false
    pins.skip := false
    pins.extract := false
    pins.divert := false }

/-- The start of a push in RUN (R96). -/
def State.startPush (s : State) : State :=
  let (s1, loaded) := s.loadDecision
  ({ s1 with cadence.coldWait := .stopped }).startOperation (.push loaded)

/-- The start of an extraction (R98). -/
def State.startExtract (s : State) : State :=
  (({ s with cadence.pendingCall := false }).updateExit (fun r => { r with extracting := true })
    ).startOperation .extract

/-- The start of a cold wait; a COLD_WAIT of 0 is expired at once, and the choice made again finds case 3
(R93). -/
def State.startColdWait (s : State) : State :=
  if s.settings.coldWait = 0 then ({ s with cadence.coldWait := .expired }).startPush
  else { s with cadence.coldWait := .running (s.timer s.settings.coldWait) }

/-- The choice of the next handling operation (R91, Table 4-2); no choice is made outside RUN or while an
operation is in flight. -/
def State.choose (s : State) : State :=
  if s.cadence.line = .run ∧ s.cadence.operation = none then
    match s.cadence.exitVerdict with
    | some v =>
        if v.isReject then s.startOperation .divert
        else if v = .good ∧ s.cadence.pendingCall = true then s.startExtract
        else s
    | none =>
        if s.cadence.minPush.isSome then s
        else if s.cadence.pushFit then s.startPush
        else if s.cadence.coldWait = .stopped then s.startColdWait
        else s
  else s

/-- The choice made when the tracker has reported a change of exit verdict or readiness since `before`
(R91). -/
def State.chooseIfReported (s before : State) : State :=
  if s.cadence.exitVerdict = before.cadence.exitVerdict ∧ s.cadence.readiness = before.cadence.readiness
  then s
  else s.choose

/-! ### Changes of line state (R10, R43, R75) -/

/-- The tracker's part of a change of line state: every record updated under the state being left, the new
state taken, a reading timer stopped on entry to PURGING (R20), all zones evaluated under the new
state, the exit re-checked, readiness reported, and one grant (R10, R43, R56, R75 step 1). -/
def State.notice (s : State) (new : LineState) : State :=
  let s1 := s.updateTrain
  let s2 := { s1 with
    tracker.line := new
    tracker.readingTimer := if new = LineState.purging then none else s1.tracker.readingTimer }
  ((s2.evaluateAll.recheckExit).reportReadiness).grant

/-- The cold-wait timer stopped with its expired mark cleared (R93). -/
def State.stopColdWait (s : State) : State := { s with cadence.coldWait := .stopped }

/-- A line state whose entry raises LINE (R75 step 4). -/
def LineState.announced : LineState → Bool
  | .hold | .faulted | .stopped => true
  | .run | .purging => false

/-- Steps 1 to 4 of a change of line state (R75). -/
def State.moveLine (s : State) (new : LineState) : State :=
  let s1 := ({ s with cadence.line := new }).notice new
  let s2 := if s.cadence.line = .run then s1.declinePending.stopColdWait else s1
  (s2.settle).raiseIf new.announced .line

/-- The test of R84: a drained line changes from RUN to STOPPED. -/
def State.stopIfDrained (s : State) : State := if s.drained then s.moveLine .stopped else s

/-- A change of line state (R75); on entry to RUN the test of R84 comes before the choice. -/
def State.changeLine (s : State) (new : LineState) : State :=
  let s1 := s.moveLine new
  if new = .run then (s1.stopIfDrained).choose else s1

/-! ### Hold causes (R76) -/

/-- The line follows a cause that has been added: RUN changes to HOLD (R76). -/
def State.afterCauseAdded (s : State) : State :=
  if s.cadence.line = .run then s.changeLine .hold else s

/-- The line follows causes that have been removed: HOLD changes to RUN when some cause was present and
none is left (R76). -/
def State.afterCauseRemoved (s : State) (heldBefore : Bool) : State :=
  if s.cadence.line = .hold ∧ heldBefore = true ∧ s.cadence.held = false then s.changeLine .run else s

/-- The SUPPLY cause is added at the arbiter's notice (R79). -/
def State.addSupply (s : State) : State :=
  if s.cadence.supply then s else ({ s with cadence.supply := true }).afterCauseAdded

/-- The PRESS_STOP cause is added (R78). -/
def State.addPressStop (s : State) : State :=
  if s.cadence.pressStop then s else ({ s with cadence.pressStop := true }).afterCauseAdded

/-- A supply loss, its notice to the cadence unit included (R71). A readiness change reported by the
credit exchange is on record before the notice; the choice it leads to is made at the end of the
event, when the line is no longer in RUN (log entry 8). -/
def State.supplyLoss (s : State) (energy : SliceRecord → Nat) : State :=
  ((s.loseSupply energy).addSupply).settle

/-- An assertion of PRESS_STOP (R78): HOLD_DELAY is in seconds. -/
def State.pressStopAsserts (s : State) : State :=
  if s.settings.holdDelay = 0 then s.addPressStop
  else { s with cadence.holdDelay := some (s.timer (s.settings.holdDelay * 1000)) }

/-! ### Completions (R97, R99, R100, R111 to R113) -/

/-- Steps 2 to 6 of a push completion: the train moves, budgets are reloaded, demand is evaluated, exit
verdict and readiness are reported, one grant is made, the minimum-push timer is loaded, and the
push is counted (R97, R67, R56). With MIN_PUSH_INTERVAL 0 the timer is left stopped; that a timer still
running when a purge push completes is then stopped too is the model's choice (R92 says only that it is
not started; log entry 21). -/
def State.pushCompleted (s : State) (loaded : Option (Fin 64)) : State :=
  let s1 := (s.columnPushed loaded).updateZones Zone.reloaded
  let s2 := ((s1.evaluateAll.reportExit).reportReadiness).grant
  let s3 := { s2 with cadence.minPush := s2.timerUnlessZero s2.settings.minPushInterval }
  let s4 := s3.count .pushCompleted
  if loaded.isSome then s4.count .billetLoaded else s4

/-- A purge step's divert is started (R111). -/
def State.startPurgeDivert (s : State) : State := s.startOperation .divert

/-- What follows a purge push: the next step's divert, or the end of the purge (R112, R113). -/
def State.purgeNext (s : State) : State :=
  if s.cadence.purgeStep < 13 then
    ({ s with cadence.purgeStep := s.cadence.purgeStep + 1 }).startPurgeDivert
  else ({ s with cadence.occupancyUnknown := false, cadence.purgeStep := 0 }).changeLine .stopped

/-- What follows a completion in production: the test of R84 and then the choice, in RUN (R97 step 7, R99
step 4, R100 step 4). -/
def State.afterCompletion (s : State) : State := ((s.stopIfDrained).choose).settle

/-! ### Timeouts (R104 to R106) -/

/-- SUSPECT set on every record in the train (R104 step 3, R107). -/
def State.suspectAll (s : State) : State :=
  { s with tracker.train := s.tracker.train.map (fun r => { r with suspect := true }) }

/-- The tracker's part of a timeout (R105, R106). -/
def State.timedOut (s : State) (o : Operation) : State :=
  match o with
  | .push loaded => ((s.columnPushed loaded).reportExit).reportReadiness
  | .extract => (s.updateExit (fun r => { r with extracting := false })).decline
  | .divert => s

/-- A handling timeout (R104). -/
def State.handlingTimeout (s : State) (o : Operation) : State :=
  let s1 := ((s.endOperation).timedOut o).suspectAll
  (({ s1 with cadence.occupancyUnknown := true }).changeLine .faulted).settle

end Sys2Proof.Machine
end

