-- ==== Sys2Proof/Machine/Views.lean ====
section
/-! DEFINITION. The reply data of the requests that read: the layouts of Table 10-4 and Tables 10-6 to
10-10, formed from the state as it stands. -/

namespace Sys2Proof.Machine

/-- A clock value's four bytes. -/
def putClock (c : Clock) : List Byte := put32 c.toNat

/-- The line view of READ LINE (Table 10-7, R102). -/
def State.lineView (s : State) : List Byte :=
  let c := s.cadence
  put8 c.line.code ++
  put8 (flagBit 0 c.manual + flagBit 1 c.pressStop + flagBit 2 c.supply + flagBit 3 c.holdDelay.isSome) ++
  put8 (flagBit 0 c.noLoad + flagBit 1 c.occupancyUnknown + flagBit 2 c.pendingCall +
    flagBit 3 c.minPush.isSome) ++
  put8 (operationCode c.operation) ++
  put8 (loadedSlotCode c.operation) ++
  put8 c.coldWait.code ++
  put8 c.purgeStep ++
  put8 s.tracker.train.length ++
  put8 (exitCode c.exitVerdict) ++
  put8 c.readiness.code ++
  put8 (flagBit 0 s.pins.pressCall + flagBit 1 s.pins.pressStop + flagBit 2 s.pins.pressReady +
    flagBit 3 s.pins.convReady)

/-- A record view (Table 10-6, R198). -/
def recordView (r : BilletRecord) : List Byte :=
  put8 r.position ++ put8 r.slot.val ++ put32 r.billetId.toNat ++ put8 r.ref.code ++ put16 r.tm ++
  put16 r.sx ++ putClock r.lastUpdate ++ put16 r.exitGoal ++ put16 r.holdGoal ++ put32 r.energy ++
  putClock r.enteredAt ++ put32 r.holdTime ++
  put8 (flagBit 0 r.aged + flagBit 1 r.suspect + flagBit 2 r.reading.isSome + flagBit 3 r.extracting) ++
  put8 r.verdict.code ++ put16 (r.reading.getD 0)

/-- The records at `count` positions from `first` upward, in increasing position (R27). -/
def Tracker.recordsFrom (t : Tracker) (first count : Nat) : List BilletRecord :=
  (List.range count).filterMap (fun k => t.recordAt (first + k))

/-- The reply data of READ TRAIN (R27, Table 10-4). -/
def State.trainView (s : State) (first count : Nat) : List Byte :=
  let records := s.tracker.recordsFrom first count
  putClock s.tracker.clock ++ put8 s.tracker.train.length ++ put8 records.length ++
  records.flatMap recordView

/-- The options byte of a zone's settings (R197). -/
def ZoneSettings.options (c : ZoneSettings) : Nat :=
  flagBit 0 c.reload + flagBit 1 c.errorNotice + flagBit 2 c.endNotice

/-- The zone view of READ ZONE (Table 10-8, R72, R199). -/
def State.zoneView (s : State) (z : Fin 6) : List Byte :=
  let c := s.arbiter.zones[z]
  put8 (zoneNumber z) ++ put8 c.settings.mode.code ++ put8 c.settings.blockSize ++
  put16 c.settings.setpoint ++ put16 c.settings.budget ++ put8 c.settings.options ++
  put8 c.state.code ++
  put8 (flagBit 0 s.tracker.demand[z] + flagBit 1 c.paused + flagBit 2 c.forced +
    flagBit 3 s.pins.guards[z]) ++
  put8 c.pendingEnd.code ++ put8 c.blockCount ++ put8 c.stopCode.code ++ put16 c.remaining ++
  put32 c.slicesCompleted.toNat ++ put32 c.energyDelivered.toNat ++ put32 c.energyUncredited.toNat ++
  put8 (flagBit 0 s.arbiter.enable + flagBit 1 s.arbiter.pause +
    flagBit 2 (s.arbiter.favour == .zone5) + flagBit 3 s.pins.convReady) ++
  put8 (match s.arbiter.slice with
    | some x => zoneNumber x.zone
    | none => 0)

/-- The order a slot holds, if it is not FREE. -/
def Slot.order? : Slot → Option BilletOrder
  | .free => none
  | .queued o | .loading o | .inLine o | .done o _ => some o

/-- The entry state byte of a resolution, 0xFF for a window or NO_RECIPE (R127, Table 10-5). An entry that
has become INVALID reads 0, and one that holds another key reads that key's state (log entry 11). -/
def RecipeTable.resolutionState (t : RecipeTable) : Resolution → Nat
  | .recipe (.entry i) => entryCode t.entries[i]
  | .recipe (.window _) | .noRecipe => 0xFF

/-- The status bytes of an order summary; 0 for a slot that is not DONE (R200). -/
def statusBytes : Option StatusRecord → List Byte
  | some x => put8 x.verdict.code ++ put16 (x.reading.getD 0) ++ put32 x.energy ++ put32 x.inLine ++
      put32 x.holdTime ++ put16 x.finalTm
  | none => put8 0 ++ put16 0 ++ put32 0 ++ put32 0 ++ put32 0 ++ put16 0

/-- The status record of a DONE slot. -/
def Slot.status? : Slot → Option StatusRecord
  | .done _ x => some x
  | .free | .queued _ | .loading _ | .inLine _ => none

/-- The order summary of a slot that is not FREE (Table 10-9). -/
def orderSummary (t : RecipeTable) (i : Fin 64) (x : Slot) (o : BilletOrder) : List Byte :=
  put8 i.val ++ put8 x.code ++ put32 o.billetId.toNat ++ putKey o.key ++
  put8 (flagBit 0 o.report + flagBit 1 o.delay + flagBit 2 o.entryTemp.isSome +
    flagBit 3 o.exitOverride.isSome + flagBit 4 (x.status?.any (fun st => st.reading.isSome))) ++
  put16 (o.entryTemp.getD 0) ++ put16 (o.exitOverride.getD 0) ++ put8 o.resolution.code ++
  put8 (t.resolutionState o.resolution) ++ statusBytes x.status?

/-- The list of a READ ORDERS reply: from a slot upward, `count` slots at most, stopping before the slot
whose summary would go past `room`; answers the slots covered and the summaries (R127, R200). -/
def State.coverSlots (s : State) (at_ : Fin 64) : Nat → Nat → Nat × List (List Byte)
  | 0, _ => (0, [])
  | count + 1, room =>
    match s.ring.slots[at_].order? with
    | none =>
        let (covered, rest) := s.coverSlots (at_ + 1) count room
        (covered + 1, rest)
    | some o =>
      match room with
      | 0 => (0, [])
      | room + 1 =>
        let (covered, rest) := s.coverSlots (at_ + 1) count room
        (covered + 1, orderSummary s.recipes at_ s.ring.slots[at_] o :: rest)

/-- The reply data of READ ORDERS: the ring header and at most 5 summaries (R127, R200, Table 10-9). -/
def State.ordersView (s : State) (first : Fin 64) (count : Nat) : List Byte :=
  let (covered, summaries) := s.coverSlots first count 5
  let r := s.ring
  put8 r.reclaim.val ++ put8 r.load.val ++ put8 r.tail.val ++ put8 r.occupied ++ put8 r.queued ++
  put16 r.batch ++ put8 (flagBit 0 r.batchTimer.isSome) ++ put8 covered ++ put8 summaries.length ++
  summaries.flatten

/-- The recipe view of an entry (R159, R201): the mask is 0. -/
def entryView (i : Fin 32) (e : Entry) : List Byte :=
  put8 0 ++ put8 i.val ++ putKey e.key ++ put8 (entryCode (some e)) ++ put8 (flagBit 0 e.pinned) ++
  put16 0 ++ put8 e.useCount ++ putBody e.body ++ putSigned e.trim ++ put16 e.learned ++
  put8 e.policy.code

/-- The recipe view of a window (R159, R201): pinned, trim, learned count and policy are 0. -/
def windowView (i : Fin 2) (w : Window) : List Byte :=
  put8 1 ++ put8 i.val ++ put16 w.base.toNat ++ put8 (flagBit 0 w.enabled) ++ put8 0 ++
  put16 w.mask.toNat ++ put8 w.useCount ++ putBody w.body ++ put16 0 ++ put16 0 ++ put8 0

/-- One want of a READ WANTS reply (R152, Table 10-4). -/
def wantView (w : Want) : List Byte :=
  putKey w.key ++ put8 w.entry.val ++ putClock w.wantedAt ++ put16 w.timeout

/-- The reply data of READ WANTS (R152). -/
def State.wantsView (s : State) : List Byte :=
  putClock s.tracker.clock ++ put8 s.recipes.replacement.val ++ put8 s.recipes.writebacks.length ++
  put8 s.recipes.wants.length ++ s.recipes.wants.flatMap wantView

/-- One write-back record of a TAKE WRITEBACKS reply (R174, Table 10-4). -/
def writebackView (x : WritebackRecord) : List Byte :=
  putKey x.key ++ putSigned x.trim ++ put16 x.learned ++ put8 x.cause.code

/-- A source set's two bytes (R197). -/
def putSet (x : BitVec 11) : List Byte := put16 x.toNat

/-- The reply data of READ COUNTERS (R186). -/
def State.countersView (s : State) : List Byte :=
  s.counters.toList.flatMap (fun c => put8 c.selection ++ put32 c.count.toNat)

/-- The reply data of READ SETTINGS (R205). -/
def State.settingsView (s : State) : List Byte :=
  (settingValues s.settings).flatMap put32 ++ s.settings.profile.toList.flatMap put16

/-- The vendor code (R206). -/
def vendorCode : Nat := 0x5E10

/-- The part code (R206). -/
def partCode : Nat := 0x0624

/-- The revision (R206). -/
def revision : Nat := 1

/-- The reply data of IDENTIFY (R206). -/
def State.identity (s : State) : List Byte :=
  put16 vendorCode ++ put16 partCode ++ put8 revision ++ put8 s.port.station.toNat ++
  put8 s.settings.lastReset.code ++ putClock s.tracker.clock

end Sys2Proof.Machine
end

