-- ==== Sys2Proof/Machine/LineRequests.lean ====
section
/-! DEFINITION. The requests of the line: START to READ TRAIN (chapters 4, 5 and section 1.8). Each
`…Request` is the request as its owning block takes it (R193 step 3); the meaning of the row is that. -/

namespace Sys2Proof.Machine

/-- START (R81): the checks in their order, then RUN, or HOLD while a cause is present. -/
def startRequest (s : State) : State :=
  if s.cadence.line ≠ .stopped then s.refuse .wrongState
  else if s.cadence.occupancyUnknown then s.refuse .lineUnknown
  else if !s.powerFit then s.refuse .wrongState
  else
    let s1 := { s with cadence.noLoad := false }
    ((s1.changeLine (if s1.cadence.held then .hold else .run)).settle).accept []

/-- STOP (R82). -/
def stopRequest (s : State) : State :=
  if s.cadence.line = .run ∨ s.cadence.line = .hold then ((s.changeLine .stopped).settle).accept []
  else s.refuse .wrongState

/-- HOLD (R77). -/
def holdRequest (s : State) : State :=
  if s.cadence.line = .run ∨ s.cadence.line = .hold then
    ((if s.cadence.manual then s else ({ s with cadence.manual := true }).afterCauseAdded).settle).accept []
  else s.refuse .wrongState

/-- RESUME (R80). -/
def resumeRequest (s : State) : State :=
  if s.powerFit then
    let s1 := { s with cadence.manual := false, cadence.supply := false }
    ((s1.afterCauseRemoved (s.cadence.manual || s.cadence.supply)).settle).accept []
  else s.refuse .wrongState

/-- DRAIN (R83, R84). -/
def drainRequest (s : State) : State :=
  if s.cadence.line = .run ∨ s.cadence.line = .hold then
    ((({ s with cadence.noLoad := true }).stopIfDrained).settle).accept []
  else s.refuse .wrongState

/-- PURGE (R110). -/
def purgeRequest (s : State) : State :=
  if (s.cadence.line = .stopped ∨ s.cadence.line = .faulted) ∧ s.cadence.operation = none then
    (((({ s with cadence.purgeStep := 1 }).changeLine .purging).startPurgeDivert).settle).accept []
  else s.refuse .wrongState

/-- DECLARE EMPTY (R116). -/
def declareEmptyRequest (s : State) : State :=
  if s.cadence.line ≠ .stopped ∨ s.cadence.operation ≠ none then s.refuse .wrongState
  else if s.tracker.train ≠ [] then s.refuse .notEmpty
  else ({ s with cadence.occupancyUnknown := false }).accept []

/-- READ LINE (R102). -/
def readLineRequest (s : State) : State := s.accept s.lineView

/-- READ TRAIN (R27): a count outside 1..4 and a range past position 12 are refused. -/
def readTrainRequest (first count : Nat) (s : State) : State :=
  if 1 ≤ count ∧ count ≤ 4 ∧ first + count ≤ 13 then s.accept (s.trainView first count)
  else s.refuse .badValue

/-- The meaning of START. -/
def execStart (s : State) : Outcome := .next (startRequest s)
/-- The meaning of STOP. -/
def execStop (s : State) : Outcome := .next (stopRequest s)
/-- The meaning of HOLD. -/
def execHold (s : State) : Outcome := .next (holdRequest s)
/-- The meaning of RESUME. -/
def execResume (s : State) : Outcome := .next (resumeRequest s)
/-- The meaning of DRAIN. -/
def execDrain (s : State) : Outcome := .next (drainRequest s)
/-- The meaning of PURGE. -/
def execPurge (s : State) : Outcome := .next (purgeRequest s)
/-- The meaning of DECLARE_EMPTY. -/
def execDeclareEmpty (s : State) : Outcome := .next (declareEmptyRequest s)
/-- The meaning of READ_LINE. -/
def execReadLine (s : State) : Outcome := .next (readLineRequest s)
/-- The meaning of READ_TRAIN. -/
def execReadTrain (first count : Nat) (s : State) : Outcome := .next (readTrainRequest first count s)

end Sys2Proof.Machine
end

