-- ==== Sys2Proof/Machine/ZoneRequests.lean ====
section
/-! DEFINITION. The requests of the power arbiter: SET ZONE to DOSE ZONE and the four POWER sub-actions
(sections 3.1 to 3.3, 3.9, 3.11). A grant an accepted request leads to is made within the request
(R195). -/

namespace Sys2Proof.Machine

/-- A zone request: a zone number outside 1..6 is refused with BAD_VALUE. -/
def onZone (zone : Nat) (s : State) (f : Fin 6 → State) : State :=
  match zoneOf zone with
  | some z => f z
  | none => s.refuse .badValue

/-- A channel with its settings replaced: the remaining budget never exceeds the budget (R45). -/
def Zone.configure (settings : ZoneSettings) (c : Zone) : Zone :=
  { c with settings := settings, remaining := min c.remaining settings.budget }

/-- SET ZONE (R45): all seven settings, then the zone's demand is evaluated with the new setpoint (R38). -/
def setZoneRequest (zone mode blockSize setpoint budget : Nat) (options : BitVec 8) (s : State) : State :=
  onZone zone s fun z =>
    match zoneSettingsOf mode blockSize setpoint budget options with
    | none => s.refuse .badValue
    | some settings =>
        ((((s.updateZone z (Zone.configure settings)).evaluateZone z)).grant).accept []

/-- READ ZONE (R72). -/
def readZoneRequest (zone : Nat) (s : State) : State := onZone zone s fun z => s.accept (s.zoneView z)

/-- A channel that ENABLE ZONE takes out of OFF or HALTED (R53, R48). -/
def Zone.enabled (c : Zone) : Zone :=
  { c with
    state := if c.request then .waiting else .idle
    remaining := c.settings.budget
    stopCode := .none
    paused := false
    forced := false
    pendingEnd := .none
    blockCount := 0 }

/-- ENABLE ZONE (R53). -/
def enableZoneRequest (zone : Nat) (s : State) : State :=
  onZone zone s fun z =>
    let c := s.arbiter.zones[z]
    if (c.state = .off ∨ c.state = .halted) ∧ s.arbiter.enable = true ∧ s.pins.guards[z] = false then
      ((s.updateZone z Zone.enabled).grant).accept []
    else s.refuse .wrongState

/-- DISABLE ZONE (R54). -/
def disableZoneRequest (zone : Nat) (s : State) : State :=
  onZone zone s fun z =>
    if s.arbiter.zones[z].state = .off then s.refuse .wrongState
    else (s.updateZone z Zone.disable).accept []

/-- A channel that PAUSE ZONE pauses (R55). -/
def Zone.pausing (c : Zone) : Zone := { c with paused := true, stopCode := .paused }

/-- PAUSE ZONE (R55). -/
def pauseZoneRequest (zone : Nat) (s : State) : State :=
  onZone zone s fun z =>
    if s.arbiter.zones[z].state = .off ∨ s.arbiter.zones[z].state = .halted then s.refuse .wrongState
    else (s.updateZone z Zone.pausing).accept []

/-- A channel that CONTINUE ZONE continues (R55, Table 3-3); one that is not paused is unchanged. -/
def Zone.continuing (c : Zone) : Zone :=
  if c.paused then
    { c with paused := false, stopCode := if c.stopCode = .paused then .none else c.stopCode }
  else c

/-- CONTINUE ZONE (R55). -/
def continueZoneRequest (zone : Nat) (s : State) : State :=
  onZone zone s fun z => ((s.updateZone z Zone.continuing).grant).accept []

/-- A channel for which a manual dose is due (R69, R48). -/
def Zone.dosed (c : Zone) : Zone :=
  { c with forced := true, state := if c.state = .idle then .waiting else c.state }

/-- DOSE ZONE (R69). -/
def doseZoneRequest (zone : Nat) (s : State) : State :=
  onZone zone s fun z =>
    match s.arbiter.zones[z].state with
    | .off | .halted | .spent => s.refuse .wrongState
    | .idle | .waiting | .delivering =>
        if s.occupancy z = 0 then s.refuse .empty
        else ((s.updateZone z Zone.dosed).grant).accept []

/-- POWER ON (R50). -/
def powerOnRequest (s : State) : State :=
  if s.pins.convReady then (({ s with arbiter.enable := true }).grant).accept []
  else s.refuse .wrongState

/-- POWER OFF (R51). -/
def powerOffRequest (s : State) : State :=
  (({ s with arbiter.enable := false }).updateZones Zone.disable).accept []

/-- POWER PAUSE (R52). -/
def powerPauseRequest (s : State) : State := ({ s with arbiter.pause := true }).accept []

/-- POWER CONTINUE (R52). -/
def powerContinueRequest (s : State) : State := (({ s with arbiter.pause := false }).grant).accept []

/-- The meaning of SET_ZONE. -/
def execSetZone (zone mode blockSize setpoint budget : Nat) (options : BitVec 8) (s : State) : Outcome :=
  .next (setZoneRequest zone mode blockSize setpoint budget options s)
/-- The meaning of READ_ZONE. -/
def execReadZone (zone : Nat) (s : State) : Outcome := .next (readZoneRequest zone s)
/-- The meaning of ENABLE_ZONE. -/
def execEnableZone (zone : Nat) (s : State) : Outcome := .next (enableZoneRequest zone s)
/-- The meaning of DISABLE_ZONE. -/
def execDisableZone (zone : Nat) (s : State) : Outcome := .next (disableZoneRequest zone s)
/-- The meaning of PAUSE_ZONE. -/
def execPauseZone (zone : Nat) (s : State) : Outcome := .next (pauseZoneRequest zone s)
/-- The meaning of CONTINUE_ZONE. -/
def execContinueZone (zone : Nat) (s : State) : Outcome := .next (continueZoneRequest zone s)
/-- The meaning of DOSE_ZONE. -/
def execDoseZone (zone : Nat) (s : State) : Outcome := .next (doseZoneRequest zone s)
/-- The meaning of POWER_ON. -/
def execPowerOn (s : State) : Outcome := .next (powerOnRequest s)
/-- The meaning of POWER_OFF. -/
def execPowerOff (s : State) : Outcome := .next (powerOffRequest s)
/-- The meaning of POWER_PAUSE. -/
def execPowerPause (s : State) : Outcome := .next (powerPauseRequest s)
/-- The meaning of POWER_CONTINUE. -/
def execPowerContinue (s : State) : Outcome := .next (powerContinueRequest s)

end Sys2Proof.Machine
end

