-- ==== Sys2Proof/Machine/OrderRequests.lean ====
section
/-! DEFINITION. The requests of the order ring: POST ORDER, WITHDRAW, READ ORDERS and RECLAIM
(section 6.2). -/

namespace Sys2Proof.Machine

/-- An order written into the tail slot as QUEUED, with the pointers and counts after it (R124). -/
def State.queueOrder (s : State) (order : BilletOrder) : State :=
  { s.setSlot s.ring.tail (.queued order) with
    ring.load := if s.ring.queued = 0 then s.ring.tail else s.ring.load
    ring.tail := s.ring.tail + 1
    ring.occupied := s.ring.occupied + 1
    ring.queued := s.ring.queued + 1 }

/-- POST ORDER (R124, R146, R147): values, room, recipe; then the order is queued and the replacement
counter advances. The reply gives the slot, the resolution and the lookup outcome. -/
def postOrderRequest (billetId : BitVec 32) (key : Key) (flags : BitVec 8) (entryTemp exitOverride : Nat)
    (s : State) : State :=
  match orderOf billetId key flags entryTemp exitOverride .noRecipe with
  | none => s.refuse .badValue
  | some order =>
    if 64 ≤ s.ring.occupied then s.refuse .ringFull
    else match s.lookup key with
      | none => s.refuse .tableBlocked
      | some found =>
          ((found.after.queueOrder { order with resolution := .recipe found.ref }).advanceReplacement
            ).accept (put8 s.ring.tail.val ++ put8 found.ref.code ++ put8 found.outcome)

/-- WITHDRAW (R126): the newest QUEUED orders are freed, RING_LOW follows the fall (R138), and the reply
gives the number freed. -/
def withdrawRequest (n : Nat) (s : State) : State :=
  if 1 ≤ n ∧ n ≤ 64 then
    let freed := s.withdrawNewest n
    (freed.1.ringLow s.ring.queued).accept (put8 freed.2)
  else s.refuse .badValue

/-- READ ORDERS (R127). -/
def readOrdersRequest (first count : Nat) (s : State) : State :=
  if h : first < 64 then
    if 1 ≤ count ∧ count ≤ 8 then s.accept (s.ordersView ⟨first, h⟩ count) else s.refuse .badValue
  else s.refuse .badValue

/-- RECLAIM (R128): DONE orders are freed from the oldest end, and the reply gives the number freed. -/
def reclaimRequest (n : Nat) (s : State) : State :=
  if 1 ≤ n ∧ n ≤ 64 then
    let freed := s.reclaimOldest n
    freed.1.accept (put8 freed.2)
  else s.refuse .badValue

/-- The meaning of POST_ORDER. -/
def execPostOrder (billetId : BitVec 32) (key : Key) (flags : BitVec 8) (entryTemp exitOverride : Nat)
    (s : State) : Outcome := .next (postOrderRequest billetId key flags entryTemp exitOverride s)
/-- The meaning of WITHDRAW. -/
def execWithdraw (n : Nat) (s : State) : Outcome := .next (withdrawRequest n s)
/-- The meaning of READ_ORDERS. -/
def execReadOrders (first count : Nat) (s : State) : Outcome := .next (readOrdersRequest first count s)
/-- The meaning of RECLAIM. -/
def execReclaim (n : Nat) (s : State) : Outcome := .next (reclaimRequest n s)

end Sys2Proof.Machine
end

