-- ==== Sys2Proof/Machine/RecipeRequests.lean ====
section
/-! DEFINITION. The requests of the recipe table: LOAD RECIPE to REQUEST WRITEBACK (sections 7.6 to 7.10
and 8.3). -/

namespace Sys2Proof.Machine

/-- A request that names a key: an absent key is refused with NOT_FOUND (R159, R160, R162, R163, R175). -/
def onKey (key : Key) (s : State) (f : Fin 32 → Entry → State) : State :=
  match s.recipes.keySearch key with
  | none => s.refuse .notFound
  | some i => match s.recipes.entries[i] with
    | some e => f i e
    | none => s.refuse .notFound

/-! ### LOAD RECIPE -/

/-- What follows an accepted LOAD RECIPE: the replacement counter advances (R147), all six zones are
evaluated (R37), readiness is reported (R25), one grant is made, and a reported change leads to a
choice (R91). -/
def State.afterLoad (s before : State) : State :=
  ((((((s.advanceReplacement).evaluateAll).reportReadiness).grant).chooseIfReported before)).settle

/-- The case byte of a LOAD RECIPE of a present key: 0 filled, 1 overwritten (Table 10-4). -/
def Entry.loadCase (e : Entry) : Nat := if e.state = .pending then 0 else 1

/-- LOAD RECIPE of a present key (R157): the entry is written; a PENDING one loses its want. -/
def State.loadPresent (s : State) (i : Fin 32) (e : Entry) (body : Body) (trim : Int) (policy : Policy) :
    State :=
  let s1 := s.setEntry i (some (e.load body trim policy))
  if e.state = .pending then s1.dropWant i else s1

/-- LOAD RECIPE of an absent key in the way found (R158). -/
def State.loadAbsent (s : State) (i : Fin 32) (key : Key) (body : Body) (trim : Int) (policy : Policy) :
    State :=
  (s.giveUp i .evicted).setEntry i (some (loadedEntry key body trim policy))

/-- LOAD RECIPE (R156 to R158). The reply gives the entry, the case and whether it was LEARNED. R156 gives that
last byte of Table 10-4 for an overwrite only; that it is 0 for a filled and for a newly allocated entry, also
where the way taken evicted a LEARNED victim, is the model's choice, DESIGN CHOICE, unsafe (log entry 22). -/
def loadRecipeRequest (key : Key) (body : Body) (trim : Int) (policy : Nat) (s : State) : State :=
  match policyOf policy with
  | none => s.refuse .badValue
  | some p =>
    if bodyOk body && trimOk trim then
      match s.recipes.keySearch key with
      | some i => match s.recipes.entries[i] with
        | some e =>
            ((s.loadPresent i e body trim p).afterLoad s).accept
              (put8 i.val ++ put8 e.loadCase ++ put8 (flagBit 0 (e.state == .learned)))
        | none => s.refuse .tableBlocked
      | none => match s.recipes.wayFor key with
        | some i =>
            ((s.loadAbsent i key body trim p).afterLoad s).accept (put8 i.val ++ put8 2 ++ put8 0)
        | none => s.refuse .tableBlocked
    else s.refuse .badValue

/-! ### Reading and flushing -/

/-- READ RECIPE (R159). -/
def readRecipeRequest (selector : RecipeSelector) (s : State) : State :=
  match selector with
  | .key k => onKey k s fun i e => s.accept (entryView i e)
  | .window n => match windowOf n with
    | some w => s.accept (windowView w s.recipes.windows[w])
    | none => s.refuse .badValue

/-- FLUSH RECIPE (R160). -/
def flushRecipeRequest (key : Key) (s : State) : State :=
  onKey key s fun i e =>
    if e.state = .pending ∨ 0 < e.useCount then s.refuse .inUse
    else if e.state = .learned ∧ canTake s.recipes.writebacks e.key = false then s.refuse .listFull
    else (s.giveUp i .flushed).accept (put8 i.val ++ put8 (flagBit 0 (e.state == .learned)))

/-- One entry of a FLUSH UNPINNED sweep: the state, the entries flushed and the LEARNED entries skipped
(R161). -/
def sweepEntry (x : State × Nat × Nat) (i : Fin 32) : State × Nat × Nat :=
  let (s, flushed, skipped) := x
  match s.recipes.entries[i] with
  | none => x
  | some e =>
    if e.state = .pending ∨ e.pinned = true ∨ 0 < e.useCount then x
    else if e.state = .learned ∧ canTake s.recipes.writebacks e.key = false then (s, flushed, skipped + 1)
    else (s.giveUp i .flushed, flushed + 1, skipped)

/-- The sweep of FLUSH UNPINNED over the entries in increasing index (R161). -/
def State.sweep (s : State) : State × Nat × Nat := (List.finRange 32).foldl sweepEntry (s, 0, 0)

/-- FLUSH UNPINNED (R161). -/
def flushUnpinnedRequest (s : State) : State :=
  s.sweep.1.accept (put8 s.sweep.2.1 ++ put8 s.sweep.2.2)

/-! ### Pinning -/

/-- PIN RECIPE (R162): an already pinned entry is accepted unchanged before the limit is looked at. -/
def pinRecipeRequest (key : Key) (s : State) : State :=
  onKey key s fun i e =>
    if e.pinned then s.accept []
    else if 3 ≤ s.recipes.pinnedWays (setOf key) then s.refuse .limit
    else (s.setEntry i (some { e with pinned := true })).accept []

/-- UNPIN RECIPE (R163). -/
def unpinRecipeRequest (key : Key) (s : State) : State :=
  onKey key s fun i e => (s.setEntry i (some { e with pinned := false })).accept []

/-! ### Windows -/

/-- The state with one override window replaced. -/
def State.setWindow (s : State) (w : Fin 2) (x : Window) : State :=
  { s with recipes.windows := s.recipes.windows.set w x }

/-- SET WINDOW (R164): window number, values (an enable byte above 1 is an undefined encoding, R197), then
use. No demand is evaluated. -/
def setWindowRequest (window enable : Nat) (base mask : BitVec 16) (body : Body) (s : State) : State :=
  match windowOf window with
  | none => s.refuse .badValue
  | some w =>
    if decide (enable ≤ 1) && bodyOk body then
      if 0 < s.recipes.windows[w].useCount then s.refuse .inUse
      else (s.setWindow w ⟨enable == 1, base, mask, body, 0⟩).accept []
    else s.refuse .badValue

/-! ### Wants and write-backs -/

/-- READ WANTS (R152). -/
def readWantsRequest (s : State) : State := s.accept s.wantsView

/-- The records TAKE WRITEBACKS removes: the oldest, at most 4 (R174). -/
def takeLimit : Nat := 4

/-- TAKE WRITEBACKS (R174): the records of the reply leave the list as the reply is formed. -/
def takeWritebacksRequest (s : State) : State :=
  let taken := s.recipes.writebacks.take takeLimit
  ({ s with recipes.writebacks := s.recipes.writebacks.drop takeLimit }).accept
    (put8 taken.length ++ taken.flatMap writebackView)

/-- REQUEST WRITEBACK (R175). -/
def requestWritebackRequest (key : Key) (s : State) : State :=
  onKey key s fun i e =>
    if e.state ≠ .learned then s.refuse .wrongState
    else if canTake s.recipes.writebacks e.key = false then s.refuse .listFull
    else ((s.handOver (e.record .requested)).setEntry i (some { e with state := .valid })).accept
      (put8 i.val ++ putSigned e.trim ++ put16 e.learned)

/-- The meaning of LOAD_RECIPE. -/
def execLoadRecipe (key : Key) (body : Body) (trim : Int) (policy : Nat) (s : State) : Outcome :=
  .next (loadRecipeRequest key body trim policy s)
/-- The meaning of READ_RECIPE. -/
def execReadRecipe (selector : RecipeSelector) (s : State) : Outcome := .next (readRecipeRequest selector s)
/-- The meaning of FLUSH_RECIPE. -/
def execFlushRecipe (key : Key) (s : State) : Outcome := .next (flushRecipeRequest key s)
/-- The meaning of FLUSH_UNPINNED. -/
def execFlushUnpinned (s : State) : Outcome := .next (flushUnpinnedRequest s)
/-- The meaning of PIN_RECIPE. -/
def execPinRecipe (key : Key) (s : State) : Outcome := .next (pinRecipeRequest key s)
/-- The meaning of UNPIN_RECIPE. -/
def execUnpinRecipe (key : Key) (s : State) : Outcome := .next (unpinRecipeRequest key s)
/-- The meaning of SET_WINDOW. -/
def execSetWindow (window enable : Nat) (base mask : BitVec 16) (body : Body) (s : State) : Outcome :=
  .next (setWindowRequest window enable base mask body s)
/-- The meaning of READ_WANTS. -/
def execReadWants (s : State) : Outcome := .next (readWantsRequest s)
/-- The meaning of TAKE_WRITEBACKS. -/
def execTakeWritebacks (s : State) : Outcome := .next (takeWritebacksRequest s)
/-- The meaning of REQUEST_WRITEBACK. -/
def execRequestWriteback (key : Key) (s : State) : Outcome := .next (requestWritebackRequest key s)

end Sys2Proof.Machine
end

