-- ==== Sys2Proof/Machine/AttentionRequests.lean ====
section
/-! DEFINITION. The requests of the attention unit and the event counters (sections 9.3, 9.4, 9.8). -/

namespace Sys2Proof.Machine

/-- READ ATTENTION (R180): the reported set leaves P and E; the reply carries it and P as it stood. -/
def readAttentionRequest (s : State) : State :=
  let reported := s.attention.pending &&& s.attention.enabled
  (s.setAttention ⟨s.attention.pending &&& ~~~reported, s.attention.enabled &&& ~~~reported⟩).accept
    (putSet reported ++ putSet s.attention.pending)

/-- A request that carries a source set: one that names a number above 10 is refused (section 9.4). -/
def onSet (set : BitVec 16) (s : State) (f : BitVec 11 → Attention) : State :=
  match sourceSetOf set with
  | some x => (s.setAttention (f x)).accept []
  | none => s.refuse .badValue

/-- ENABLE ATTENTION (R181). -/
def enableAttentionRequest (set : BitVec 16) (s : State) : State :=
  onSet set s fun x => { s.attention with enabled := s.attention.enabled ||| x }

/-- DISABLE ATTENTION (R182). -/
def disableAttentionRequest (set : BitVec 16) (s : State) : State :=
  onSet set s fun x => { s.attention with enabled := s.attention.enabled &&& ~~~x }

/-- CLEAR ATTENTION (R182). -/
def clearAttentionRequest (set : BitVec 16) (s : State) : State :=
  onSet set s fun x => { s.attention with pending := s.attention.pending &&& ~~~x }

/-- SELECT COUNTER (R186). -/
def selectCounterRequest (counter event : Nat) (s : State) : State :=
  if h : counter < 4 then
    if event ≤ 15 then ({ s with counters := s.counters.set counter ⟨event, 0⟩ }).accept []
    else s.refuse .badValue
  else s.refuse .badValue

/-- READ COUNTERS (R186). -/
def readCountersRequest (s : State) : State := s.accept s.countersView

/-- The meaning of READ_ATTENTION. -/
def execReadAttention (s : State) : Outcome := .next (readAttentionRequest s)
/-- The meaning of ENABLE_ATTENTION. -/
def execEnableAttention (set : BitVec 16) (s : State) : Outcome := .next (enableAttentionRequest set s)
/-- The meaning of DISABLE_ATTENTION. -/
def execDisableAttention (set : BitVec 16) (s : State) : Outcome := .next (disableAttentionRequest set s)
/-- The meaning of CLEAR_ATTENTION. -/
def execClearAttention (set : BitVec 16) (s : State) : Outcome := .next (clearAttentionRequest set s)
/-- The meaning of SELECT_COUNTER. -/
def execSelectCounter (counter event : Nat) (s : State) : Outcome :=
  .next (selectCounterRequest counter event s)
/-- The meaning of READ_COUNTERS. -/
def execReadCounters (s : State) : Outcome := .next (readCountersRequest s)

end Sys2Proof.Machine
end

