-- ==== Sys2Proof/Machine/SettingsRequests.lean ====
section
/-! DEFINITION. The requests of the settings block: WRITE SETTING to RESTART (chapter 11). -/

namespace Sys2Proof.Machine

/-- AMBIENT may be written only in STOPPED with an empty train (R203 check 3); other settings always. -/
def State.mayWrite (s : State) (id : Nat) : Bool :=
  id != 1 || (s.cadence.line == .stopped && s.tracker.train.isEmpty)

/-- The settings whose accepted write re-evaluates all zones: AMBIENT, DEADBAND, SUPPLY_CEILING (R204). -/
def evaluatesDemand (id : Nat) : Bool := id == 1 || id == 2 || id == 14

/-- WRITE SETTING (R203, R204). -/
def writeSettingRequest (id value : Nat) (s : State) : State :=
  match settingRange id with
  | none => s.refuse .badValue
  | some (lo, hi) =>
    if lo ≤ value ∧ value ≤ hi then
      if s.mayWrite id then
        let s1 := { s with settings := writeSettingOf id value s.settings }
        (if evaluatesDemand id then (s1.evaluateAll).grant else s1).accept []
      else s.refuse .wrongState
    else s.refuse .badValue

/-- READ SETTINGS (R205). -/
def readSettingsRequest (s : State) : State := s.accept s.settingsView

/-- WRITE PROFILE (R205, R29). -/
def writeProfileRequest (profile : Vector Nat 12) (s : State) : State :=
  if profileOk profile then
    ((({ s with settings.profile := profile }).evaluateAll).grant).accept []
  else s.refuse .badValue

/-- IDENTIFY (R206). -/
def identifyRequest (s : State) : State := s.accept s.identity

/-- RESTART (R207): never refused. It takes effect when its reply has been sent: at the REPLY_SENT of a frame, at
RESTART_TAKES_EFFECT of a bare request row (log entry 20). -/
def restartRequest (s : State) : State := ({ s with port.restartDue := true }).accept []

/-- The meaning of WRITE_SETTING. -/
def execWriteSetting (id value : Nat) (s : State) : Outcome := .next (writeSettingRequest id value s)
/-- The meaning of READ_SETTINGS. -/
def execReadSettings (s : State) : Outcome := .next (readSettingsRequest s)
/-- The meaning of WRITE_PROFILE. -/
def execWriteProfile (profile : Vector Nat 12) (s : State) : Outcome := .next (writeProfileRequest profile s)
/-- The meaning of IDENTIFY. -/
def execIdentify (s : State) : Outcome := .next (identifyRequest s)
/-- The meaning of RESTART. -/
def execRestart (s : State) : Outcome := .next (restartRequest s)

end Sys2Proof.Machine
end

