-- ==== Sys2Proof/Machine/Restart.lean ====
section
/-! DEFINITION. The two resets: the moment a RESTART takes effect (R207, Table 11-3) and power-on
(R28, R44, R73, R103, R140, R165, R177, R184, R187, R202, R203). -/

namespace Sys2Proof.Machine

/-! ### RESTART, block by block -/

/-- The orders of the records retired RESTART_LOST with their records' values, oldest first (R28,
R141 step 1). -/
def State.loseRecords (s : State) : State :=
  s.tracker.train.foldl
    (fun x r => x.retire r.slot (recordStatus .restartLost s.tracker.clock r)) s

/-- A LOADING order retired RESTART_LOST with the zero values of R133 (R141 step 2). -/
def State.loseLoadingAt (s : State) (i : Fin 64) : State :=
  match s.ring.slots[i] with
  | .loading _ => s.retire i (emptyStatus .restartLost)
  | .free | .queued _ | .inLine _ | .done _ _ => s

/-- The LOADING order, if there is one, retired RESTART_LOST (R141 step 2). -/
def State.loseLoading (s : State) : State := (List.finRange 64).foldl State.loseLoadingAt s

/-- A PENDING entry's QUEUED orders marked NO_RECIPE and the entry made INVALID (R166, R130). -/
def State.dropPendingAt (s : State) (i : Fin 32) : State :=
  match s.recipes.entries[i] with
  | some e => if e.state = .pending then (s.markNoRecipe i).setEntry i none else s
  | none => s

/-- The recipe table at a RESTART: every PENDING entry dropped, every want removed (R166). -/
def State.restartRecipes (s : State) : State :=
  let s1 := (List.finRange 32).foldl State.dropPendingAt s
  { s1 with recipes.wants := [] }

/-- The order ring at a RESTART after its retirements: batching cleared (R141 step 4). -/
def State.clearBatch (s : State) : State := { s with ring.batch := 0, ring.batchTimer := none }

/-- A zone channel at a RESTART: OFF with stop code NONE; settings, budget and counters kept (R73). -/
def Zone.restarted (c : Zone) : Zone :=
  { c with
    state := .off, request := false, paused := false, forced := false, pendingEnd := .none
    blockCount := 0, stopCode := .none }

/-- The arbiter at a RESTART: a slice in flight is cancelled without a credit exchange (R73). -/
def State.restartArbiter (s : State) : State :=
  let s1 := match s.arbiter.slice with
    | some x => s.send (.sliceCancel x.sequence)
    | none => s
  { s1.updateZones Zone.restarted with
    arbiter.slice := none
    arbiter.sliceTimer := none
    arbiter.enable := false
    arbiter.pause := false
    arbiter.favour := .zone6 }

/-- The tracker at a RESTART: train emptied, timers stopped, flags cleared, line STOPPED; the line clock
runs on (R28, R44). -/
def State.restartTracker (s : State) : State :=
  { s with tracker := { powerOnTracker with clock := s.tracker.clock } }

/-- The outputs negated by a reset (R103, R202); ALERT follows the attention sets. -/
def Pins.negated (p : Pins) : Pins :=
  { p with
    push := false, extract := false, divert := false, skip := false, pressReady := false
    linkDe := false }

/-- The cadence unit, the port and the reset cause at a RESTART (R103, R202, R206). -/
def State.restartLine (s : State) : State :=
  { s with
    cadence := resetCadence
    port := resetPort s.pins.address
    pins := s.pins.negated
    settings.lastReset := .restartRequest }

/-- PRESS_STOP asserted when a reset ends is taken as an assertion (R103). -/
def State.takePressStop (s : State) : State := if s.pins.pressStop then s.pressStopAsserts else s

/-- Every block's restart state, in the order of R207. -/
def State.restart (s : State) : State :=
  let s1 := (((s.loseRecords).loseLoading).restartRecipes).clearBatch
  let s2 := s1.setAttention { s1.attention with pending := Source.restarted.bit }
  (((s2.restartArbiter).restartTracker).restartLine).takePressStop

/-- A frame asks for RESTART. -/
def asksRestart (frame : Frame) : Bool :=
  match decodeRequest frame.kind frame.payload with
  | .request i => decide (i = .restart)
  | .unknownKind | .badLength | .badEncoding => false

/-- The outstanding request is a RESTART: its own reply has not been sent to the end (R192, R207). -/
def Port.owesRestartReply (p : Port) : Bool := p.inbound.any asksRestart

/-- A RESTART has been taken, and no reply of its own stands in its way (R207). A RESTART that came as a frame
takes effect within REPLY_SENT, so this holds only of one taken as a bare request row, which the port sends no
reply to (log entry 20). -/
def State.restartMayTakeEffect (s : State) : Bool := s.port.restartDue && !s.port.owesRestartReply

/-- RESTART takes effect (R207). Before its reply has been sent, or with no RESTART taken, nothing happens
(log entry 4). -/
def restartTakesEffect (s : State) : State := if s.restartMayTakeEffect then s.restart else s

/-! ### Power-on -/

/-- Power-on: every block at its power-on state, the station address read from the pins. The input levels
are the environment's, what the part has sent stays sent, and the queue is not the part's. -/
def powerOnReset (s : State) : State :=
  ({ State.reset with
    port := resetPort s.pins.address
    pins := { s.pins.negated with alert := false }
    wires := s.wires
    pending := s.pending }).takePressStop

/-- The meaning of RESTART_TAKES_EFFECT. -/
def execRestartTakesEffect (s : State) : Outcome := .next (restartTakesEffect s)
/-- The meaning of POWER_ON_RESET. -/
def execPowerOnReset (s : State) : Outcome := .next (powerOnReset s)

end Sys2Proof.Machine
end

