-- ==== Sys2Proof/Machine/PlantEvents.lean ====
section
/-! DEFINITION. The events of the plant: the converter and the coil guards, the pyrometer, the press, the
handling machines, and the blocks' timers (chapters 1, 3 to 7). An event that cannot occur in the
state found changes nothing (R60, R90; log entry 4). -/

namespace Sys2Proof.Machine

/-! ### The converter (R60, R61, R70) -/

/-- The slice in flight, when a report's sequence number matches it (R60). -/
def State.matched (s : State) (sequence : BitVec 8) : Option SliceRecord :=
  match s.arbiter.slice with
  | some x => if x.sequence = sequence then some x else none
  | none => none

/-- SLICE DONE (R61, R62). -/
def sliceDone (sequence : BitVec 8) (energy : Nat) (s : State) : State :=
  match s.matched sequence with
  | some x =>
      let s1 := (s.closeSlice x (min energy x.eset)).count .sliceCompleted
      (((s1.decideZone x.zone x.forced).chooseIfReported s)).settle
  | none => s

/-- SLICE FAULT (R60, R70). -/
def sliceFault (sequence : BitVec 8) (energy : Nat) (s : State) : State :=
  match s.matched sequence with
  | some _ => s.supplyLoss (fun x => min energy x.eset)
  | none => s

/-- CONV_READY falls (R70): a supply loss when global enable is set or a slice is in flight. -/
def convReadyFall (s : State) : State :=
  let s1 := { s with pins.convReady := false }
  if s.arbiter.enable || s.arbiter.slice.isSome then s1.supplyLoss (fun _ => 0) else s1

/-- CONV_READY rises: the level alone changes (R59). -/
def convReadyRise (s : State) : State := { s with pins.convReady := true }

/-- The slice timer expires (R70): SLICE CANCEL is sent first. -/
def sliceTimerExpiry (s : State) : State :=
  match s.arbiter.slice with
  | some x =>
      if s.arbiter.sliceTimer.isSome then (s.send (.sliceCancel x.sequence)).supplyLoss (fun _ => 0) else s
  | none => s

/-! ### The coil guards (R68) -/

/-- The level of a zone's guard input. -/
def State.setGuard (s : State) (z : Fin 6) (level : Bool) : State :=
  { s with pins.guards := s.pins.guards.set z level }

/-- A guard assertion at a DELIVERING zone: SLICE CANCEL unless HALT already pends (R68). -/
def State.cancelForHalt (s : State) (z : Fin 6) : State :=
  if s.arbiter.zones[z].pendingEnd = .halt then s
  else
    let s1 := match s.arbiter.slice with
      | some x => s.send (.sliceCancel x.sequence)
      | none => s
    s1.updateZone z (fun c => { c with pendingEnd := .halt })

/-- A zone's guard input becomes asserted (R68). -/
def guardAsserted (zone : Nat) (s : State) : State :=
  match zoneOf zone with
  | none => s
  | some z =>
    let s1 := s.setGuard z true
    match s.arbiter.zones[z].state with
    | .idle | .waiting | .spent => s1.haltZone z
    | .delivering => s1.cancelForHalt z
    | .off | .halted => s1

/-- A zone's guard input is negated: no zone state changes (R68). -/
def guardNegated (zone : Nat) (s : State) : State :=
  match zoneOf zone with
  | none => s
  | some z => s.setGuard z false

/-! ### The pyrometer and the tracker's timers (R17, R18, R20 to R26) -/

/-- The exit record, if it waits for a reading that can be taken (R20). -/
def State.awaiting (s : State) : Option BilletRecord :=
  match s.tracker.exitRecord with
  | some r => if r.verdict = .awaiting ∧ s.tracker.line ≠ .purging then some r else none
  | none => none

/-- The exit record corrected by a reading of value Ts, with its verdict, the record having been updated
to the line clock (R21 steps 4 and 5). -/
def corrected (body : Body) (ambient ts : Nat) (r : BilletRecord) : BilletRecord :=
  let tm := max (ts - r.sx) ambient
  { r with tm := tm, reading := some ts, verdict := readingVerdict body r.aged ts tm r.exitGoal }

/-- The learning step of a reading, when one is formed (R26). -/
def State.learnFrom (s : State) (r : BilletRecord) (residual : Int) (width : Nat) : State :=
  match r.ref with
  | .entry i => if r.verdict = .rejectAged then s else s.learn i residual width
  | .window _ => s

/-- A pyrometer temperature message (R20, R21, R22, R26). -/
def pyroTemperatureMessage (value : Nat) (s : State) : State :=
  match s.awaiting with
  | none => s
  | some r =>
    let body := s.bodyOf r
    let r1 := s.updated r
    let r2 := corrected body s.settings.ambient (min value 25600) r1
    let s1 := ({ s with tracker.readingTimer := none }).updateExit (fun _ => r2)
    let s2 := (s1.reportExit).learnFrom r2 ((r2.tm : Int) - r1.tm) body.width
    (s2.choose).settle

/-- A no-target indication is not a reading in any state (R20). -/
def pyroNoTarget (s : State) : State := s

/-- The reading timer expires (R23). -/
def readingTimerExpiry (s : State) : State :=
  if s.tracker.readingTimer.isSome then
    let s1 := { s with tracker.readingTimer := none }
    match s.tracker.exitRecord with
    | some r =>
        if r.verdict = .awaiting then
          (((s1.updateExit (fun r => { r with verdict := .rejectUnmeasured })).reportExit).choose).settle
        else s1
    | none => s1
  else s

/-- The survey timer expires (R17). -/
def surveyTimerExpiry (s : State) : State :=
  if s.tracker.surveyTimer.isSome then
    let s1 := { s with tracker.surveyTimer := some (s.timer s.settings.surveyPeriod) }
    let s2 := (((s1.updateTrain).recheckExit).evaluateAll).reportReadiness
    ((s2.grant).chooseIfReported s).settle
  else s

/-! ### The press (R78, R86, R87) -/

/-- PRESS_CALL is asserted (R86, R87, R91). -/
def pressCall (s : State) : State :=
  let s1 := { s with pins.pressCall := true }
  if s.cadence.line = .run then
    if s.pins.pressReady then (s1.startExtract).settle
    else (({ s1 with cadence.pendingCall := true }).choose).settle
  else s1.decline

/-- PRESS_CALL is negated: no effect but the level (R86). -/
def pressCallNegated (s : State) : State := { s with pins.pressCall := false }

/-- PRESS_STOP is asserted (R78). -/
def pressStopAsserted (s : State) : State := (({ s with pins.pressStop := true }).pressStopAsserts).settle

/-- PRESS_STOP is negated (R78). -/
def pressStopNegated (s : State) : State :=
  let s1 := { s with pins.pressStop := false, cadence.holdDelay := none }
  if s.cadence.pressStop then
    (({ s1 with cadence.pressStop := false }).afterCauseRemoved true).settle
  else s1

/-- The hold-delay timer expires (R78). -/
def holdDelayExpiry (s : State) : State :=
  if s.cadence.holdDelay.isSome then (({ s with cadence.holdDelay := none }).addPressStop).settle else s

/-! ### The handling machines (R90, R92, R93, R97, R99, R100, R104, R111, R112) -/

/-- PUSH_DONE (R90, R97, R112). -/
def pushDone (s : State) : State :=
  match s.cadence.operation with
  | some (.push loaded) =>
      let s1 := (s.endOperation).pushCompleted loaded
      if s.cadence.line = .purging then (s1.purgeNext).settle else s1.afterCompletion
  | some .extract | some .divert | none => s

/-- EXTRACT_DONE (R90, R99). -/
def extractDone (s : State) : State :=
  match s.cadence.operation with
  | some .extract => ((s.endOperation).removeExit (fun _ => .delivered)).afterCompletion
  | some (.push _) | some .divert | none => s

/-- DIVERT_DONE (R90, R100, R111, R112). -/
def divertDone (s : State) : State :=
  match s.cadence.operation with
  | some .divert =>
      if s.cadence.line = .purging then
        (((s.endOperation).removeExit (fun _ => .purged)).startOperation (.push none)).settle
      else ((s.endOperation).removeExit (fun r => r.verdict.atDiversion)).afterCompletion
  | some (.push _) | some .extract | none => s

/-- The handling timer expires (R104). -/
def handlingTimerExpiry (s : State) : State :=
  match s.cadence.operation with
  | some o => if s.cadence.handlingTimer.isSome then s.handlingTimeout o else s
  | none => s

/-- The minimum-push timer expires (R92). -/
def minPushTimerExpiry (s : State) : State :=
  if s.cadence.minPush.isSome then ((({ s with cadence.minPush := none }).choose)).settle else s

/-- The cold-wait timer expires (R93). -/
def coldWaitExpiry (s : State) : State :=
  match s.cadence.coldWait with
  | .running _ => ((({ s with cadence.coldWait := .expired }).choose)).settle
  | .stopped | .expired => s

/-! ### The ring's and the table's timers (R136, R153) -/

/-- The batch delay timer expires (R136). -/
def batchDelayExpiry (s : State) : State :=
  if s.ring.batchTimer.isSome then
    let s1 := { s with ring.batchTimer := none }
    if 0 < s.ring.batch then s1.raiseOrderDone else s1
  else s

/-- The want for a key whose entry is PENDING. -/
def State.wantFor (s : State) (key : Key) : Option Want :=
  match s.recipes.wants.find? (fun w => w.key == key) with
  | some w => match s.recipes.entries[w.entry] with
    | some e => if e.state = .pending then some w else none
    | none => none
  | none => none

/-- The fetch timeout of a want (R153). -/
def fetchTimeout (key : Key) (s : State) : State :=
  match s.wantFor key with
  | some w =>
      (((((s.dropWant w.entry).markNoRecipe w.entry).setEntry w.entry none).raise .recipeLost)
        ).count .fetchTimeout
  | none => s

/-- The meaning of SLICE_DONE. -/
def execSliceDone (sequence : BitVec 8) (energy : Nat) (s : State) : Outcome :=
  .next (sliceDone sequence energy s)
/-- The meaning of SLICE_FAULT. -/
def execSliceFault (sequence : BitVec 8) (energy : Nat) (s : State) : Outcome :=
  .next (sliceFault sequence energy s)
/-- The meaning of CONV_READY_FALL. -/
def execConvReadyFall (s : State) : Outcome := .next (convReadyFall s)
/-- The meaning of CONV_READY_RISE. -/
def execConvReadyRise (s : State) : Outcome := .next (convReadyRise s)
/-- The meaning of SLICE_TIMER_EXPIRY. -/
def execSliceTimerExpiry (s : State) : Outcome := .next (sliceTimerExpiry s)
/-- The meaning of GUARD_ASSERTED. -/
def execGuardAsserted (zone : Nat) (s : State) : Outcome := .next (guardAsserted zone s)
/-- The meaning of GUARD_NEGATED. -/
def execGuardNegated (zone : Nat) (s : State) : Outcome := .next (guardNegated zone s)
/-- The meaning of PYRO_TEMPERATURE_MESSAGE. -/
def execPyroTemperatureMessage (value : Nat) (s : State) : Outcome := .next (pyroTemperatureMessage value s)
/-- The meaning of PYRO_NO_TARGET. -/
def execPyroNoTarget (s : State) : Outcome := .next (pyroNoTarget s)
/-- The meaning of READING_TIMER_EXPIRY. -/
def execReadingTimerExpiry (s : State) : Outcome := .next (readingTimerExpiry s)
/-- The meaning of SURVEY_TIMER_EXPIRY. -/
def execSurveyTimerExpiry (s : State) : Outcome := .next (surveyTimerExpiry s)
/-- The meaning of PRESS_CALL. -/
def execPressCall (s : State) : Outcome := .next (pressCall s)
/-- The meaning of PRESS_CALL_NEGATED. -/
def execPressCallNegated (s : State) : Outcome := .next (pressCallNegated s)
/-- The meaning of PRESS_STOP_ASSERTED. -/
def execPressStopAsserted (s : State) : Outcome := .next (pressStopAsserted s)
/-- The meaning of PRESS_STOP_NEGATED. -/
def execPressStopNegated (s : State) : Outcome := .next (pressStopNegated s)
/-- The meaning of HOLD_DELAY_EXPIRY. -/
def execHoldDelayExpiry (s : State) : Outcome := .next (holdDelayExpiry s)
/-- The meaning of PUSH_DONE. -/
def execPushDone (s : State) : Outcome := .next (pushDone s)
/-- The meaning of EXTRACT_DONE. -/
def execExtractDone (s : State) : Outcome := .next (extractDone s)
/-- The meaning of DIVERT_DONE. -/
def execDivertDone (s : State) : Outcome := .next (divertDone s)
/-- The meaning of HANDLING_TIMER_EXPIRY. -/
def execHandlingTimerExpiry (s : State) : Outcome := .next (handlingTimerExpiry s)
/-- The meaning of MIN_PUSH_TIMER_EXPIRY. -/
def execMinPushTimerExpiry (s : State) : Outcome := .next (minPushTimerExpiry s)
/-- The meaning of COLD_WAIT_EXPIRY. -/
def execColdWaitExpiry (s : State) : Outcome := .next (coldWaitExpiry s)
/-- The meaning of BATCH_DELAY_EXPIRY. -/
def execBatchDelayExpiry (s : State) : Outcome := .next (batchDelayExpiry s)
/-- The meaning of FETCH_TIMEOUT. -/
def execFetchTimeout (key : Key) (s : State) : Outcome := .next (fetchTimeout key s)

end Sys2Proof.Machine
end

