-- ==== Sys2Proof/Machine/LinkEvents.lean ====
section
/-! DEFINITION. The link port: the receiver, the checks of a complete frame, dispatch, the reply and its
end (chapter 10). -/

namespace Sys2Proof.Machine

/-! ### Dispatch (R193) -/

/-- A request taken by its owning block (R193 step 3). A command that is no request has no block to take
it and changes nothing; `decodeRequest` answers none of those. -/
def takeRequest (i : Instr) (s : State) : State :=
  match i with
  | .start => startRequest s
  | .stop => stopRequest s
  | .hold => holdRequest s
  | .resume => resumeRequest s
  | .drain => drainRequest s
  | .purge => purgeRequest s
  | .declareEmpty => declareEmptyRequest s
  | .readLine => readLineRequest s
  | .readTrain first count => readTrainRequest first count s
  | .setZone zone mode blockSize setpoint budget options =>
      setZoneRequest zone mode blockSize setpoint budget options s
  | .readZone zone => readZoneRequest zone s
  | .enableZone zone => enableZoneRequest zone s
  | .disableZone zone => disableZoneRequest zone s
  | .pauseZone zone => pauseZoneRequest zone s
  | .continueZone zone => continueZoneRequest zone s
  | .doseZone zone => doseZoneRequest zone s
  | .powerOn => powerOnRequest s
  | .powerOff => powerOffRequest s
  | .powerPause => powerPauseRequest s
  | .powerContinue => powerContinueRequest s
  | .postOrder billetId key flags entryTemp exitOverride =>
      postOrderRequest billetId key flags entryTemp exitOverride s
  | .withdraw n => withdrawRequest n s
  | .readOrders first count => readOrdersRequest first count s
  | .reclaim n => reclaimRequest n s
  | .loadRecipe key body trim policy => loadRecipeRequest key body trim policy s
  | .readRecipe selector => readRecipeRequest selector s
  | .flushRecipe key => flushRecipeRequest key s
  | .flushUnpinned => flushUnpinnedRequest s
  | .pinRecipe key => pinRecipeRequest key s
  | .unpinRecipe key => unpinRecipeRequest key s
  | .setWindow window enable base mask body => setWindowRequest window enable base mask body s
  | .readWants => readWantsRequest s
  | .takeWritebacks => takeWritebacksRequest s
  | .requestWriteback key => requestWritebackRequest key s
  | .readAttention => readAttentionRequest s
  | .enableAttention set => enableAttentionRequest set s
  | .disableAttention set => disableAttentionRequest set s
  | .clearAttention set => clearAttentionRequest set s
  | .selectCounter counter event => selectCounterRequest counter event s
  | .readCounters => readCountersRequest s
  | .writeSetting id value => writeSettingRequest id value s
  | .readSettings => readSettingsRequest s
  | .writeProfile profile => writeProfileRequest profile s
  | .identify => identifyRequest s
  | .restart => restartRequest s
  | .restartTakesEffect | .powerOnReset | .frameReceived _ | .idleGapAbandon | .framingErrorAbandon
  | .lengthByteDiscard _ | .replySent | .sliceDone _ _ | .sliceFault _ _ | .convReadyFall
  | .sliceTimerExpiry | .guardAsserted _ | .guardNegated _ | .pyroTemperatureMessage _
  | .pyroNoTarget | .readingTimerExpiry | .surveyTimerExpiry | .pressCall | .pressStopAsserted
  | .pressStopNegated | .holdDelayExpiry | .pushDone | .extractDone | .divertDone
  | .handlingTimerExpiry | .minPushTimerExpiry | .coldWaitExpiry | .batchDelayExpiry
  | .fetchTimeout _ | .syncByteBeginsFrame | .convReadyRise | .pressCallNegated => s

/-- The dispatch of the outstanding request's kind and payload: kind, length, block (R193). -/
def State.dispatch (s : State) (kind : Byte) (payload : List Byte) : State :=
  match decodeRequest kind payload with
  | .unknownKind => s.refuse .unknownKind
  | .badLength => s.refuse .badLength
  | .badEncoding => s.refuse .badValue
  | .request i => takeRequest i s

/-! ### The reply (R189, R194) -/

/-- The port flags: discard flag and ALERT level (Table 10-2). -/
def State.portFlags (s : State) : Byte :=
  BitVec.ofNat 8 (flagBit 0 s.port.discard + flagBit 1 s.pins.alert)

/-- The payload of the reply (Table 10-2): the reply data of a refused request are empty. -/
def State.replyPayload (s : State) (r : Reply) : List Byte :=
  [BitVec.ofNat 8 r.result.code, s.portFlags] ++ r.data

/-- The reply to a frame formed from what the block handed to the port; the discard flag is cleared in the
same step (R194). -/
def State.formReply (s : State) (frame : Frame) : State :=
  match s.reply with
  | some r =>
      { s with
        port.replyFrame := some (Frame.make (s.port.station.setWidth 8) (frame.kind + 0x80) frame.tag
          (s.replyPayload r)).bytes
        port.discard := false }
  | none => s

/-! ### Receiving (R190, R191) -/

/-- The discard flag is set (R190, R191). -/
def State.discardFrame (s : State) : State := { s with port.discard := true }

/-- The receiver returns to hunting. -/
def State.hunt (s : State) : State := { s with port.receiver := .hunting }

/-- A frame taken into the inbound buffer, dispatched and answered (R191 step 4, R193, R194). -/
def State.takeFrame (s : State) (frame : Frame) : State :=
  (({ s with port.inbound := some frame }).dispatch frame.kind frame.payload).formReply frame

/-- The checks of a complete frame, the receiver having returned to hunting (R191). -/
def State.checkFrame (s : State) (frame : Frame) : State :=
  if frame.crc ≠ crc16 frame.covered then s.discardFrame
  else if frame.address ≠ s.port.station.setWidth 8 then s
  else if s.port.inbound.isSome then s.discardFrame
  else s.takeFrame frame

/-- A frame's second CRC byte arrives (R190, R191). A deaf receiver sees nothing; a frame whose length byte
is above 200 has been discarded there (log entry 12). -/
def frameReceived (frame : Frame) (s : State) : State :=
  if s.port.receiver = .deaf then s
  else if 200 < frame.payload.length then (s.hunt).discardFrame
  else (s.hunt).checkFrame frame

/-- A frame abandoned or discarded while it is being received: dropped, the flag set (R190). -/
def State.abandonFrame (s : State) : State :=
  if s.port.receiver = .receiving then (s.hunt).discardFrame else s

/-- An idle gap of more than 2 ms (R190). -/
def idleGapAbandon (s : State) : State := s.abandonFrame

/-- A character with a framing error (R190). -/
def framingErrorAbandon (s : State) : State := s.abandonFrame

/-- A payload length byte of the frame in progress; a value above 200 discards the frame (R190). -/
def lengthByteDiscard (length : Nat) (s : State) : State := if 200 < length then s.abandonFrame else s

/-- A sync byte in the hunting phase begins a frame; in the others it is data or unseen (R190). -/
def syncByteBeginsFrame (s : State) : State :=
  if s.port.receiver = .hunting then { s with port.receiver := .receiving } else s

/-- The part begins to send the reply it has formed: LINK_DE asserted, receiver deaf (R188, R190). -/
def State.beginReply (s : State) : State :=
  { s with pins.linkDe := true, port.receiver := .deaf }

/-- The reply has been sent: LINK_DE is negated, the request is no longer outstanding, and the receiver hunts
(R188, R190, R192). -/
def State.endReply (s : State) : State :=
  { s with
    pins.linkDe := false
    port.inbound := none
    port.replyFrame := none
    port.receiver := .hunting }

/-- The last character of the reply has been sent and LINK_DE is negated (R192). A RESTART whose own reply it was
takes effect at that moment, before anything else reaches the part (R207; log entry 20). -/
def replySent (s : State) : State :=
  if s.port.inbound.isSome then
    if s.port.restartDue && s.port.owesRestartReply then s.endReply.restart else s.endReply
  else s

/-- The meaning of FRAME_RECEIVED. -/
def execFrameReceived (frame : Frame) (s : State) : Outcome := .next (frameReceived frame s)
/-- The meaning of IDLE_GAP_ABANDON. -/
def execIdleGapAbandon (s : State) : Outcome := .next (idleGapAbandon s)
/-- The meaning of FRAMING_ERROR_ABANDON. -/
def execFramingErrorAbandon (s : State) : Outcome := .next (framingErrorAbandon s)
/-- The meaning of LENGTH_BYTE_DISCARD. -/
def execLengthByteDiscard (length : Nat) (s : State) : Outcome := .next (lengthByteDiscard length s)
/-- The meaning of SYNC_BYTE_BEGINS_FRAME. -/
def execSyncByteBeginsFrame (s : State) : Outcome := .next (syncByteBeginsFrame s)
/-- The meaning of REPLY_SENT. -/
def execReplySent (s : State) : Outcome := .next (replySent s)

end Sys2Proof.Machine
end

