-- ==== Sys2Proof/Machine/Dispatch.lean ====
section
/-! DEFINITION. What each command does: one arm for each row of the opcode table. -/

namespace Sys2Proof.Machine

/-- The effect of a command on everything but the queue. -/
def exec (i : Instr) (s : State) : Host.Outcome State Fault Refusal :=
  match i with
  | .start => Sys2Proof.Machine.execStart s
  | .stop => Sys2Proof.Machine.execStop s
  | .hold => Sys2Proof.Machine.execHold s
  | .resume => Sys2Proof.Machine.execResume s
  | .drain => Sys2Proof.Machine.execDrain s
  | .purge => Sys2Proof.Machine.execPurge s
  | .declareEmpty => Sys2Proof.Machine.execDeclareEmpty s
  | .readLine => Sys2Proof.Machine.execReadLine s
  | .readTrain first count => Sys2Proof.Machine.execReadTrain first count s
  | .setZone zone mode blockSize setpoint budget options => Sys2Proof.Machine.execSetZone zone mode blockSize setpoint budget options s
  | .readZone zone => Sys2Proof.Machine.execReadZone zone s
  | .enableZone zone => Sys2Proof.Machine.execEnableZone zone s
  | .disableZone zone => Sys2Proof.Machine.execDisableZone zone s
  | .pauseZone zone => Sys2Proof.Machine.execPauseZone zone s
  | .continueZone zone => Sys2Proof.Machine.execContinueZone zone s
  | .doseZone zone => Sys2Proof.Machine.execDoseZone zone s
  | .powerOn => Sys2Proof.Machine.execPowerOn s
  | .powerOff => Sys2Proof.Machine.execPowerOff s
  | .powerPause => Sys2Proof.Machine.execPowerPause s
  | .powerContinue => Sys2Proof.Machine.execPowerContinue s
  | .postOrder billetId key flags entryTemp exitOverride => Sys2Proof.Machine.execPostOrder billetId key flags entryTemp exitOverride s
  | .withdraw n => Sys2Proof.Machine.execWithdraw n s
  | .readOrders first count => Sys2Proof.Machine.execReadOrders first count s
  | .reclaim n => Sys2Proof.Machine.execReclaim n s
  | .loadRecipe key body trim policy => Sys2Proof.Machine.execLoadRecipe key body trim policy s
  | .readRecipe selector => Sys2Proof.Machine.execReadRecipe selector s
  | .flushRecipe key => Sys2Proof.Machine.execFlushRecipe key s
  | .flushUnpinned => Sys2Proof.Machine.execFlushUnpinned s
  | .pinRecipe key => Sys2Proof.Machine.execPinRecipe key s
  | .unpinRecipe key => Sys2Proof.Machine.execUnpinRecipe key s
  | .setWindow window enable base mask body => Sys2Proof.Machine.execSetWindow window enable base mask body s
  | .readWants => Sys2Proof.Machine.execReadWants s
  | .takeWritebacks => Sys2Proof.Machine.execTakeWritebacks s
  | .requestWriteback key => Sys2Proof.Machine.execRequestWriteback key s
  | .readAttention => Sys2Proof.Machine.execReadAttention s
  | .enableAttention set => Sys2Proof.Machine.execEnableAttention set s
  | .disableAttention set => Sys2Proof.Machine.execDisableAttention set s
  | .clearAttention set => Sys2Proof.Machine.execClearAttention set s
  | .selectCounter counter event => Sys2Proof.Machine.execSelectCounter counter event s
  | .readCounters => Sys2Proof.Machine.execReadCounters s
  | .writeSetting id value => Sys2Proof.Machine.execWriteSetting id value s
  | .readSettings => Sys2Proof.Machine.execReadSettings s
  | .writeProfile profile => Sys2Proof.Machine.execWriteProfile profile s
  | .identify => Sys2Proof.Machine.execIdentify s
  | .restart => Sys2Proof.Machine.execRestart s
  | .restartTakesEffect => Sys2Proof.Machine.execRestartTakesEffect s
  | .powerOnReset => Sys2Proof.Machine.execPowerOnReset s
  | .frameReceived frame => Sys2Proof.Machine.execFrameReceived frame s
  | .idleGapAbandon => Sys2Proof.Machine.execIdleGapAbandon s
  | .framingErrorAbandon => Sys2Proof.Machine.execFramingErrorAbandon s
  | .lengthByteDiscard length => Sys2Proof.Machine.execLengthByteDiscard length s
  | .replySent => Sys2Proof.Machine.execReplySent s
  | .sliceDone sequence energy => Sys2Proof.Machine.execSliceDone sequence energy s
  | .sliceFault sequence energy => Sys2Proof.Machine.execSliceFault sequence energy s
  | .convReadyFall => Sys2Proof.Machine.execConvReadyFall s
  | .sliceTimerExpiry => Sys2Proof.Machine.execSliceTimerExpiry s
  | .guardAsserted zone => Sys2Proof.Machine.execGuardAsserted zone s
  | .guardNegated zone => Sys2Proof.Machine.execGuardNegated zone s
  | .pyroTemperatureMessage value => Sys2Proof.Machine.execPyroTemperatureMessage value s
  | .pyroNoTarget => Sys2Proof.Machine.execPyroNoTarget s
  | .readingTimerExpiry => Sys2Proof.Machine.execReadingTimerExpiry s
  | .surveyTimerExpiry => Sys2Proof.Machine.execSurveyTimerExpiry s
  | .pressCall => Sys2Proof.Machine.execPressCall s
  | .pressStopAsserted => Sys2Proof.Machine.execPressStopAsserted s
  | .pressStopNegated => Sys2Proof.Machine.execPressStopNegated s
  | .holdDelayExpiry => Sys2Proof.Machine.execHoldDelayExpiry s
  | .pushDone => Sys2Proof.Machine.execPushDone s
  | .extractDone => Sys2Proof.Machine.execExtractDone s
  | .divertDone => Sys2Proof.Machine.execDivertDone s
  | .handlingTimerExpiry => Sys2Proof.Machine.execHandlingTimerExpiry s
  | .minPushTimerExpiry => Sys2Proof.Machine.execMinPushTimerExpiry s
  | .coldWaitExpiry => Sys2Proof.Machine.execColdWaitExpiry s
  | .batchDelayExpiry => Sys2Proof.Machine.execBatchDelayExpiry s
  | .fetchTimeout key => Sys2Proof.Machine.execFetchTimeout key s
  | .syncByteBeginsFrame => Sys2Proof.Machine.execSyncByteBeginsFrame s
  | .convReadyRise => Sys2Proof.Machine.execConvReadyRise s
  | .pressCallNegated => Sys2Proof.Machine.execPressCallNegated s

end Sys2Proof.Machine
end

