-- ==== Sys2Proof/Machine/Idle.lean ====
section
/-! DEFINITION. What the part does when no command waits: a taken RESTART takes effect, a formed reply begins
to be sent, a timer that is due expires, or the line clock advances (log entries 1, 5 and 7). -/

namespace Sys2Proof.Machine

/-- The commands of a timer: its expiry, if it runs and is due. -/
def expiryOf (now : Clock) (timer : Option RunningTimer) (i : Instr) : List Instr :=
  match timer with
  | some t => if t.due now then [i] else []
  | none => []

/-- The cold-wait timer while it runs (R93). -/
def ColdWait.timer? : ColdWait → Option RunningTimer
  | .running t => some t
  | .stopped | .expired => none

/-- The fetch timer of a want (R151). -/
def Want.timer (w : Want) : RunningTimer := ⟨w.wantedAt, w.timeout⟩

/-- The wants whose fetch timers are due, oldest first (R151, R153). -/
def State.fetchExpiries (s : State) : List Instr :=
  s.recipes.wants.flatMap (fun w =>
    if (s.wantFor w.key).isSome then expiryOf s.tracker.clock (some w.timer) (.fetchTimeout w.key) else [])

/-- The handling timer while an operation is in flight (R104). -/
def State.handlingTimerRunning (s : State) : Option RunningTimer :=
  if s.cadence.operation.isSome then s.cadence.handlingTimer else none

/-- The slice timer while a slice is in flight (R70). -/
def State.sliceTimerRunning (s : State) : Option RunningTimer :=
  if s.arbiter.slice.isSome then s.arbiter.sliceTimer else none

/-- The expiries that are due at the line clock as it stands. -/
def State.dueExpiries (s : State) : List Instr :=
  let now := s.tracker.clock
  expiryOf now s.handlingTimerRunning .handlingTimerExpiry ++
  expiryOf now s.sliceTimerRunning .sliceTimerExpiry ++
  expiryOf now s.tracker.readingTimer .readingTimerExpiry ++
  expiryOf now s.tracker.surveyTimer .surveyTimerExpiry ++
  expiryOf now s.cadence.holdDelay .holdDelayExpiry ++
  expiryOf now s.cadence.minPush .minPushTimerExpiry ++
  expiryOf now s.cadence.coldWait.timer? .coldWaitExpiry ++
  expiryOf now s.ring.batchTimer .batchDelayExpiry ++
  s.fetchExpiries

/-- The line clock advances by one millisecond, wrapping (R6). -/
def State.tick (s : State) : State := { s with tracker.clock := s.tracker.clock + 1 }

/-- Time passes: the expiry chosen among those due, or one millisecond. -/
def State.passTime (s : State) : Outcome :=
  match s.dueExpiries with
  | [] => .next s.tick
  | i :: rest =>
      exec ((i :: rest).getD (Config.dueChoice s.tracker.clock (i :: rest) % (rest.length + 1)) i) s

/-- A step with no command waiting. -/
def idleStep (s : State) : Outcome :=
  if s.restartMayTakeEffect then exec .restartTakesEffect s
  else if s.port.replyFrame.isSome && !s.pins.linkDe then .next s.beginReply
  else s.passTime

/-- A step: the command at the front of the queue, or an idle step. -/
def stepQueue (s : State) : Outcome :=
  match s.pending with
  | c :: rest => exec c { s with pending := rest }
  | [] => idleStep s

/-- The state with the command a word spells put at the front of its queue; unchanged where the word spells
none. -/
def pushWord (s : State) (nbits w : Nat) : State :=
  match decodeTableWord nbits w with
  | some c => { s with pending := c :: s.pending }
  | none => s

end Sys2Proof.Machine
end

