-- ==== Sys2Proof/Machine/Step.lean ====
section
/-! DEFINITION. One step of the machine, and the state with a table word's command in front. -/

namespace Sys2Proof.Machine

/-- One step: the command at the front of the queue, taken with the queue's rest; with no command waiting, an
idle step (log entry 1). -/
def step (s : State) : Host.Outcome State Fault Refusal := stepQueue s

/-- `s` with the command that a table word spells at the front of its queue. -/
def State.withFetchWord (s : State) (nbits w : Nat) : State := pushWord s nbits w

end Sys2Proof.Machine
end

