-- ==== Sys2Proof/Safety.lean ====
section
/-! DEFINITION. What a sound state of the ULK-624 is: the laws the spec states of the whole part, one predicate
each, in the terms the statements use. -/

namespace Sys2Proof.Machine

/-! ### Attention, cadence and levels -/

/-- The ALERT level is asserted exactly when some source is pending and enabled (R179). -/
abbrev AlertFollows (s : State) : Prop := s.pins.alert = s.attention.alertLevel

/-- PRESS_READY stands at the level of R85. -/
abbrev PressReadyFollows (s : State) : Prop := s.pins.pressReady = s.cadence.pressReadyLevel

/-- A call is pending only while the line is in RUN (R88). -/
abbrev CallOnlyInRun (s : State) : Prop := s.cadence.pendingCall = true → s.cadence.line = .run

/-- The line is not in RUN with a hold cause present, nor in HOLD with none (R76). -/
abbrev CausesDecideHold (s : State) : Prop :=
  (s.cadence.line = .run → s.cadence.held = false) ∧ (s.cadence.line = .hold → s.cadence.held = true)

/-- The cold-wait timer is stopped outside RUN (R93). -/
abbrev ColdWaitOnlyInRun (s : State) : Prop := s.cadence.coldWait ≠ .stopped → s.cadence.line = .run

/-- The output levels a handling operation asserts (R89, R95). -/
def outputLevels : Option Operation → Bool × Bool × Bool × Bool
  | none => (false, false, false, false)
  | some (.push none) => (true, true, false, false)
  | some (.push (some _)) => (true, false, false, false)
  | some .extract => (false, false, true, false)
  | some .divert => (false, false, false, true)

/-- The handling timer runs exactly while an operation is in flight, whose outputs alone are asserted
(R89, R95). -/
abbrev OutputsFollow (s : State) : Prop :=
  s.cadence.handlingTimer.isSome = s.cadence.operation.isSome ∧
  (s.pins.push, s.pins.skip, s.pins.extract, s.pins.divert) = outputLevels s.cadence.operation

/-- The purge step count lies in 0..13, and a purge in progress stands at a step, with its divert or its gap
push in flight (R110 to R114). -/
abbrev PurgeInStep (s : State) : Prop :=
  s.cadence.purgeStep ≤ 13 ∧
  (s.cadence.line = .purging → 1 ≤ s.cadence.purgeStep ∧
    (s.cadence.operation = some .divert ∨ s.cadence.operation = some (.push none)))

/-- The tracker and the cadence unit hold one line state (R10). -/
abbrev LineKnown (s : State) : Prop := s.tracker.line = s.cadence.line

/-! ### The arbiter -/

/-- A zone is DELIVERING exactly when the slice in flight is its own, and the slice timer runs exactly while a
slice is in flight (R49). -/
abbrev SliceOfZone (s : State) : Prop :=
  (∀ z : Fin 6, s.arbiter.zones[z].state = .delivering ↔ s.arbiter.slice.map SliceRecord.zone = some z) ∧
  s.arbiter.sliceTimer.isSome = s.arbiter.slice.isSome

/-- No grant is left to make: with the converter free, on and not paused, no zone is eligible (R56). -/
abbrev NoGrantDue (s : State) : Prop :=
  s.arbiter.mayGrant = true → ∀ z : Fin 6, s.arbiter.zones[z].eligible = false

/-- An IDLE zone claims nothing and a WAITING one claims the converter (R46, R48). -/
abbrev ClaimsDecideWaiting (s : State) : Prop :=
  ∀ z : Fin 6, (s.arbiter.zones[z].state = .idle → s.arbiter.zones[z].claims = false) ∧
    (s.arbiter.zones[z].state = .waiting → s.arbiter.zones[z].claims = true)

/-- Each request flag is the tracker's demand flag (R46). -/
abbrev RequestsKnown (s : State) : Prop :=
  ∀ z : Fin 6, s.arbiter.zones[z].request = s.tracker.demand[z]

/-- The settings of a zone lie in the ranges of Table 3-1. -/
def ZoneSettings.inRange (c : ZoneSettings) : Bool :=
  decide (c.blockSize ≤ 16 ∧ 1 ≤ c.setpoint ∧ c.setpoint ≤ 4000 ∧ 1 ≤ c.budget ∧ c.budget ≤ 65535)

/-- Zone settings in range, the remaining budget never above the budget, the block count in 0..16 (R45,
Tables 3-1 and 3-2). -/
abbrev ZonesInRange (s : State) : Prop :=
  ∀ z : Fin 6, s.arbiter.zones[z].settings.inRange = true ∧
    s.arbiter.zones[z].remaining ≤ s.arbiter.zones[z].settings.budget ∧
    s.arbiter.zones[z].blockCount ≤ 16

/-- Outside a slice no stop waits, and no grant counts slices; an OFF or HALTED zone is neither paused nor
forced (R54, R55, R62, R68, R69). -/
abbrev StopsSettled (s : State) : Prop :=
  ∀ z : Fin 6, (s.arbiter.zones[z].state ≠ .delivering → s.arbiter.zones[z].pendingEnd = .none) ∧
    (s.arbiter.zones[z].state ≠ .delivering → s.arbiter.zones[z].blockCount = 0) ∧
    (s.arbiter.zones[z].state = .off ∨ s.arbiter.zones[z].state = .halted →
      s.arbiter.zones[z].paused = false ∧ s.arbiter.zones[z].forced = false)

/-! ### Settings -/

/-- A setting lies in its range in Table 11-1. -/
def settingInRange (id value : Nat) : Bool :=
  match settingRange id with
  | some (lo, hi) => decide (lo ≤ value ∧ value ≤ hi)
  | none => false

/-- Every line setting lies in its range, and the profile is one WRITE PROFILE accepts (R203, R29). -/
abbrev SettingsInRange (s : State) : Prop :=
  (∀ k : Fin 15, settingInRange (k.val + 1) ((settingValues s.settings).getD k.val 0) = true) ∧
  profileOk s.settings.profile = true

/-! ### The train -/

/-- The train is ordered by entry, in strictly descending positions of 0..12 (R2). -/
abbrev TrainOrdered (s : State) : Prop :=
  s.tracker.train.Pairwise (fun a b => b.position < a.position) ∧
  ∀ r ∈ s.tracker.train, r.position ≤ 12

/-- A record below the exit has verdict NONE (R3, R15). -/
abbrev UnjudgedBelowExit (s : State) : Prop :=
  ∀ r ∈ s.tracker.train, r.position ≠ 12 → r.verdict = .none

/-- Every record's Tm lies in AMBIENT..25600 and its Sx in 0..4000 (R3). -/
abbrev TemperaturesInRange (s : State) : Prop :=
  ∀ r ∈ s.tracker.train, s.settings.ambient ≤ r.tm ∧ r.tm ≤ 25600 ∧ r.sx ≤ 4000

/-- A push is in flight only while position 12 is empty (R2, R91, R112). -/
abbrev PushUnderEmptyExit (s : State) : Prop :=
  ∀ loaded, s.cadence.operation = some (.push loaded) → s.tracker.exitRecord = none

/-- The cadence unit's exit verdict is the exit record's (R74). -/
abbrev ExitKnown (s : State) : Prop :=
  s.cadence.exitVerdict = s.tracker.exitRecord.map BilletRecord.verdict

/-- The cadence unit's readiness is position 11's (R25). -/
abbrev ReadinessKnown (s : State) : Prop := s.cadence.readiness = s.readinessNow

/-- The survey timer runs exactly while the train holds a record (R17). -/
abbrev SurveyRuns (s : State) : Prop :=
  s.tracker.surveyTimer.isSome = !s.tracker.train.isEmpty

/-! ### The ring -/

/-- A slot's distance from the reclaim pointer, going round the circle (R120). -/
def Ring.ahead (r : Ring) (i : Fin 64) : Nat := (i - r.reclaim).val

/-- A slot holds an order that has left QUEUED. -/
def Slot.pastQueue : Slot → Bool
  | .loading _ | .inLine _ | .done _ _ => true
  | .free | .queued _ => false

/-- A slot holds a QUEUED order. -/
def Slot.isQueued : Slot → Bool
  | .queued _ => true
  | .free | .loading _ | .inLine _ | .done _ _ => false

/-- The occupied slots form one run from the reclaim pointer to the tail pointer; the part up to the load
pointer has left QUEUED and the rest is QUEUED (R120, R123). -/
abbrev RingInOrder (s : State) : Prop :=
  s.ring.queued ≤ s.ring.occupied ∧ s.ring.occupied ≤ 64 ∧
  s.ring.tail.val = (s.ring.reclaim.val + s.ring.occupied) % 64 ∧
  s.ring.load.val = (s.ring.reclaim.val + (s.ring.occupied - s.ring.queued)) % 64 ∧
  ∀ i : Fin 64,
    (s.ring.ahead i < s.ring.occupied - s.ring.queued → s.ring.slots[i].pastQueue = true) ∧
    (s.ring.occupied - s.ring.queued ≤ s.ring.ahead i ∧ s.ring.ahead i < s.ring.occupied →
      s.ring.slots[i].isQueued = true) ∧
    (s.ring.occupied ≤ s.ring.ahead i → s.ring.slots[i] = .free)

/-- The batch counter lies in 0..65535 (R135). -/
abbrev BatchInRange (s : State) : Prop := s.ring.batch ≤ top16

/-- A slot is IN_LINE. -/
def Slot.isInLine : Slot → Bool
  | .inLine _ => true
  | .free | .queued _ | .loading _ | .done _ _ => false

/-- A slot is LOADING an order marked NO_RECIPE. -/
def Slot.loadsNothing : Slot → Bool
  | .loading o => o.resolution == .noRecipe
  | .free | .queued _ | .inLine _ | .done _ _ => false

/-- No order is LOADING without a recipe: a push skips the orders marked NO_RECIPE (R129). -/
abbrev LoadingHasRecipe (s : State) : Prop := ∀ i : Fin 64, s.ring.slots[i].loadsNothing = false

/-- A slot is LOADING. -/
def Slot.isLoading : Slot → Bool
  | .loading _ => true
  | .free | .queued _ | .inLine _ | .done _ _ => false

/-- Every record belongs to an IN_LINE order and every IN_LINE order has exactly one record; an order is
LOADING exactly while a push that loads its slot is in flight (R94, R121). -/
abbrev RecordsOfOrders (s : State) : Prop :=
  (∀ i : Fin 64, s.tracker.train.countP (fun r => r.slot == i) =
    if s.ring.slots[i].isInLine then 1 else 0) ∧
  (∀ i : Fin 64, s.ring.slots[i].isLoading = true ↔ s.cadence.operation = some (.push (some i)))

/-! ### The recipe table -/

/-- A QUEUED, LOADING or IN_LINE order resolved to an entry or window. -/
def Slot.refersTo (ref : RecipeRef) : Slot → Bool
  | .queued o | .loading o | .inLine o => o.resolution == .recipe ref
  | .free | .done _ _ => false

/-- The use count of an entry or window (R150); an INVALID entry has none. -/
def RecipeTable.useOf (t : RecipeTable) : RecipeRef → Nat
  | .entry i => match t.entries[i] with
    | some e => e.useCount
    | none => 0
  | .window w => t.windows[w].useCount

/-- Every use count is the number of QUEUED, LOADING and IN_LINE orders resolved to it (R150). -/
abbrev UseCounted (s : State) : Prop :=
  (∀ i : Fin 32, s.recipes.useOf (.entry i) = s.ring.slots.toList.countP (Slot.refersTo (.entry i))) ∧
  (∀ w : Fin 2, s.recipes.useOf (.window w) = s.ring.slots.toList.countP (Slot.refersTo (.window w)))

/-- Every key stands in its own set, and no key twice (R142). -/
abbrev KeysInSets (s : State) : Prop :=
  ∀ i : Fin 32, (s.recipes.entries[i].all (fun e => s.recipes.keySearch e.key == some i)) = true

/-- No set has more than three pinned ways (R162). -/
abbrev PinsLimited (s : State) : Prop := ∀ set : Fin 8, s.recipes.pinnedWays set ≤ 3

/-- An entry is PENDING. -/
def entryPending : Option Entry → Bool
  | some e => e.state == .pending
  | none => false

/-- The want list holds exactly the wants of the PENDING entries, at most 4, with their keys (R151). -/
abbrev WantsOfPending (s : State) : Prop :=
  s.recipes.wants.length ≤ 4 ∧
  (∀ w ∈ s.recipes.wants, (s.recipes.entries[w.entry].map Entry.key) = some w.key) ∧
  (∀ i : Fin 32, s.recipes.wants.countP (fun w => w.entry == i) =
    if entryPending s.recipes.entries[i] then 1 else 0)

/-- The write-back list holds at most 8 records, and no key twice (R172). -/
abbrev WritebacksDistinct (s : State) : Prop :=
  s.recipes.writebacks.length ≤ 8 ∧ (s.recipes.writebacks.map WritebackRecord.key).Nodup

/-- A VALID or LEARNED entry's parameters and trim lie in range, and so does the learned count; a PENDING
entry holds zeros (R143, Tables 7-1 and 7-2). -/
def Entry.inRange (e : Entry) : Bool :=
  decide (e.learned ≤ top16) &&
  (if e.state = .pending then
    decide (e.body = zeroBody ∧ e.trim = 0 ∧ e.learned = 0 ∧ e.policy = .writeThrough)
  else bodyOk e.body && trimOk e.trim)

/-- Every entry is in range, and every window in use holds a body in range (R143, R145, R164). -/
abbrev RecipesInRange (s : State) : Prop :=
  (∀ i : Fin 32, (s.recipes.entries[i].all Entry.inRange) = true) ∧
  (∀ w : Fin 2, s.recipes.windows[w].enabled = true ∨ 0 < s.recipes.windows[w].useCount →
    bodyOk s.recipes.windows[w].body = true)

/-- The order of a slot that is LOADING or IN_LINE. -/
def Slot.loadedOrder : Slot → Option BilletOrder
  | .loading o | .inLine o => some o
  | .free | .queued _ | .done _ _ => none

/-- No LOADING or IN_LINE order is resolved to a PENDING or INVALID entry, or marked NO_RECIPE (R129, R144). -/
abbrev LoadedResolved (s : State) : Prop :=
  ∀ i : Fin 64, (s.ring.slots[i].loadedOrder.all (fun o => s.recipes.loadable o.resolution)) = true

/-- A record's recipe reference and billet are its order's (R4). -/
abbrev RecordsResolved (s : State) : Prop :=
  ∀ r ∈ s.tracker.train, (s.ring.slots[r.slot].loadedOrder.all
    (fun o => o.resolution == .recipe r.ref && o.billetId == r.billetId)) = true

/-! ### The port -/

/-- A reply stands formed exactly while a request is outstanding; LINK_DE is asserted only then, and the
receiver is deaf exactly while it is (R188, R190, R192). -/
abbrev PortInOrder (s : State) : Prop :=
  s.port.replyFrame.isSome = s.port.inbound.isSome ∧
  (s.pins.linkDe = true → s.port.inbound.isSome = true) ∧
  (s.port.receiver = .deaf ↔ s.pins.linkDe = true)

/-- A counter's selection names an event of Table 9-2 (R185). -/
abbrev SelectionsInRange (s : State) : Prop := ∀ k : Fin 4, s.counters[k].selection ≤ 15

/-! ### The laws, unit by unit -/

/-- The laws of the line and the cadence unit. -/
abbrev LineLaws (s : State) : Prop :=
  CausesDecideHold s ∧ CallOnlyInRun s ∧ ColdWaitOnlyInRun s ∧ LineKnown s ∧ PressReadyFollows s ∧
  OutputsFollow s ∧ PurgeInStep s

/-- The laws of the arbiter. -/
abbrev ConverterLaws (s : State) : Prop :=
  SliceOfZone s ∧ NoGrantDue s ∧ ClaimsDecideWaiting s ∧ RequestsKnown s ∧ StopsSettled s

/-- Ranges of the values that stand outside the recipe table. -/
abbrev RangeLaws (s : State) : Prop :=
  ZonesInRange s ∧ SettingsInRange s ∧ BatchInRange s ∧ SelectionsInRange s

/-- The laws of the column: the train, the ring and the operation in flight. -/
abbrev ColumnLaws (s : State) : Prop :=
  TrainOrdered s ∧ RingInOrder s ∧ PushUnderEmptyExit s ∧ ExitKnown s ∧ RecordsOfOrders s ∧
  LoadingHasRecipe s ∧ SurveyRuns s ∧ UnjudgedBelowExit s

/-- The laws of the recipe table and of the orders bound to it. -/
abbrev TableLaws (s : State) : Prop :=
  UseCounted s ∧ KeysInSets s ∧ PinsLimited s ∧ WantsOfPending s ∧ WritebacksDistinct s ∧
  RecipesInRange s ∧ LoadedResolved s ∧ RecordsResolved s

end Sys2Proof.Machine
end

