-- ==== Sys2Proof/Effects.lean ====
section
/-! DEFINITION. When each command is taken and what it leaves: predicates over the state before (`s`) and after
(`t`), and the states themselves where the rules give the whole of it, in the terms of the spec's tables. The
statements say that `exec` answers a next state that meets them. -/

namespace Sys2Proof.Machine

/-! ### Shared words -/

/-- The state in which a request's block has handed its reply to the port (R193). -/
def replied (s : State) (code : ResultCode) (data : List Byte) : State := { s with reply := some ⟨code, data⟩ }

/-- A source is pending (R178). -/
def State.isPending (s : State) (x : Source) : Bool := s.attention.pending.getLsbD x.number

/-- The state with the attention sets given and ALERT at the level of R179. -/
def attentionSet (s : State) (pending enabled : BitVec 11) : State :=
  { s with
    attention := ⟨pending, enabled⟩
    pins := { s.pins with alert := decide (pending &&& enabled ≠ 0) } }

/-- The state with the sources of a bit set placed in P (R178). -/
def sourcesRaised (s : State) (bits : BitVec 11) : State :=
  attentionSet s (s.attention.pending ||| bits) s.attention.enabled

/-- The state with an event of Table 9-2 counted by its number (R185). -/
def eventCounted (s : State) (event : Nat) : State :=
  { s with
    counters := s.counters.mapIdx (fun _ c =>
      if c.selection = event then { c with count := c.count + 1 } else c) }

/-- Every counter that selects an event has counted `n` more (R185). -/
abbrev Counted (event n : Nat) (s t : State) : Prop :=
  ∀ k : Fin 4, s.counters[k].selection = event →
    t.counters[k].count = s.counters[k].count + BitVec.ofNat 32 n

/-- Two trains hold the same billets in the same order, whatever became of their temperatures, verdicts and
marks. -/
abbrev SameBillets (s t : State) : Prop :=
  t.tracker.train.map (fun r => (r.slot, r.billetId, r.ref, r.position, r.exitGoal, r.holdGoal, r.enteredAt)) =
  s.tracker.train.map (fun r => (r.slot, r.billetId, r.ref, r.position, r.exitGoal, r.holdGoal, r.enteredAt))

/-- A record without its extraction mark, which the start of an EXTRACT sets (R98). -/
def unmarked (r : BilletRecord) : BilletRecord := { r with extracting := false }

/-- A train is the given one, but for extraction marks. -/
abbrev TrainIs (t : State) (train : List BilletRecord) : Prop :=
  t.tracker.train.map unmarked = train.map unmarked

/-- What only the settings', the port's, the attention unit's and the counters' own requests, ticks, pins and
resets change: settings, port, queue, line clock, input levels, enable set, selections, zone settings; and the
converter's enable and pause. -/
abbrev SameOutside (s t : State) : Prop :=
  t.settings = s.settings ∧ t.port = s.port ∧ t.pending = s.pending ∧
  t.tracker.clock = s.tracker.clock ∧ t.attention.enabled = s.attention.enabled ∧
  (t.pins.pressCall, t.pins.pressStop, t.pins.convReady, t.pins.guards, t.pins.address, t.pins.linkDe) =
    (s.pins.pressCall, s.pins.pressStop, s.pins.convReady, s.pins.guards, s.pins.address, s.pins.linkDe) ∧
  (∀ k : Fin 4, t.counters[k].selection = s.counters[k].selection) ∧
  (t.arbiter.enable, t.arbiter.pause) = (s.arbiter.enable, s.arbiter.pause) ∧
  (∀ z : Fin 6, t.arbiter.zones[z].settings = s.arbiter.zones[z].settings)

/-- A slice in flight is left in flight (R82). -/
abbrev SliceKept (s t : State) : Prop :=
  s.arbiter.slice.isSome = true →
    t.arbiter.slice = s.arbiter.slice ∧ t.arbiter.sliceTimer = s.arbiter.sliceTimer

/-- No zone has demand (R43). -/
abbrev NoDemand (t : State) : Prop := ∀ z : Fin 6, t.tracker.demand[z] = false

/-- Every zone's demand flag is its demand as the records now stand (R35, R36). -/
abbrev DemandEvaluated (t : State) : Prop := ∀ z : Fin 6, t.tracker.demand[z] = t.demandNow z

/-! ### The line (chapters 4 and 5) -/

/-- START is accepted (R81). -/
abbrev StartTaken (s : State) : Prop :=
  s.cadence.line = .stopped ∧ s.cadence.occupancyUnknown = false ∧ s.arbiter.enable = true ∧
  s.pins.convReady = true

/-- What START leaves (R81, R75, R76): RUN, or HOLD with a cause present; the no-load flag clear. In HOLD, or with
an operation in flight, nothing is started. -/
abbrev StartLeaves (s t : State) : Prop :=
  t.cadence.line = (if s.cadence.held then .hold else .run) ∧ t.tracker.line = t.cadence.line ∧
  t.cadence.noLoad = false ∧ t.cadence.manual = s.cadence.manual ∧
  t.cadence.pressStop = s.cadence.pressStop ∧ t.cadence.supply = s.cadence.supply ∧
  t.cadence.occupancyUnknown = false ∧ t.cadence.minPush = s.cadence.minPush ∧
  t.reply = some ⟨.ok, []⟩ ∧ SameOutside s t ∧ SameBillets s t ∧ SliceKept s t ∧ DemandEvaluated t ∧
  t.recipes = s.recipes ∧
  (s.cadence.held = true → t.isPending .line = true) ∧
  (s.cadence.held = true ∨ s.cadence.operation.isSome = true →
    t.cadence.operation = s.cadence.operation ∧ t.ring = s.ring)

/-- The line is in production: RUN or HOLD. -/
abbrev InProduction (s : State) : Prop := s.cadence.line = .run ∨ s.cadence.line = .hold

/-- What STOP leaves (R82, R43, R75, R88). -/
abbrev StopLeaves (s t : State) : Prop :=
  t.cadence = { s.cadence with
    line := .stopped
    pendingCall := if s.cadence.line = .run then false else s.cadence.pendingCall
    coldWait := if s.cadence.line = .run then .stopped else s.cadence.coldWait
    exitVerdict := t.cadence.exitVerdict
    readiness := t.cadence.readiness } ∧
  t.tracker.line = .stopped ∧ NoDemand t ∧ t.isPending .line = true ∧
  t.pins = { s.pins with pressReady := false, alert := t.pins.alert } ∧
  t.wires.declinePulses = s.wires.declinePulses +
    (if s.cadence.line = .run ∧ s.cadence.pendingCall = true then 1 else 0) ∧
  t.reply = some ⟨.ok, []⟩ ∧ SameOutside s t ∧ SameBillets s t ∧ SliceKept s t ∧
  t.recipes = s.recipes ∧ t.ring = s.ring

/-- What a hold cause added in RUN leaves (R76, R75, R88): HOLD, nothing started, the call declined. `held` is
the cadence unit with the cause in its set. -/
abbrev HoldEntered (held : Cadence) (s t : State) : Prop :=
  t.cadence = { held with
    line := .hold
    pendingCall := false
    coldWait := .stopped
    exitVerdict := t.cadence.exitVerdict
    readiness := t.cadence.readiness } ∧
  t.tracker.line = .hold ∧ t.isPending .line = true ∧ DemandEvaluated t ∧
  t.wires.declinePulses = s.wires.declinePulses + (if s.cadence.pendingCall = true then 1 else 0) ∧
  SameBillets s t ∧ SliceKept s t ∧ t.recipes = s.recipes ∧ t.ring = s.ring

/-- RESUME releases the line: HOLD, with MANUAL or SUPPLY the last cause (R80, R76). -/
abbrev ResumeReleases (s : State) : Prop :=
  s.cadence.line = .hold ∧ (s.cadence.manual = true ∨ s.cadence.supply = true) ∧ s.cadence.pressStop = false

/-- The line is drained: no-load flag set, train empty, handling idle (R84). -/
abbrev LineEmptied (s : State) : Prop :=
  s.cadence.noLoad = true ∧ s.tracker.train = [] ∧ s.cadence.operation = none

/-- What a release of the line leaves: RUN, or STOPPED if the line is drained; all causes gone (R76, R84). -/
abbrev ReleasedLeaves (s t : State) : Prop :=
  t.cadence.line = (if LineEmptied s then .stopped else .run) ∧ t.tracker.line = t.cadence.line ∧
  t.cadence.held = false ∧ t.cadence.noLoad = s.cadence.noLoad ∧
  t.cadence.occupancyUnknown = s.cadence.occupancyUnknown ∧ DemandEvaluated t ∧
  SameBillets s t ∧ SliceKept s t ∧ t.recipes = s.recipes

/-- What DRAIN leaves when the line is drained at once (R83, R84). -/
abbrev DrainStops (s t : State) : Prop :=
  t.cadence.line = .stopped ∧ t.tracker.line = .stopped ∧ t.cadence.noLoad = true ∧
  t.cadence.pendingCall = false ∧ t.cadence.operation = none ∧ t.tracker.train = [] ∧
  t.isPending .line = true ∧ t.pins.pressReady = false ∧ NoDemand t ∧
  t.reply = some ⟨.ok, []⟩ ∧ SameOutside s t ∧ SliceKept s t ∧ t.recipes = s.recipes ∧ t.ring = s.ring

/-- PURGE is accepted (R110). -/
abbrev PurgeTaken (s : State) : Prop :=
  (s.cadence.line = .stopped ∨ s.cadence.line = .faulted) ∧ s.cadence.operation = none

/-- What PURGE leaves (R110, R111, R20). -/
abbrev PurgeLeaves (s t : State) : Prop :=
  t.cadence = { s.cadence with
    line := .purging
    purgeStep := 1
    operation := some .divert
    handlingTimer := some ⟨s.tracker.clock, s.settings.handlingTimeout⟩
    exitVerdict := t.cadence.exitVerdict
    readiness := t.cadence.readiness } ∧
  t.tracker.line = .purging ∧ t.tracker.readingTimer = none ∧ NoDemand t ∧
  t.pins = { s.pins with divert := true, pressReady := false } ∧ t.attention = s.attention ∧
  t.reply = some ⟨.ok, []⟩ ∧ SameOutside s t ∧ SameBillets s t ∧ SliceKept s t ∧
  t.recipes = s.recipes ∧ t.ring = s.ring ∧ t.counters = s.counters

/-- The eleven bytes of the line view (Table 10-7). -/
def lineBytes (s : State) : List Byte :=
  let bit (n : Nat) (b : Bool) : Nat := if b then n else 0
  [ BitVec.ofNat 8 s.cadence.line.code,
    BitVec.ofNat 8 (bit 1 s.cadence.manual + bit 2 s.cadence.pressStop + bit 4 s.cadence.supply +
      bit 8 s.cadence.holdDelay.isSome),
    BitVec.ofNat 8 (bit 1 s.cadence.noLoad + bit 2 s.cadence.occupancyUnknown +
      bit 4 s.cadence.pendingCall + bit 8 s.cadence.minPush.isSome),
    BitVec.ofNat 8 (operationCode s.cadence.operation),
    BitVec.ofNat 8 (loadedSlotCode s.cadence.operation),
    BitVec.ofNat 8 s.cadence.coldWait.code,
    BitVec.ofNat 8 s.cadence.purgeStep,
    BitVec.ofNat 8 s.tracker.train.length,
    BitVec.ofNat 8 (exitCode s.cadence.exitVerdict),
    BitVec.ofNat 8 s.cadence.readiness.code,
    BitVec.ofNat 8 (bit 1 s.pins.pressCall + bit 2 s.pins.pressStop + bit 4 s.pins.pressReady +
      bit 8 s.pins.convReady) ]

/-! ### The choice of the next operation (R91) and the load decision (R94) -/

/-- The choice of R91 starts nothing: an operation is in flight, the exit holds a billet that is neither reject
nor called, or the exit is empty and the push waits for a timer that runs. -/
abbrev ChoiceIdle (c : Cadence) : Prop :=
  c.line ≠ .run ∨ c.operation.isSome = true ∨
  (∃ v, c.exitVerdict = some v ∧ v.isReject = false ∧ (v = .good → c.pendingCall = false)) ∨
  (c.exitVerdict = none ∧
    (c.minPush.isSome = true ∨ (c.readiness = .notReady ∧ ∃ timer, c.coldWait = .running timer)))

/-- The choice of R91 starts a PUSH (Table 4-2, case 3). -/
abbrev ChoicePushes (c : Cadence) : Prop :=
  c.line = .run ∧ c.operation = none ∧ c.exitVerdict = none ∧ c.minPush = none ∧
  (c.readiness = .empty ∨ c.readiness = .ready ∨ c.coldWait = .expired)

/-- The state in which a handling operation has started (R89, R95). -/
def operationStarted (s : State) (o : Operation) : State :=
  { s with
    cadence := { s.cadence with
      operation := some o
      handlingTimer := some ⟨s.tracker.clock, s.settings.handlingTimeout⟩ }
    pins := { s.pins with
      push := s.pins.push || (o ≠ .extract ∧ o ≠ .divert)
      skip := s.pins.skip || o = .push none
      extract := s.pins.extract || o = .extract
      divert := s.pins.divert || o = .divert } }

/-- The slot `k` places on from a slot, going round the circle (R120). -/
def slotOn (i : Fin 64) (k : Nat) : Fin 64 := ⟨(i.val + k) % 64, Nat.mod_lt _ (by decide)⟩

/-- What batching holds: the batch counter, the delay timer, and whether ORDER_DONE has been raised (R135). -/
structure Batching where
  count  : Nat
  timer  : Option RunningTimer
  raised : Bool
deriving DecidableEq, Repr

/-- One retirement taken into batching (R135). -/
def batchedOne (s : State) (b : Batching) (o : BilletOrder) : Batching :=
  let count := if o.report then min (b.count + 1) 65535 else b.count
  let timer := if o.delay then some ⟨s.tracker.clock, s.settings.batchDelay⟩ else b.timer
  if (o.report = true ∧ o.delay = false ∧ s.settings.batchThreshold = 0) ∨
      (0 < s.settings.batchThreshold ∧ s.settings.batchThreshold ≤ count) then
    ⟨0, none, true⟩
  else ⟨count, timer, b.raised⟩

/-- The retirements of some orders, in their order, taken into batching. -/
def batchedAll (s : State) (orders : List BilletOrder) : Batching :=
  orders.foldl (batchedOne s) ⟨s.ring.batch, s.ring.batchTimer, false⟩

/-- The order of a slot that a push start skips: QUEUED and marked NO_RECIPE (R129). -/
def Slot.toSkip : Slot → Option BilletOrder
  | .queued o => if o.resolution = .noRecipe then some o else none
  | .free | .loading _ | .inLine _ | .done _ _ => none

/-- The orders a load decision skips, oldest first: those marked NO_RECIPE from the load pointer on (R129). -/
def skippedOrders (s : State) : List BilletOrder :=
  (((List.range (min s.ring.queued 64)).map (fun k =>
    s.ring.slots[slotOn s.ring.load k].toSkip)).takeWhile Option.isSome).reduceOption

/-- The ring's slots after the skips of a push start: the first `k` from the load pointer on are DONE with verdict
NO_RECIPE and an empty status record (R129, R132, R133). -/
def slotsSkipped (r : Ring) (k : Nat) : Vector Slot 64 :=
  r.slots.mapIdx (fun i x =>
    if (i + 64 - r.load.val) % 64 < k then
      match x.toSkip with
      | some o => .done o ⟨.noRecipe, none, 0, 0, 0, 0⟩
      | none => x
    else x)

/-- The slot a push start loads once `k` orders have been skipped: the head's, if an order is left QUEUED and its
recipe is VALID, LEARNED or a window's (R129). -/
def headLoaded (s : State) (k : Nat) : Option (Fin 64) :=
  if s.ring.queued ≤ k then none
  else match (slotsSkipped s.ring k)[slotOn s.ring.load k] with
    | .queued o => if s.recipes.loadable o.resolution then some (slotOn s.ring.load k) else none
    | .free | .loading _ | .inLine _ | .done _ _ => none

/-- A slot that a push loads is LOADING (R129). -/
def slotLoading : Slot → Slot
  | .queued o => .loading o
  | x => x

/-- The state after the skips and the head of a load decision with `k` orders to skip (R94, R129, R132, R135,
R138): one skip pulse, one DONE slot and one count of event 7 each, the load pointer moved on, ORDER_DONE
and RING_LOW raised where batching and the mark say so. -/
def loadDecided (s : State) (skipped : List BilletOrder) (loaded : Option (Fin 64)) : State :=
  let k := skipped.length
  let gone := k + (if loaded.isSome then 1 else 0)
  let b := batchedAll s skipped
  let s1 := { s with
    ring := { s.ring with
      slots := match loaded with
        | some i => (slotsSkipped s.ring k).set i (slotLoading (slotsSkipped s.ring k)[i])
        | none => slotsSkipped s.ring k
      load := slotOn s.ring.load gone
      queued := s.ring.queued - gone
      batch := b.count
      batchTimer := b.timer }
    counters := s.counters.mapIdx (fun _ c =>
      if c.selection = 7 then { c with count := c.count + BitVec.ofNat 32 k } else c)
    wires := { s.wires with skipPulses := s.wires.skipPulses + k } }
  let s2 := if b.raised then sourcesRaised s1 0b10#11 else s1
  if s.settings.ringLowMark < s.ring.queued ∧ s.ring.queued - gone ≤ s.settings.ringLowMark then
    sourcesRaised s2 0b100#11
  else s2

/-- The state in which a PUSH has started in RUN (R94, R95, R96): a gap, and nothing of the ring touched, with the
no-load flag set; else the load decision. The cold wait is stopped. -/
def pushStarted (s : State) : State :=
  let skipped := skippedOrders s
  let loaded := headLoaded s skipped.length
  let s1 := if s.cadence.noLoad = true then s else loadDecided s skipped loaded
  operationStarted
    { s1 with
      cadence := { s1.cadence with coldWait := .stopped }
      pins := { s1.pins with pressReady := false } }
    (.push (if s.cadence.noLoad = true then none else loaded))

/-! ### The arbiter (chapter 3) -/

/-- The values of a SET ZONE lie in the ranges of Table 3-1, and no undefined bit or mode is set. -/
abbrev ZoneValuesOk (mode blockSize setpoint budget : Nat) (options : BitVec 8) : Prop :=
  mode ≤ 2 ∧ blockSize ≤ 16 ∧ 1 ≤ setpoint ∧ setpoint ≤ 4000 ∧ 1 ≤ budget ∧ budget ≤ 65535 ∧
  options.toNat < 8

/-- A mode's number (Table 10-5). -/
def modeOfCode (mode : Nat) : ZoneMode := if mode = 0 then .step else if mode = 1 then .block else .burst

/-- The channel a zone number 1..6 names (R45). -/
abbrev Names (zone : Nat) (z : Fin 6) : Prop := zone = z.val + 1

/-- What SET ZONE leaves (R45, R38): the settings of the one zone, its budget kept within bounds, its demand
evaluated with the new setpoint. -/
abbrev SetZoneLeaves (z : Fin 6) (mode blockSize setpoint budget : Nat) (options : BitVec 8)
    (s t : State) : Prop :=
  t.arbiter.zones[z].settings = ⟨modeOfCode mode, blockSize, setpoint, budget, options.getLsbD 0,
    options.getLsbD 1, options.getLsbD 2⟩ ∧
  t.arbiter.zones[z].remaining = min s.arbiter.zones[z].remaining budget ∧
  t.tracker = { s.tracker with demand := s.tracker.demand.set z (t.demandNow z) } ∧
  (∀ y : Fin 6, y ≠ z → t.arbiter.zones[y].settings = s.arbiter.zones[y].settings ∧
    t.arbiter.zones[y].remaining = s.arbiter.zones[y].remaining ∧
    t.arbiter.zones[y].stopCode = s.arbiter.zones[y].stopCode ∧
    t.arbiter.zones[y].request = s.arbiter.zones[y].request) ∧
  SliceKept s t ∧ NoGrantDue t ∧ t.reply = some ⟨.ok, []⟩ ∧
  t = { s with arbiter := t.arbiter, tracker := t.tracker, wires := t.wires, reply := t.reply }

/-- The converter is free, on and not paused (R56). -/
abbrev ConverterOpen (s : State) : Prop :=
  s.arbiter.slice = none ∧ s.arbiter.enable = true ∧ s.arbiter.pause = false

/-- The state with one channel replaced. -/
def channelSet (s : State) (z : Fin 6) (c : Zone) : State :=
  { s with arbiter := { s.arbiter with zones := s.arbiter.zones.set z c } }

/-- The state with a slice ordered for a zone whose channel was `c` before the order (R58, R57, R59). -/
def sliceOrdered (s : State) (z : Fin 6) (c : Zone) (forced : Bool) (blockCount : Nat) : State :=
  let eset := min c.settings.setpoint s.settings.supplyCeiling
  { s with
    arbiter := { s.arbiter with
      zones := s.arbiter.zones.set z { c with state := .delivering, blockCount := blockCount }
      sequence := s.arbiter.sequence + 1
      slice := some ⟨s.arbiter.sequence + 1, z, eset, forced⟩
      sliceTimer := some ⟨s.tracker.clock, s.settings.sliceTimeout⟩
      favour :=
        if s.settings.pairAlternation = 1 ∧ z = 5 then .zone5
        else if s.settings.pairAlternation = 1 ∧ z = 4 then .zone6
        else s.arbiter.favour }
    wires := { s.wires with
      convTx := s.wires.convTx ++ [.sliceOrder (s.arbiter.sequence + 1) (z.val + 1) eset] } }

/-- The grant to a zone whose channel is `c` and that no other eligible zone waits behind (R58). -/
def grantedTo (s : State) (z : Fin 6) (c : Zone) : State :=
  if c.forced = false then sliceOrdered s z c false 1
  else if s.guardQuery z = false then sliceOrdered s z { c with forced := false } true 1
  else if c.request = true then sliceOrdered s z { c with forced := false } false 1
  else channelSet s z { c with forced := false, state := .idle }

/-- The state after a request that leaves a zone's channel as `c`, where no grant was due before it: the zone is
granted if it is now eligible and the converter is open (R56). -/
def channelLeft (s : State) (z : Fin 6) (c : Zone) : State :=
  if ConverterOpen s ∧ c.state = .waiting ∧ c.paused = false then grantedTo s z c else channelSet s z c

/-- A zone's rank at a grant: 6 above 5 above 4 and so on, with the pair's order turned by the pair-favour flag
while PAIR_ALTERNATION is 1 (R56, R57). -/
def rankOf (s : State) (z : Fin 6) : Nat :=
  if s.settings.pairAlternation = 1 ∧ s.arbiter.favour = .zone5 then
    if z = 5 then 4 else if z = 4 then 5 else z.val
  else z.val

/-- A zone is the eligible zone of highest rank (R56). -/
abbrev FirstEligible (s : State) (z : Fin 6) : Prop :=
  (s.arbiter.zones[z].state = .waiting ∧ s.arbiter.zones[z].paused = false) ∧
  ∀ y : Fin 6, rankOf s z < rankOf s y →
    ¬ (s.arbiter.zones[y].state = .waiting ∧ s.arbiter.zones[y].paused = false)

/-- ENABLE ZONE is accepted (R53). -/
abbrev EnableTaken (z : Fin 6) (s : State) : Prop :=
  (s.arbiter.zones[z].state = .off ∨ s.arbiter.zones[z].state = .halted) ∧ s.arbiter.enable = true ∧
  s.pins.guards[z] = false

/-- The channel of a zone that ENABLE ZONE takes out of OFF or HALTED (R53, R48). -/
def enabledChannel (c : Zone) : Zone :=
  { c with
    state := if c.request then .waiting else .idle
    paused := false
    forced := false
    pendingEnd := .none
    blockCount := 0
    stopCode := .none
    remaining := c.settings.budget }

/-- The channel of a zone that DISABLE ZONE or POWER OFF stops (R51, R54). -/
def disabledChannel (c : Zone) : Zone :=
  match c.state with
  | .off => c
  | .delivering => { c with pendingEnd := if c.pendingEnd = .halt then .halt else .disable }
  | .idle | .waiting | .spent | .halted =>
      { c with
        state := .off, stopCode := .disabled, paused := false, forced := false, pendingEnd := .none
        blockCount := 0 }

/-- The channel after CONTINUE ZONE, before any grant (R55, Table 3-3). -/
def continuedChannel (c : Zone) : Zone :=
  if c.paused = true then
    { c with paused := false, stopCode := if c.stopCode = .paused then .none else c.stopCode }
  else c

/-- The channel after DOSE ZONE, before any grant (R69, R48). -/
def dosedChannel (c : Zone) : Zone :=
  { c with forced := true, state := if c.state = .idle then .waiting else c.state }

/-- The channel of a zone that halts (R68). -/
def haltedChannel (c : Zone) : Zone :=
  { c with
    state := .halted, stopCode := .guardHalt, paused := false, forced := false, pendingEnd := .none
    blockCount := 0 }

/-- The channel of a zone that is turned OFF with a stop code (R51, R62, R66). -/
def offChannel (code : StopCode) (c : Zone) : Zone :=
  { c with
    state := .off, stopCode := code, paused := false, forced := false, pendingEnd := .none
    blockCount := 0 }

/-- The channel of a zone that is spent (R66). -/
def spentChannel (c : Zone) : Zone :=
  if c.settings.reload = true then { c with state := .spent, stopCode := .budgetSpent, blockCount := 0 }
  else offChannel .budgetSpent c

/-- The channel of a zone whose grant ends (R62). -/
def endedChannel (c : Zone) : Zone :=
  { c with state := if c.request ∨ c.forced then .waiting else .idle, blockCount := 0 }

/-! ### Orders (chapter 6) -/

/-- The values of a POST ORDER pass the first check of R124 (R197). -/
abbrev OrderValuesOk (flags : BitVec 8) (entryTemp exitOverride : Nat) : Prop :=
  flags.toNat < 16 ∧ (flags.getLsbD 2 = true → entryTemp ≤ 16000) ∧
  (flags.getLsbD 3 = true → 3200 ≤ exitOverride ∧ exitOverride ≤ 24000)

/-- The order a POST ORDER posts (Table 6-2). -/
def postedOrder (billetId : BitVec 32) (key : Key) (flags : BitVec 8) (entryTemp exitOverride : Nat)
    (ref : RecipeRef) : BilletOrder :=
  { billetId := billetId
    key := key
    entryTemp := if flags.getLsbD 2 then some entryTemp else none
    exitOverride := if flags.getLsbD 3 then some exitOverride else none
    report := flags.getLsbD 0
    delay := flags.getLsbD 1
    resolution := .recipe ref }

/-- The ring after an order has been posted (R124). -/
def ringPosted (r : Ring) (order : BilletOrder) : Ring :=
  { r with
    slots := r.slots.set r.tail (.queued order)
    load := if r.queued = 0 then r.tail else r.load
    tail := r.tail + 1
    occupied := r.occupied + 1
    queued := r.queued + 1 }

/-- A window resolves a key: enabled, and agreeing with it at every bit where the mask holds a 0 (R145, R146). -/
abbrev WindowMatches (w : Window) (key : Key) : Prop :=
  w.enabled = true ∧ ∀ b : Fin 16, w.mask.getLsbD b = false → key.value.getLsbD b = w.base.getLsbD b

/-- What a posted key resolves to without an allocation, and the lookup outcome's number (R146): window 0, then
window 1, then the entry that holds the key. -/
abbrev Resolves (s : State) (key : Key) : RecipeRef → Nat → Prop
  | .window w, outcome => outcome = 0 ∧ WindowMatches s.recipes.windows[w] key ∧
      (w = 1 → ¬ WindowMatches s.recipes.windows[(0 : Fin 2)] key)
  | .entry i, outcome => outcome = 1 ∧ (∀ w : Fin 2, ¬ WindowMatches s.recipes.windows[w] key) ∧
      s.recipes.keySearch key = some i

/-- The recipe table with one order more resolved to an entry or window (R150). -/
def useRaised (t : RecipeTable) : RecipeRef → RecipeTable
  | .entry i =>
      { t with entries := t.entries.set i (t.entries[i].map (fun e => { e with useCount := e.useCount + 1 })) }
  | .window w =>
      { t with windows := t.windows.set w { t.windows[w] with useCount := t.windows[w].useCount + 1 } }

/-- What WITHDRAW leaves with `k` orders freed (R126, R138). -/
abbrev WithdrawLeaves (k : Nat) (s t : State) : Prop :=
  t.ring.reclaim = s.ring.reclaim ∧ t.ring.load = s.ring.load ∧
  t.ring.tail.val = (s.ring.tail.val + 64 - k) % 64 ∧
  t.ring.occupied = s.ring.occupied - k ∧ t.ring.queued = s.ring.queued - k ∧
  t.ring.batch = s.ring.batch ∧ t.ring.batchTimer = s.ring.batchTimer ∧
  (∀ i : Fin 64, t.ring.slots[i] =
    if s.ring.occupied - k ≤ s.ring.ahead i then .free else s.ring.slots[i]) ∧
  (∀ ref : RecipeRef, t.recipes.useOf ref = s.recipes.useOf ref -
    (List.finRange 64).countP (fun i => decide (s.ring.occupied - k ≤ s.ring.ahead i) &&
      s.ring.slots[i].refersTo ref)) ∧
  (∀ i : Fin 32, t.recipes.entries[i] =
    s.recipes.entries[i].map (fun e => { e with useCount := t.recipes.useOf (.entry i) })) ∧
  (∀ w : Fin 2, t.recipes.windows[w] =
    { s.recipes.windows[w] with useCount := t.recipes.useOf (.window w) }) ∧
  t.attention.pending = s.attention.pending |||
    (if s.settings.ringLowMark < s.ring.queued ∧ s.ring.queued - k ≤ s.settings.ringLowMark
      then 0b100#11 else 0#11) ∧
  t.attention.enabled = s.attention.enabled ∧
  t.reply = some ⟨.ok, [BitVec.ofNat 8 k]⟩ ∧
  t.recipes.wants = s.recipes.wants ∧ t.recipes.writebacks = s.recipes.writebacks ∧
  t.recipes.replacement = s.recipes.replacement ∧
  t = { s with
    ring := t.ring, recipes := t.recipes, attention := t.attention, reply := t.reply
    pins := { s.pins with alert := t.pins.alert } }

/-- A slot is DONE. -/
def Slot.isDone : Slot → Bool
  | .done _ _ => true
  | .free | .queued _ | .loading _ | .inLine _ => false

/-- The state with the `k` oldest slots freed, as RECLAIM leaves it (R128). -/
def reclaimed (k : Nat) (s : State) : State :=
  { s with
    ring := { s.ring with
      slots := s.ring.slots.mapIdx (fun i x =>
        if (i + 64 - s.ring.reclaim.val) % 64 < k then .free else x)
      reclaim := slotOn s.ring.reclaim k
      occupied := s.ring.occupied - k }
    reply := some ⟨.ok, [BitVec.ofNat 8 k]⟩ }

/-- `k` is the number of slots RECLAIM of `n` frees: the DONE slots from the reclaim pointer on, up to n and to
the occupied count (R128). -/
abbrev ReclaimCount (n k : Nat) (s : State) : Prop :=
  k ≤ n ∧ k ≤ s.ring.occupied ∧
  (∀ j : Fin 64, j.val < k → s.ring.slots[slotOn s.ring.reclaim j.val].isDone = true) ∧
  (k = n ∨ k = s.ring.occupied ∨ s.ring.slots[slotOn s.ring.reclaim k].isDone = false)

/-! ### Recipes (chapters 7 and 8) -/

/-- The values of a recipe body lie in the ranges of Table 7-2. -/
abbrev BodyValuesOk (body : Body) : Prop :=
  1 ≤ body.gain ∧ body.gain ≤ 65535 ∧ body.surface ≤ 255 ∧ body.loss ≤ 65535 ∧ body.equal ≤ 65535 ∧
  3200 ≤ body.tExit ∧ body.tExit ≤ 24000 ∧ 16 ≤ body.width ∧ body.width ≤ 1600 ∧
  body.tExit + body.width ≤ body.slim ∧ body.slim ≤ 25600 ∧ body.tHold ≤ body.tExit ∧
  1 ≤ body.maxHold ∧ body.maxHold ≤ 7200

/-- The values of a LOAD RECIPE pass check 1 of R156. -/
abbrev RecipeValuesOk (body : Body) (trim : Int) (policy : Nat) : Prop :=
  BodyValuesOk body ∧ -2048 ≤ trim ∧ trim ≤ 2047 ∧ policy ≤ 1

/-- The policy a number names (Table 10-5). -/
def policyOfCode (policy : Nat) : Policy := if policy = 0 then .writeThrough else .writeBack

/-- What follows every accepted LOAD RECIPE, whatever its case: demand and readiness evaluated on the new recipe
(R37, R25), with the billets, the line and the slice in flight as they were (R38). -/
abbrev LoadFollows (s t : State) : Prop :=
  TrainIs t s.tracker.train ∧ t.tracker.line = s.tracker.line ∧ t.cadence.line = s.cadence.line ∧
  ReadinessKnown t ∧ DemandEvaluated t ∧ NoGrantDue t ∧ SameOutside s t ∧ SliceKept s t ∧
  (s.cadence.operation.isSome = true → t.cadence.operation = s.cadence.operation ∧ t.ring = s.ring)

/-- The recipe table after LOAD RECIPE of a present key (R157, R147). -/
def tableFilled (r : RecipeTable) (i : Fin 32) (e : Entry) (body : Body) (trim : Int) (policy : Nat) :
    RecipeTable :=
  { r with
    entries := r.entries.set i (some
      { key := e.key, state := .valid, body := body, policy := policyOfCode policy, trim := trim,
        learned := 0, pinned := e.pinned, useCount := e.useCount })
    replacement := r.replacement + 1
    wants := if e.state = .pending then r.wants.filter (fun w => w.entry ≠ i) else r.wants }

/-- The write-back list after a hand-over (R173). -/
def listAfter (list : List WritebackRecord) (x : WritebackRecord) : List WritebackRecord :=
  if x.key ∈ list.map WritebackRecord.key then
    list.map (fun r => if r.key = x.key then x else r)
  else list ++ [x]

/-- The write-back list has room for a record of a key (R149, R170). -/
abbrev ListHasRoom (list : List WritebackRecord) (key : Key) : Prop :=
  list.length < 8 ∨ key ∈ list.map WritebackRecord.key

/-- The state in which a hand-over of a record leaves the list, the attention sets and the counters (R173). -/
def handedOver (s : State) (x : WritebackRecord) : State :=
  eventCounted (sourcesRaised
    { s with recipes := { s.recipes with writebacks := listAfter s.recipes.writebacks x } } 0b100000#11) 15

/-- The state after the eviction of whatever an entry holds: a LEARNED one hands its record over (R149). -/
def evicted (s : State) (i : Fin 32) : State :=
  match s.recipes.entries[i] with
  | some e => if e.state = .learned then handedOver s ⟨e.key, e.trim, e.learned, .evicted⟩ else s
  | none => s

/-- The recipe table after LOAD RECIPE of an absent key into a way, whose occupant has been evicted (R158, R147). -/
def tableLoaded (r : RecipeTable) (i : Fin 32) (key : Key) (body : Body) (trim : Int) (policy : Nat) :
    RecipeTable :=
  { r with
    entries := r.entries.set i (some
      { key := key, state := .valid, body := body, policy := policyOfCode policy, trim := trim,
        learned := 0, pinned := false, useCount := 0 })
    replacement := r.replacement + 1 }

/-- The recipe table after an allocation for a posted key in a way, whose occupant has been evicted (R148, R147). -/
def tableAllocated (s : State) (r : RecipeTable) (i : Fin 32) (key : Key) : RecipeTable :=
  { r with
    entries := r.entries.set i (some
      { key := key, state := .pending, body := ⟨0, 0, 0, 0, 0, 0, 0, 0, 0⟩, policy := .writeThrough,
        trim := 0, learned := 0, pinned := false, useCount := 1 })
    replacement := r.replacement + 1
    wants := r.wants ++ [⟨key, i, s.tracker.clock, s.settings.fetchTimeout⟩] }

/-- An entry is found under a key (R142). -/
abbrev Found (s : State) (key : Key) (i : Fin 32) (e : Entry) : Prop :=
  s.recipes.keySearch key = some i ∧ s.recipes.entries[i] = some e

/-- The state with one table entry replaced. -/
def entrySet (s : State) (i : Fin 32) (e : Option Entry) : State :=
  { s with recipes := { s.recipes with entries := s.recipes.entries.set i e } }

/-- An entry that FLUSH UNPINNED flushes, if the list has room for it (R161). -/
abbrev Flushable (e : Entry) : Prop := e.state ≠ .pending ∧ e.pinned = false ∧ e.useCount = 0

/-- An entry that an index held has gone. -/
abbrev EntryGone (s t : State) (i : Fin 32) : Prop :=
  s.recipes.entries[i].isSome = true ∧ t.recipes.entries[i] = none

/-- The records FLUSH UNPINNED hands over: those of the LEARNED entries gone, in increasing index (R161). -/
def sweptRecords (s t : State) : List WritebackRecord :=
  (List.finRange 32).filterMap (fun i =>
    if t.recipes.entries[i].isNone then
      match s.recipes.entries[i] with
      | some e => if e.state = .learned then some ⟨e.key, e.trim, e.learned, .flushed⟩ else none
      | none => none
    else none)

/-- What FLUSH UNPINNED leaves (R161, R173): every flushable entry gone but LEARNED ones that met a full list,
every other entry as it was; the records of the LEARNED entries gone handed over one after another, WRITEBACK
raised and event 15 counted for each; and the reply with the two counts. -/
abbrev SweepLeaves (s t : State) : Prop :=
  (∀ i : Fin 32, t.recipes.entries[i] = s.recipes.entries[i] ∨ EntryGone s t i) ∧
  (∀ i : Fin 32, ∀ e, s.recipes.entries[i] = some e →
    (¬ Flushable e → t.recipes.entries[i] = some e) ∧
    (Flushable e → e.state = .valid → t.recipes.entries[i] = none) ∧
    (Flushable e → t.recipes.entries[i] = some e → 8 ≤ t.recipes.writebacks.length) ∧
    (e.state = .learned → t.recipes.entries[i] = none → KeysInSets s →
      ⟨e.key, e.trim, e.learned, .flushed⟩ ∈ t.recipes.writebacks)) ∧
  t.recipes.writebacks = (sweptRecords s t).foldl listAfter s.recipes.writebacks ∧
  t.attention = ⟨s.attention.pending ||| (if sweptRecords s t = [] then 0#11 else 0b100000#11),
    s.attention.enabled⟩ ∧
  t.counters = s.counters.mapIdx (fun _ c =>
    if c.selection = 15 then { c with count := c.count + BitVec.ofNat 32 (sweptRecords s t).length } else c) ∧
  t.recipes = { s.recipes with entries := t.recipes.entries, writebacks := t.recipes.writebacks } ∧
  t.reply = some ⟨.ok,
    [ BitVec.ofNat 8 ((List.finRange 32).countP (fun i =>
        s.recipes.entries[i].isSome && t.recipes.entries[i].isNone)),
      BitVec.ofNat 8 ((List.finRange 32).countP (fun i =>
        t.recipes.entries[i].any (fun e => decide (Flushable e)))) ]⟩ ∧
  t = { s with
    recipes := t.recipes, attention := t.attention, counters := t.counters, reply := t.reply
    pins := { s.pins with alert := t.pins.alert } }

/-- The entry after a learning step with residual `r` and half-width `w`, before any hand-over (R167). -/
def learnedEntry (r : Int) (w : Nat) (e : Entry) : Entry :=
  let band : Int := (w / 2 : Nat)
  let moved := if r > band then e.trim + 8 else if r < -band then e.trim - 8 else e.trim
  { e with
    learned := min (e.learned + 1) 65535
    trim := if moved > 2047 then 2047 else if moved < -2048 then -2048 else moved }

/-- What a learning step leaves at its entry, the write-back list and the demand flags (R167 to R170). -/
abbrev LearningLeaves (i : Fin 32) (e x : Entry) (s t : State) : Prop :=
  (x.trim = e.trim → t.recipes = (entrySet s i (some x)).recipes ∧ t.tracker.demand = s.tracker.demand) ∧
  (x.trim ≠ e.trim → e.policy = .writeBack →
    t.recipes = (entrySet s i (some { x with state := .learned })).recipes ∧ DemandEvaluated t) ∧
  (x.trim ≠ e.trim → e.policy = .writeThrough → ListHasRoom s.recipes.writebacks e.key →
    t.recipes = { (entrySet s i (some { x with state := .valid })).recipes with
      writebacks := listAfter s.recipes.writebacks ⟨e.key, x.trim, x.learned, .through⟩ } ∧
    t.isPending .writeback = true ∧ DemandEvaluated t) ∧
  (x.trim ≠ e.trim → e.policy = .writeThrough → ¬ ListHasRoom s.recipes.writebacks e.key →
    t.recipes = (entrySet s i (some { x with state := .learned })).recipes ∧ DemandEvaluated t)

/-! ### Settings and resets (chapter 11) -/

/-- A value lies in the range of its setting id (Table 11-1). -/
abbrev SettingValueOk (id value : Nat) : Prop := settingInRange id value = true

/-- What a change of the settings that re-evaluates demand leaves (R204, R37): the settings given, the demand of
every zone evaluated under them, the trains and the slice in flight as they were. -/
abbrev SettingsLeave (settings : Settings) (s t : State) : Prop :=
  t.settings = settings ∧ DemandEvaluated t ∧ NoGrantDue t ∧ SliceKept s t ∧ t.reply = some ⟨.ok, []⟩ ∧
  t.tracker = { s.tracker with demand := t.tracker.demand } ∧
  (∀ z : Fin 6, t.arbiter.zones[z].settings = s.arbiter.zones[z].settings ∧
    t.arbiter.zones[z].remaining = s.arbiter.zones[z].remaining ∧
    t.arbiter.zones[z].stopCode = s.arbiter.zones[z].stopCode) ∧
  t = { s with
    settings := t.settings, arbiter := t.arbiter, tracker := t.tracker, wires := t.wires, reply := t.reply }

/-- A zone channel after a RESTART (R73). -/
def restartedChannel (c : Zone) : Zone :=
  { c with
    state := .off, stopCode := .none, request := false, paused := false, forced := false
    pendingEnd := .none, blockCount := 0 }

/-- The cadence unit after a reset, PRESS_STOP being at a level (R103, R78). -/
def cadenceReset (pressStop : Bool) (holdDelay : Nat) (clock : Clock) : Cadence :=
  { line := .stopped, manual := false, pressStop := pressStop && holdDelay == 0, supply := false
    holdDelay := if pressStop && holdDelay != 0 then some ⟨clock, holdDelay * 1000⟩ else none
    noLoad := false, occupancyUnknown := true, pendingCall := false, operation := none
    handlingTimer := none, minPush := none, coldWait := .stopped, purgeStep := 0, exitVerdict := none
    readiness := .empty }

/-- The port after a reset (R202). -/
def portReset (address : BitVec 5) : Port :=
  { inbound := none, replyFrame := none, discard := false, receiver := .hunting, station := address
    restartDue := false }

/-- The pins with the outputs a reset negates low (R103, R202), ALERT at a level. -/
def pinsReset (p : Pins) (alert : Bool) : Pins :=
  { p with
    push := false, extract := false, divert := false, skip := false, pressReady := false, linkDe := false
    alert := alert }

/-- The status record of an order whose billet a RESTART loses (R28, R133). -/
def restartStatus (now : Clock) (r : BilletRecord) : StatusRecord :=
  { verdict := .restartLost, reading := r.reading, energy := r.energy
    inLine := (now - r.enteredAt).toNat / 1000, holdTime := r.holdTime / 1000, finalTm := r.tm }

/-- A slot whose order a RESTART retires: LOADING, or IN_LINE with its record in the train (R28, R141). -/
def lostSlot (s : State) (i : Fin 64) : Bool :=
  s.ring.slots[i].isLoading || (s.ring.slots[i].isInLine && s.tracker.train.any (fun r => r.slot == i))

/-- A QUEUED order after a RESTART: one that waits for a PENDING entry is marked NO_RECIPE (R130, R166). -/
def queuedAfterRestart (s : State) (o : BilletOrder) : BilletOrder :=
  match o.resolution with
  | .recipe (.entry i) =>
      if entryPending s.recipes.entries[i] = true then { o with resolution := .noRecipe } else o
  | .recipe (.window _) | .noRecipe => o

/-- The use count of an entry or window after a RESTART: one lower for each order retired (R166). -/
def useAfterRestart (s : State) (ref : RecipeRef) : Nat :=
  s.recipes.useOf ref -
    (List.finRange 64).countP (fun i => lostSlot s i && s.ring.slots[i].refersTo ref)

/-- What a RESTART leaves of the ring's slots (R141, R130): LOADING orders retired with the zero values, IN_LINE
ones with their records' values, QUEUED ones in their slots, DONE and FREE slots as they were. -/
abbrev SlotsAfterRestart (s t : State) : Prop :=
  ∀ i : Fin 64,
    (∀ o, s.ring.slots[i] = .loading o → (∀ r ∈ s.tracker.train, r.slot ≠ i) →
      t.ring.slots[i] = .done o ⟨.restartLost, none, 0, 0, 0, 0⟩) ∧
    (∀ o, s.ring.slots[i] = .inLine o → (∃ r ∈ s.tracker.train, r.slot = i) →
      ∃ r ∈ s.tracker.train, r.slot = i ∧
        t.ring.slots[i] = .done o (restartStatus s.tracker.clock r)) ∧
    (∀ o, s.ring.slots[i] = .queued o → (∀ r ∈ s.tracker.train, r.slot ≠ i) →
      t.ring.slots[i] = .queued (queuedAfterRestart s o)) ∧
    (∀ o status, s.ring.slots[i] = .done o status → t.ring.slots[i] = .done o status) ∧
    (s.ring.slots[i] = .free → t.ring.slots[i] = .free)

/-- What a RESTART leaves of the recipe table (R166): PENDING and INVALID entries INVALID, the others and the
windows with all their fields, their use counts one lower for each order retired. -/
abbrev TableAfterRestart (s t : State) : Prop :=
  (∀ i : Fin 32, t.recipes.entries[i] =
    if entryPending s.recipes.entries[i] = true then none
    else s.recipes.entries[i].map (fun e => { e with useCount := useAfterRestart s (.entry i) })) ∧
  (∀ w : Fin 2, t.recipes.windows[w] =
    { s.recipes.windows[w] with useCount := useAfterRestart s (.window w) }) ∧
  t.recipes.wants = [] ∧ t.recipes.writebacks = s.recipes.writebacks ∧
  t.recipes.replacement = s.recipes.replacement

/-- What a RESTART leaves when it takes effect (R207, Table 11-3): each block at its restart state. -/
abbrev RestartLeaves (s t : State) : Prop :=
  t.tracker = { train := [], surveyTimer := none, readingTimer := none, clock := s.tracker.clock
                line := .stopped, demand := Vector.replicate 6 false } ∧
  t.cadence = cadenceReset s.pins.pressStop s.settings.holdDelay s.tracker.clock ∧
  t.port = portReset s.pins.address ∧
  t.settings = { s.settings with lastReset := .restartRequest } ∧
  t.attention = ⟨1#11, s.attention.enabled⟩ ∧
  t.pins = pinsReset s.pins (s.attention.enabled.getLsbD 0) ∧
  (t.arbiter.enable, t.arbiter.pause, t.arbiter.favour, t.arbiter.slice, t.arbiter.sliceTimer) =
    (false, false, .zone6, none, none) ∧
  t.arbiter.sequence = s.arbiter.sequence ∧
  (∀ z : Fin 6, t.arbiter.zones[z] = restartedChannel s.arbiter.zones[z]) ∧
  TableAfterRestart s t ∧ SlotsAfterRestart s t ∧ t.counters = s.counters ∧
  (∀ i : Fin 32, entryPending t.recipes.entries[i] = false) ∧
  t.ring.batch = 0 ∧ t.ring.batchTimer = none ∧
  t.ring.reclaim = s.ring.reclaim ∧ t.ring.load = s.ring.load ∧ t.ring.tail = s.ring.tail ∧
  t.ring.occupied = s.ring.occupied ∧ t.ring.queued = s.ring.queued ∧
  (∀ i : Fin 64, t.ring.slots[i].isLoading = false) ∧
  t.wires.convTx = s.wires.convTx ++
    (match s.arbiter.slice with
     | some x => [.sliceCancel x.sequence]
     | none => []) ∧
  t.wires.skipPulses = s.wires.skipPulses ∧ t.wires.declinePulses = s.wires.declinePulses ∧
  t.reply = s.reply ∧ t.pending = s.pending

/-- The outstanding request is a RESTART that came as a frame and has been taken (R207). -/
abbrev RestartReplyOwed (s : State) : Prop :=
  s.port.restartDue = true ∧ ∃ f, s.port.inbound = some f ∧ decodeRequest f.kind f.payload = .request .restart

/-! ### Slices and readings (chapters 1 and 3) -/

/-- A zone's counters after a slice of credited energy `e`, of which `u` found no billet (R61, R71). -/
abbrev SliceCounted (z : Fin 6) (e u : Nat) (s t : State) : Prop :=
  t.arbiter.zones[z].slicesCompleted = s.arbiter.zones[z].slicesCompleted + 1 ∧
  t.arbiter.zones[z].energyDelivered = s.arbiter.zones[z].energyDelivered + BitVec.ofNat 32 e ∧
  t.arbiter.zones[z].energyUncredited = s.arbiter.zones[z].energyUncredited + BitVec.ofNat 32 u ∧
  t.arbiter.zones[z].remaining = s.arbiter.zones[z].remaining - 1

/-- Every other zone's counters and budget are untouched. -/
abbrev OthersUncounted (z : Fin 6) (s t : State) : Prop :=
  ∀ y : Fin 6, y ≠ z →
    t.arbiter.zones[y].slicesCompleted = s.arbiter.zones[y].slicesCompleted ∧
    t.arbiter.zones[y].energyDelivered = s.arbiter.zones[y].energyDelivered ∧
    t.arbiter.zones[y].energyUncredited = s.arbiter.zones[y].energyUncredited ∧
    t.arbiter.zones[y].remaining = s.arbiter.zones[y].remaining

/-- The uncredited part of a slice of `e` to a zone: all of it where the zone holds no billet (R13). -/
def uncreditedPart (s : State) (z : Fin 6) (e : Nat) : Nat :=
  if (s.tracker.recordAt (2 * z.val)).isSome ∨ (s.tracker.recordAt (2 * z.val + 1)).isSome then 0 else e

/-- The share of a slice of `e` to a zone that goes to a record (the table of R13), none outside the zone. -/
def shareOf (s : State) (z : Fin 6) (e : Nat) (r : BilletRecord) : Option Nat :=
  let up := (s.tracker.recordAt (2 * z.val)).isSome
  let down := (s.tracker.recordAt (2 * z.val + 1)).isSome
  if r.position = 2 * z.val + 1 then some (if up then (e + 1) / 2 else e)
  else if r.position = 2 * z.val then some (if down then e / 2 else e)
  else none

/-- A record heated by a share of `e` at the line clock (R12, R11, R7): dT from the effective gain, dS from dT
before the clamp on Tm. -/
def heated (s : State) (e : Nat) (r : BilletRecord) : BilletRecord :=
  let body := s.bodyOf r
  let gain := max 1 (min 65535 ((body.gain * (4096 + s.trimOf r).toNat + 2048) / 4096))
  let dT := (e * gain + 32768) / 65536
  let dS := (dT * body.surface + 128) / 256
  let u := s.updated r
  { u with
    tm := min (u.tm + dT) 25600
    sx := min (u.sx + dS) 4000
    energy := min (u.energy + e) 4294967295 }

/-- The train after a credit of `e` to a zone: the occupants heated by their shares, the others as they were
(R13, R12). -/
def creditedTrain (s : State) (z : Fin 6) (e : Nat) : List BilletRecord :=
  s.tracker.train.map (fun r =>
    match shareOf s z e r with
    | some share => heated s share r
    | none => r)

/-- The event of a supply loss adds the SUPPLY cause while the line runs only where it was absent, as the set of
causes decides between RUN and HOLD (R76). -/
abbrev SupplyFree (s : State) : Prop := s.cadence.line = .run → s.cadence.supply = false

/-- What the thermal model holds of a record. -/
def heatOf (r : BilletRecord) : Nat × Nat × Nat × Clock × Nat × Bool :=
  (r.tm, r.sx, r.energy, r.lastUpdate, r.holdTime, r.aged)

/-- The train after the credit of a supply loss, if a slice was in flight (R71 step 1); a line that leaves RUN
updates every record (R10). -/
def trainAfterLoss (s : State) (e : SliceRecord → Nat) : List BilletRecord :=
  let credited := match s.arbiter.slice with
    | some x => creditedTrain s x.zone (e x)
    | none => s.tracker.train
  if s.cadence.line = .run then credited.map s.updated else credited

/-- What a supply loss leaves at the arbiter, the line and the billets (R71, R79, R12, R13), `e` being the energy
R70 credits to a slice in flight. -/
abbrev SupplyLostLeaves (e : SliceRecord → Nat) (s t : State) : Prop :=
  t.arbiter.enable = false ∧ t.arbiter.slice = none ∧
  t.arbiter.pause = s.arbiter.pause ∧ t.arbiter.favour = s.arbiter.favour ∧
  (∀ z : Fin 6, t.arbiter.zones[z].state = .off ∧
    t.arbiter.zones[z].stopCode =
      (if s.arbiter.zones[z].state = .off then s.arbiter.zones[z].stopCode else .supplyLost) ∧
    t.arbiter.zones[z].settings = s.arbiter.zones[z].settings) ∧
  (∀ x, s.arbiter.slice = some x →
    SliceCounted x.zone (e x) (uncreditedPart s x.zone (e x)) s t ∧ OthersUncounted x.zone s t ∧
    t.arbiter.sliceTimer = none) ∧
  t.tracker.train.map heatOf = (trainAfterLoss s e).map heatOf ∧
  (∀ x, s.arbiter.slice = some x → Counted 11 1 s t) ∧
  t.isPending .supply = true ∧ t.cadence.supply = true ∧
  t.cadence.line = (if s.cadence.line = .run then .hold else s.cadence.line) ∧
  (s.cadence.line = .run → t.isPending .line = true ∧ t.cadence.pendingCall = false) ∧
  t.cadence.manual = s.cadence.manual ∧ t.cadence.pressStop = s.cadence.pressStop ∧
  t.cadence.operation = s.cadence.operation ∧ SameBillets s t ∧ t.ring = s.ring ∧
  t.recipes = s.recipes ∧ t.settings = s.settings ∧ t.port = s.port ∧ t.pending = s.pending

/-- The state after the credit exchange of a slice of credited energy `e`, before the zone's next state is decided
(R61, R39): the billets credited, the demand known, the zone's totals and budget moved on, the converter free. -/
def creditLeft (s : State) (x : SliceRecord) (e : Nat) : State :=
  let u := { s with tracker := { s.tracker with train := creditedTrain s x.zone e } }
  let c := s.arbiter.zones[x.zone]
  { u with
    tracker := { u.tracker with demand := s.tracker.demand.set x.zone (u.demandNow x.zone) }
    arbiter := { s.arbiter with
      zones := s.arbiter.zones.set x.zone { c with
        remaining := c.remaining - 1
        slicesCompleted := c.slicesCompleted + 1
        energyDelivered := c.energyDelivered + BitVec.ofNat 32 e
        energyUncredited := c.energyUncredited + BitVec.ofNat 32 (uncreditedPart s x.zone e)
        request := u.demandNow x.zone }
      slice := none
      sliceTimer := none } }

/-- The arbiter and its messages stand as in a state. -/
abbrev ArbiterAs (u t : State) : Prop := t.arbiter = u.arbiter ∧ t.wires.convTx = u.wires.convTx

/-- A zone's grant ends at this slice end, no stop and no spent budget coming first (R62 cases 4 to 6, R63, R64,
R65): a forced slice, a pause, STEP mode, no demand, a full block, or a burst that a higher zone waits for.
`u` is the state after the credit exchange. -/
abbrev GrantEnds (x : SliceRecord) (s u : State) : Prop :=
  let c := s.arbiter.zones[x.zone]
  x.forced = true ∨ c.paused = true ∨ s.arbiter.pause = true ∨
  u.arbiter.zones[x.zone].request = false ∨ c.settings.mode = .step ∨
  (c.settings.mode = .block ∧ c.settings.actingBlockSize ≤ c.blockCount) ∨
  (c.settings.mode = .burst ∧ ∃ y : Fin 6, rankOf s x.zone < rankOf s y ∧
    s.arbiter.zones[y].state = .waiting ∧ s.arbiter.zones[y].paused = false)

/-- The arbiter after the decision of R62 on the zone's next state, `u` being the state after the credit exchange:
the first case that applies, with the grant made anew where the converter is left free. -/
abbrev ZoneDecided (x : SliceRecord) (s u t : State) : Prop :=
  let c := s.arbiter.zones[x.zone]
  let d := u.arbiter.zones[x.zone]
  (c.pendingEnd = .halt → ArbiterAs (channelSet u x.zone (haltedChannel d)).grant t) ∧
  (c.pendingEnd = .disable → ArbiterAs (channelSet u x.zone (offChannel .disabled d)).grant t) ∧
  (c.pendingEnd = .none → c.remaining ≤ 1 → ArbiterAs (channelSet u x.zone (spentChannel d)).grant t) ∧
  (c.pendingEnd = .none → 1 < c.remaining → GrantEnds x s u →
    ArbiterAs (channelSet u x.zone (endedChannel d)).grant t) ∧
  (c.pendingEnd = .none → 1 < c.remaining → ¬ GrantEnds x s u →
    ∃ n, n ≤ 16 ∧ (c.blockCount < 16 → n = c.blockCount + 1) ∧ ArbiterAs (sliceOrdered u x.zone d false n) t)

/-- What the end of a slice leaves (R61 to R66), `e` being its credited energy: the credit and the counts, then
the first case of R62 that applies, as `ZoneDecided` says in full. -/
abbrev SliceDoneLeaves (x : SliceRecord) (e : Nat) (s t : State) : Prop :=
  TrainIs t (creditedTrain s x.zone e) ∧
  SliceCounted x.zone e (uncreditedPart s x.zone e) s t ∧ OthersUncounted x.zone s t ∧
  t.tracker.demand = s.tracker.demand.set x.zone (t.demandNow x.zone) ∧
  t.arbiter.zones[x.zone].request = t.demandNow x.zone ∧
  (x.zone = 5 → ReadinessKnown t) ∧ NoGrantDue t ∧ SameOutside s t ∧ t.recipes = s.recipes ∧
  Counted 10 1 s t ∧ Counted 12 (if s.arbiter.zones[x.zone].pendingEnd = .halt then 1 else 0) s t ∧
  ZoneDecided x s (creditLeft s x e) t ∧
  (let c := s.arbiter.zones[x.zone]
   let d := t.arbiter.zones[x.zone]
   (c.pendingEnd = .halt →
      d.state = .halted ∧ d.stopCode = .guardHalt ∧ d.paused = false ∧ d.forced = false ∧
      d.pendingEnd = .none ∧ d.blockCount = 0 ∧
      (c.settings.errorNotice = true → t.isPending .zoneError = true)) ∧
   (c.pendingEnd = .disable →
      d.state = .off ∧ d.stopCode = .disabled ∧ d.paused = false ∧ d.forced = false ∧
      d.pendingEnd = .none ∧ d.blockCount = 0) ∧
   (c.pendingEnd = .none → c.remaining ≤ 1 →
      d.state = (if c.settings.reload then .spent else .off) ∧ d.stopCode = .budgetSpent ∧
      d.blockCount = 0 ∧ (c.settings.endNotice = true → t.isPending .zoneEnd = true)) ∧
   (c.pendingEnd = .none → 1 < c.remaining → c.paused = true ∨ s.arbiter.pause = true →
      d.state = (if d.request ∨ c.forced then .waiting else .idle) ∧ d.blockCount = 0 ∧
      d.paused = c.paused) ∧
   (c.pendingEnd = .none → 1 < c.remaining → c.paused = false → s.arbiter.pause = false →
      x.forced = false → d.request = true → c.blockCount < 16 →
      (c.settings.mode = .block ∧ c.blockCount < c.settings.actingBlockSize) ∨
        (c.settings.mode = .burst ∧ ∀ y : Fin 6, rankOf s x.zone < rankOf s y →
          ¬ (s.arbiter.zones[y].state = .waiting ∧ s.arbiter.zones[y].paused = false)) →
      d.state = .delivering ∧ d.blockCount = c.blockCount + 1 ∧
      t.arbiter.slice = some ⟨s.arbiter.sequence + 1, x.zone,
        min c.settings.setpoint s.settings.supplyCeiling, false⟩))

/-- The exit record after an accepted reading (R21, R22): updated to the line clock, its mean anchored to the
reading, the first test of Table 1-2 that holds as its verdict. -/
def readRecord (s : State) (value : Nat) (r : BilletRecord) : BilletRecord :=
  let ts := min value 25600
  let u := s.updated r
  let body := s.bodyOf r
  let tm := max (ts - u.sx) s.settings.ambient
  { u with
    tm := tm
    reading := some ts
    verdict :=
      if u.aged = true then .rejectAged
      else if body.slim < ts then .rejectHot
      else if r.exitGoal + body.width < tm then .rejectHot
      else if tm + body.width < r.exitGoal then .rejectCold
      else .good }

/-- What an accepted reading leaves at the exit and the line (R21, R22, R91, R98, R100). -/
abbrev ReadingLeaves (r : BilletRecord) (value : Nat) (s t : State) : Prop :=
  let x := readRecord s value r
  TrainIs t (x :: s.tracker.train.tail) ∧ t.tracker.readingTimer = none ∧
  t.cadence.exitVerdict = some x.verdict ∧ t.cadence.line = s.cadence.line ∧ t.ring = s.ring ∧
  SameOutside s t ∧ SliceKept s t ∧
  (s.cadence.line = .run → s.cadence.operation = none →
    t.cadence.operation =
      (if x.verdict.isReject then some .divert
       else if x.verdict = .good ∧ s.cadence.pendingCall = true then some .extract
       else none)) ∧
  (s.cadence.line ≠ .run ∨ s.cadence.operation.isSome = true →
    t.cadence.operation = s.cadence.operation)

/-- A record as a survey expiry leaves it (R17, R24): updated, and re-checked if it is a GOOD exit record that
is not being extracted. -/
def surveyed (s : State) (r : BilletRecord) : BilletRecord :=
  let u := s.updated r
  if r.position = 12 ∧ r.verdict = .good ∧ r.extracting = false then
    { u with verdict :=
        if u.aged = true then .rejectAged
        else if u.tm + (s.bodyOf r).width < u.exitGoal then .rejectCold
        else .good }
  else u

/-- What a survey expiry leaves (R17, R25, R37). -/
abbrev SurveyLeaves (s t : State) : Prop :=
  TrainIs t (s.tracker.train.map (surveyed s)) ∧
  t.tracker.surveyTimer = some ⟨s.tracker.clock, s.settings.surveyPeriod⟩ ∧
  t.tracker.readingTimer = s.tracker.readingTimer ∧ t.tracker.line = s.tracker.line ∧
  ReadinessKnown t ∧ ExitKnown t ∧ DemandEvaluated t ∧ NoGrantDue t ∧ SameOutside s t ∧ SliceKept s t ∧
  t.recipes = s.recipes ∧ t.cadence.line = s.cadence.line ∧
  (s.cadence.operation.isSome = true → t.cadence.operation = s.cadence.operation ∧ t.ring = s.ring)

/-! ### Handling (chapters 4 and 5) -/

/-- A record after a push completion: updated, and moved up one position; at 12 it waits for its reading,
unless the line is in PURGING (R15, R19). -/
def pushedUp (s : State) (r : BilletRecord) : BilletRecord :=
  { s.updated r with
    position := r.position + 1
    verdict := if r.position = 11 ∧ s.tracker.line ≠ .purging then .awaiting else r.verdict }

/-- The record a push completion creates for the order it loaded (R4, R5). -/
def loadedRecord (s : State) (i : Fin 64) (o : BilletOrder) (ref : RecipeRef) : BilletRecord :=
  let body := s.recipes.bodyOf ref
  let goal := min (match o.exitOverride with | some g => g | none => body.tExit) (body.slim - body.width)
  { slot := i, billetId := o.billetId, ref := ref, position := 0
    tm := match o.entryTemp with
      | some x => min (max x s.settings.ambient) 25600
      | none => min s.settings.ambient 25600
    sx := 0, lastUpdate := s.tracker.clock, exitGoal := goal, holdGoal := min body.tHold goal
    energy := 0, enteredAt := s.tracker.clock, holdTime := 0
    aged := false, suspect := false, extracting := false, verdict := .none, reading := none }

/-- The records a push in flight brings into the column: the loaded order's, or none for a gap (R4). -/
def newRecords (s : State) (loaded : Option (Fin 64)) : List BilletRecord :=
  match loaded with
  | some i => match s.ring.slots[i] with
    | .loading o => match o.resolution with
      | .recipe ref => [loadedRecord s i o ref]
      | .noRecipe => []
    | .free | .queued _ | .inLine _ | .done _ _ => []
  | none => []

/-- A channel's remaining budget after a push completion (R67). -/
def reloadedBudget (c : Zone) : Nat :=
  match c.state with
  | .off | .halted => c.remaining
  | .idle | .waiting | .delivering | .spent => c.settings.budget

/-- The minimum-push timer loaded at a push completion (R92); with a setting of 0 it is left stopped, the model's
choice where it was running (log entry 21). -/
def minPushLoaded (s : State) : Option RunningTimer :=
  if s.settings.minPushInterval = 0 then none else some ⟨s.tracker.clock, s.settings.minPushInterval⟩

/-- What the completion of a push leaves of the column and the zones, in production and in a purge (R97, R112,
R15, R67). -/
abbrev PushDoneLeaves (loaded : Option (Fin 64)) (s t : State) : Prop :=
  TrainIs t (s.tracker.train.map (pushedUp s) ++ newRecords s loaded) ∧
  (∀ z : Fin 6, t.arbiter.zones[z].remaining = reloadedBudget s.arbiter.zones[z] ∧
    t.arbiter.zones[z].state ≠ .spent) ∧
  t.tracker.readingTimer = (if (∃ r ∈ s.tracker.train, r.position = 11) ∧ s.tracker.line ≠ .purging then
    some ⟨s.tracker.clock, s.settings.readingTimeout⟩ else s.tracker.readingTimer) ∧
  Counted 14 1 s t ∧ Counted 1 (if loaded.isSome then 1 else 0) s t ∧
  t.cadence.minPush = minPushLoaded s ∧ DemandEvaluated t ∧ NoGrantDue t ∧ ExitKnown t ∧ ReadinessKnown t ∧
  (∀ i o, loaded = some i → s.ring.slots[i] = .loading o → t.ring.slots[i] = .inLine o) ∧
  SameOutside s t ∧ SliceKept s t ∧ t.recipes = s.recipes

/-- The status record of a retired billet (Table 6-3, R133, R16). -/
def statusOf (v : OrderVerdict) (now : Clock) (r : BilletRecord) : StatusRecord :=
  { verdict := v, reading := r.reading, energy := r.energy
    inLine := (now - r.enteredAt).toNat / 1000, holdTime := r.holdTime / 1000, finalTm := r.tm }

/-- The reject verdict of a record as its order's verdict (R16, R132). -/
def rejectOf : Verdict → Option OrderVerdict
  | .rejectHot => some .rejectHot
  | .rejectCold => some .rejectCold
  | .rejectAged => some .rejectAged
  | .rejectUnmeasured => some .rejectUnmeasured
  | .none | .awaiting | .good => none

/-- The number of the event a retirement is counted under; none has number 0 (R132, Table 9-2). -/
def OrderVerdict.event : OrderVerdict → Nat
  | .delivered => 2
  | .rejectHot => 3
  | .rejectCold => 4
  | .rejectAged => 5
  | .rejectUnmeasured => 6
  | .noRecipe => 7
  | .purged | .restartLost => 0

/-- An operation is a PUSH. -/
def Operation.isPush : Operation → Bool
  | .push _ => true
  | .extract | .divert => false

/-- The orders retired when an exit record's order `o` is: it, and those that a load decision then skips, where a
push starts in RUN (R132, R91, R94). -/
def retiredWith (o : BilletOrder) (s t : State) : List BilletOrder :=
  o :: (if s.cadence.line = .run ∧ s.cadence.noLoad = false ∧ t.cadence.operation.any Operation.isPush = true
    then skippedOrders s else [])

/-- A retirement is counted under its event, and taken into batching with those that follow it in the same event
of the part (R132 steps 3 and 4, R135). -/
abbrev RetirementTaken (v : OrderVerdict) (o : BilletOrder) (s t : State) : Prop :=
  (∀ event, 2 ≤ event → event ≤ 6 → Counted event (if v.event = event then 1 else 0) s t) ∧
  Counted 7 ((retiredWith o s t).length - 1) s t ∧
  t.ring.batch = (batchedAll s (retiredWith o s t)).count ∧
  t.ring.batchTimer = (batchedAll s (retiredWith o s t)).timer ∧
  t.isPending .orderDone = (s.isPending .orderDone || (batchedAll s (retiredWith o s t)).raised)

/-- What the removal of the exit record leaves (R16, R132, R150): the record gone, its order DONE with the status
record of its values, its recipe's use count one lower. -/
abbrev ExitRetired (v : OrderVerdict) (r : BilletRecord) (o : BilletOrder) (s t : State) : Prop :=
  t.ring.slots[r.slot] = .done o (statusOf v s.tracker.clock r) ∧
  t.tracker.train.length + 1 = s.tracker.train.length ∧ t.tracker.exitRecord = none ∧
  t.cadence.exitVerdict = none ∧ t.tracker.readingTimer = none ∧
  t.ring.reclaim = s.ring.reclaim ∧ t.ring.occupied = s.ring.occupied ∧ t.ring.tail = s.ring.tail ∧
  (∀ ref, o.resolution = .recipe ref → t.recipes.useOf ref = s.recipes.useOf ref - 1) ∧ SameOutside s t ∧
  RetirementTaken v o s t

/-- The calls a handling timeout declines: the one an EXTRACT answered, and a pending one of a line in RUN
(R106, R88). -/
def declinesAtFault (s : State) : Nat :=
  (if s.cadence.operation = some .extract then 1 else 0) +
  (if s.cadence.line = .run ∧ s.cadence.pendingCall = true then 1 else 0)

/-- What a handling timeout leaves (R104 to R107, R109). -/
abbrev FaultLeaves (s t : State) : Prop :=
  t.cadence.line = .faulted ∧ t.tracker.line = .faulted ∧ t.cadence.operation = none ∧
  t.cadence.handlingTimer = none ∧ t.cadence.occupancyUnknown = true ∧
  t.cadence.purgeStep = s.cadence.purgeStep ∧ t.cadence.minPush = s.cadence.minPush ∧
  (∀ r ∈ t.tracker.train, r.suspect = true) ∧ NoDemand t ∧ t.isPending .line = true ∧
  (t.pins.push, t.pins.skip, t.pins.extract, t.pins.divert, t.pins.pressReady) =
    (false, false, false, false, false) ∧
  (s.cadence.line = .run → t.cadence.pendingCall = false ∧ t.cadence.coldWait = .stopped) ∧
  SameOutside s t ∧ SliceKept s t ∧ t.recipes = s.recipes ∧
  (∀ z : Fin 6, t.arbiter.zones[z].remaining = s.arbiter.zones[z].remaining) ∧
  (∀ loaded, s.cadence.operation = some (.push loaded) →
    t.tracker.train.map (fun r => (r.slot, r.position)) =
      (s.tracker.train.map (pushedUp s) ++ newRecords s loaded).map (fun r => (r.slot, r.position))) ∧
  (∀ loaded i o, s.cadence.operation = some (.push loaded) → loaded = some i → s.ring.slots[i] = .loading o →
    t.ring.slots[i] = .inLine o) ∧
  (∀ loaded, s.cadence.operation = some (.push loaded) → s.tracker.line ≠ .purging →
    ∀ r ∈ s.tracker.train, r.position = 11 →
      t.tracker.readingTimer = some ⟨s.tracker.clock, s.settings.readingTimeout⟩ ∧
      ∃ q ∈ t.tracker.train, q.slot = r.slot ∧ q.position = 12 ∧ q.verdict = .awaiting) ∧
  (s.cadence.operation = some .extract ∨ s.cadence.operation = some .divert →
    SameBillets s t ∧ t.ring = s.ring) ∧
  (s.cadence.operation = some .extract → ∀ q, t.tracker.exitRecord = some q → q.extracting = false) ∧
  (s.cadence.operation = some .extract → t.isPending .pressDeclined = true) ∧
  (s.cadence.operation = some .divert → ∀ r, s.tracker.exitRecord = some r → r.verdict.isReject = true →
    ∃ q, t.tracker.exitRecord = some q ∧ q.verdict = r.verdict) ∧
  t.wires.declinePulses = s.wires.declinePulses + declinesAtFault s ∧ Counted 13 (declinesAtFault s) s t

/-! ### The link (chapter 10) -/

/-- The payload length Table 10-4 gives for a kind; none for a kind that is not in it. -/
def payloadLength (kind : Byte) : Option Nat :=
  match kind.toNat with
  | 0x01 | 0x02 | 0x03 | 0x04 | 0x05 | 0x06 | 0x07 | 0x08 => some 0
  | 0x09 => some 2
  | 0x10 => some 8
  | 0x11 | 0x12 | 0x13 | 0x14 | 0x15 | 0x16 | 0x17 => some 1
  | 0x20 => some 11
  | 0x21 => some 1
  | 0x22 => some 2
  | 0x23 => some 1
  | 0x30 => some 22
  | 0x31 => some 3
  | 0x32 => some 2
  | 0x33 => some 0
  | 0x34 | 0x35 => some 2
  | 0x36 => some 23
  | 0x37 | 0x38 => some 0
  | 0x39 => some 2
  | 0x40 => some 0
  | 0x41 | 0x42 | 0x43 => some 2
  | 0x48 => some 2
  | 0x49 => some 0
  | 0x50 => some 5
  | 0x51 => some 0
  | 0x52 => some 24
  | 0x70 | 0x71 => some 0
  | _ => none

/-- A frame that the checks of R191 let through: heard, of at most 200 payload bytes, with its own CRC, for this
station, and no request outstanding. -/
abbrev FrameTaken (f : Frame) (s : State) : Prop :=
  s.port.receiver ≠ .deaf ∧ f.payload.length ≤ 200 ∧ f.crc = crc16 f.covered ∧
  f.address.toNat = s.port.station.toNat ∧ s.port.inbound = none

/-- The bytes of the reply to a frame, formed in a state with a reply of the block (Tables 10-1 and 10-2). -/
def replyBytes (f : Frame) (t : State) (r : Reply) : List Byte :=
  let flags : Byte := BitVec.ofNat 8 ((if t.port.discard then 1 else 0) + (if t.pins.alert then 2 else 0))
  let payload := BitVec.ofNat 8 r.result.code :: flags :: r.data
  let covered := t.port.station.setWidth 8 :: (f.kind + 0x80) :: f.tag ::
    BitVec.ofNat 8 payload.length :: payload
  let crc := crc16 covered
  (0xA5 :: covered) ++ [crc.extractLsb' 8 8, crc.extractLsb' 0 8]

/-- The state with the reply to a frame formed and the discard flag cleared (R194). -/
def answered (f : Frame) (t : State) (r : Reply) : State :=
  { t with port := { t.port with replyFrame := some (replyBytes f t r), discard := false } }

/-- The state with a frame taken as the outstanding request and the receiver hunting again (R190, R192). -/
def frameHeld (f : Frame) (s : State) : State :=
  { s with port := { s.port with receiver := .hunting, inbound := some f } }

/-- The result code with which the port itself answers a request it does not dispatch to a block, or whose
encoding names no request (R193, R52, R197). -/
def portCode : Dispatched → Option ResultCode
  | .unknownKind => some .unknownKind
  | .badLength => some .badLength
  | .badEncoding => some .badValue
  | .request _ => none

end Sys2Proof.Machine
end

