-- ==== Sys2Proof/Certificates/Slice0/Obligations.lean ====
section
/-! DEFINITION. The statements for the provers. A statement that gives what a command leaves says so for every state
in which the rules let the command be taken; a refusal is given with its result code. -/

open Sys2Proof Sys2Proof.Machine

/-! ### The machine and its queue -/

/-- A step with a command at the front of the queue is that command's effect on the state with the queue's rest. -/
def Obligations.StepRunsFrontCommand : Prop :=
  ∀ (c : Instr) (s : State), step { s with pending := c :: s.pending } = exec c s

/-- What a step is with no command waiting: the model's choice, log entries 1, 5, 7 and 20. A RESTART taken that
waits for no reply of its own takes effect; else a formed reply begins to be sent; else an expiry that is due is
taken; else the line clock advances by one. -/
def Obligations.IdleStepPassesTime : Prop :=
  ∀ s : State, s.pending = [] →
    (s.restartMayTakeEffect = true → step s = exec .restartTakesEffect s) ∧
    (s.restartMayTakeEffect = false → s.port.replyFrame.isSome = true → s.pins.linkDe = false →
      step s = .next { s with
        pins := { s.pins with linkDe := true }, port := { s.port with receiver := .deaf } }) ∧
    (s.restartMayTakeEffect = false → (s.port.replyFrame = none ∨ s.pins.linkDe = true) →
      (s.dueExpiries = [] →
        step s = .next { s with tracker := { s.tracker with clock := s.tracker.clock + 1 } }) ∧
      (s.dueExpiries ≠ [] → ∃ i, i ∈ s.dueExpiries ∧ step s = exec i s))

/-- Every command answers a next state in every state. That none touches the queue, POWER_ON_RESET included, is
the form of the model's own queue, log entries 1 and 16. -/
def Obligations.EveryCommandCompletes : Prop :=
  ∀ (i : Instr) (s : State), ∃ t, exec i s = .next t ∧ t.pending = s.pending

/-! ### Requests as bytes -/

/-- Every well-formed request is decoded from the bytes that carry it. -/
def Obligations.RequestRoundTrip : Prop :=
  ∀ (i : Instr) (kind : Byte) (payload : List Byte), i.wellFormed = true →
    encodeRequest i = some (kind, payload) → decodeRequest kind payload = .request i

/-- Dispatch looks at the kind, then at the payload length of Table 10-4; only an undefined POWER sub-action or READ
RECIPE selector is then no request. -/
def Obligations.DispatchFollowsTable : Prop :=
  ∀ (kind : Byte) (payload : List Byte),
    (payloadLength kind = none → decodeRequest kind payload = .unknownKind) ∧
    (∀ n, payloadLength kind = some n → payload.length ≠ n → decodeRequest kind payload = .badLength) ∧
    (payloadLength kind = some payload.length →
      (∃ i, decodeRequest kind payload = .request i ∧ (encodeRequest i).map Prod.fst = some kind) ∨
      (decodeRequest kind payload = .badEncoding ∧
        ((kind = 0x17#8 ∧ ∃ b, payload.head? = some b ∧ 3 < b.toNat) ∨
          (kind = 0x31#8 ∧ ∃ b, payload.head? = some b ∧ 1 < b.toNat))))

/-! ### The link -/

/-- The receiver's phases, and the end of a reply: a sync byte begins a frame only while hunting; a gap, a
framing error or a length byte above 200 drops a frame in progress with the discard flag set; at the end of a
reply, but for a RESTART's own, the request is no longer outstanding and LINK_DE is negated. That REPLY_SENT is
taken while LINK_DE is not asserted yet is the model's choice, log entry 7; that a REPLY_SENT with no request
outstanding and a length byte up to 200 change nothing, log entries 4 and 17. -/
def Obligations.ReceiverPhases : Prop :=
  ∀ s : State,
    (s.port.receiver = .hunting →
      exec .syncByteBeginsFrame s = .next { s with port := { s.port with receiver := .receiving } }) ∧
    (s.port.receiver ≠ .hunting → exec .syncByteBeginsFrame s = .next s) ∧
    (∀ i : Instr, i = .idleGapAbandon ∨ i = .framingErrorAbandon ∨
        (∃ n, i = .lengthByteDiscard n ∧ 200 < n) →
      (s.port.receiver = .receiving →
        exec i s = .next { s with port := { s.port with receiver := .hunting, discard := true } }) ∧
      (s.port.receiver ≠ .receiving → exec i s = .next s)) ∧
    (∀ n, n ≤ 200 → exec (.lengthByteDiscard n) s = .next s) ∧
    (s.port.inbound.isSome = true → ¬ RestartReplyOwed s →
      exec .replySent s = .next { s with
        port := { s.port with inbound := none, replyFrame := none, receiver := .hunting }
        pins := { s.pins with linkDe := false } }) ∧
    (s.port.inbound = none → exec .replySent s = .next s)

/-- The checks of a complete frame that let it go: a deaf receiver sees nothing; a wrong CRC, whatever the
address, and a request that stands outstanding discard it with the flag set; another station's frame is ignored.
That a frame is taken in the hunting phase too is the model's choice, log entry 12. -/
def Obligations.FrameChecks : Prop :=
  ∀ (f : Frame) (s : State), f.payload.length ≤ 200 →
    (s.port.receiver = .deaf → exec (.frameReceived f) s = .next s) ∧
    (s.port.receiver ≠ .deaf → f.crc ≠ crc16 f.covered →
      exec (.frameReceived f) s =
        .next { s with port := { s.port with receiver := .hunting, discard := true } }) ∧
    (s.port.receiver ≠ .deaf → f.crc = crc16 f.covered → f.address.toNat ≠ s.port.station.toNat →
      exec (.frameReceived f) s = .next { s with port := { s.port with receiver := .hunting } }) ∧
    (s.port.receiver ≠ .deaf → f.crc = crc16 f.covered → f.address.toNat = s.port.station.toNat →
      s.port.inbound.isSome = true →
      exec (.frameReceived f) s =
        .next { s with port := { s.port with receiver := .hunting, discard := true } })

/-- A frame that passes the checks is taken, carried out as the request it spells and answered: the state is the
one the request's row leaves, with the reply formed and the discard flag cleared. One the port refuses is
answered with its code and changes nothing else. That a frame is taken in the hunting phase too is the model's
choice, log entry 12. -/
def Obligations.FrameAnswered : Prop :=
  ∀ (f : Frame) (s : State), FrameTaken f s →
    (∀ i, decodeRequest f.kind f.payload = .request i →
      ∃ t r, exec i (frameHeld f s) = .next t ∧ t.reply = some r ∧
        exec (.frameReceived f) s = .next (answered f t r)) ∧
    (∀ code, portCode (decodeRequest f.kind f.payload) = some code →
      exec (.frameReceived f) s =
        .next (answered f (replied (frameHeld f s) code []) ⟨code, []⟩))

/-- A request that is refused, whatever it is, changes nothing but the reply handed to the port, which carries no
data. -/
def Obligations.RefusedRequestChangesNothing : Prop :=
  ∀ (i : Instr) (s t : State) (code : ResultCode) (data : List Byte),
    (encodeRequest i).isSome = true → exec i s = .next t → t.reply = some ⟨code, data⟩ → code ≠ .ok →
    t = replied s code []

/-! ### Line requests -/

/-- START: the checks in their order, then RUN, or HOLD while a cause is present. -/
def Obligations.StartTakesLineIntoProduction : Prop :=
  ∀ s : State,
    (StartTaken s → ∃ t, exec .start s = .next t ∧ StartLeaves s t) ∧
    (s.cadence.line ≠ .stopped → exec .start s = .next (replied s .wrongState [])) ∧
    (s.cadence.line = .stopped → s.cadence.occupancyUnknown = true →
      exec .start s = .next (replied s .lineUnknown [])) ∧
    (s.cadence.line = .stopped → s.cadence.occupancyUnknown = false →
      s.arbiter.enable = false ∨ s.pins.convReady = false →
      exec .start s = .next (replied s .wrongState []))

/-- STOP takes the line out of RUN or HOLD and is refused elsewhere. -/
def Obligations.StopLeavesProduction : Prop :=
  ∀ s : State,
    (InProduction s → ∃ t, exec .stop s = .next t ∧ StopLeaves s t) ∧
    (¬ InProduction s → exec .stop s = .next (replied s .wrongState []))

/-- HOLD adds the MANUAL cause: in RUN the line changes to HOLD, in HOLD the set of causes alone grows. -/
def Obligations.HoldAddsManual : Prop :=
  ∀ s : State,
    (s.cadence.line = .run → s.cadence.manual = false →
      ∃ t, exec .hold s = .next t ∧ HoldEntered { s.cadence with manual := true } s t ∧
        t.pins = { s.pins with pressReady := false, alert := t.pins.alert } ∧
        t.reply = some ⟨.ok, []⟩ ∧ SameOutside s t) ∧
    (s.cadence.line = .hold →
      exec .hold s = .next { replied s .ok [] with
        cadence := { s.cadence with manual := true }, pins := { s.pins with pressReady := false } }) ∧
    (¬ InProduction s → exec .hold s = .next (replied s .wrongState []))

/-- RESUME removes MANUAL and SUPPLY, and releases a held line when no cause is left. -/
def Obligations.ResumeRemovesCauses : Prop :=
  ∀ s : State,
    (s.arbiter.enable = true → s.pins.convReady = true → ResumeReleases s →
      ∃ t, exec .resume s = .next t ∧ ReleasedLeaves s t ∧ t.reply = some ⟨.ok, []⟩ ∧ SameOutside s t) ∧
    (s.arbiter.enable = true → s.pins.convReady = true → ¬ ResumeReleases s → PressReadyFollows s →
      exec .resume s = .next { replied s .ok [] with
        cadence := { s.cadence with manual := false, supply := false } }) ∧
    (s.arbiter.enable = false ∨ s.pins.convReady = false →
      exec .resume s = .next (replied s .wrongState []))

/-- DRAIN sets the no-load flag; a line in RUN that is already empty and idle stops at once. -/
def Obligations.DrainSetsNoLoad : Prop :=
  ∀ s : State,
    (s.cadence.line = .run → s.tracker.train = [] → s.cadence.operation = none →
      ∃ t, exec .drain s = .next t ∧ DrainStops s t) ∧
    (InProduction s → (s.cadence.line = .hold ∨ s.tracker.train ≠ [] ∨ s.cadence.operation ≠ none) →
      PressReadyFollows s →
      exec .drain s = .next { replied s .ok [] with cadence := { s.cadence with noLoad := true } }) ∧
    (¬ InProduction s → exec .drain s = .next (replied s .wrongState []))

/-- PURGE starts the first purge step's diversion in STOPPED or FAULTED with handling idle. -/
def Obligations.PurgeStartsDiverting : Prop :=
  ∀ s : State,
    (PurgeTaken s → ∃ t, exec .purge s = .next t ∧ PurgeLeaves s t) ∧
    (¬ PurgeTaken s → exec .purge s = .next (replied s .wrongState []))

/-- DECLARE EMPTY (R116): its three checks in their order, and the occupancy-unknown flag cleared. -/
def Obligations.DeclareEmptyClearsOccupancyUnknown : Prop :=
  ∀ s : State,
    (s.cadence.line ≠ .stopped → exec .declareEmpty s = .next (replied s .wrongState [])) ∧
    (s.cadence.line = .stopped → s.cadence.operation ≠ none →
      exec .declareEmpty s = .next (replied s .wrongState [])) ∧
    (s.cadence.line = .stopped → s.cadence.operation = none → s.tracker.train ≠ [] →
      exec .declareEmpty s = .next (replied s .notEmpty [])) ∧
    (s.cadence.line = .stopped → s.cadence.operation = none → s.tracker.train = [] →
      exec .declareEmpty s =
        .next { replied s .ok [] with cadence := { s.cadence with occupancyUnknown := false } })

/-! ### Requests that read -/

/-- The requests that read answer with the view of Table 10-4, of the length it gives, and change nothing; one whose
range or number is not in the table's bounds is refused. -/
def Obligations.ReadsAnswerAndChangeNothing : Prop :=
  ∀ s : State,
    exec .readLine s = .next (replied s .ok (lineBytes s)) ∧
    (∀ first count, 1 ≤ count → count ≤ 4 → first + count ≤ 13 →
      exec (.readTrain first count) s = .next (replied s .ok (s.trainView first count)) ∧
      (s.trainView first count).length = 6 + 35 * (List.range count).countP (fun k =>
        (s.tracker.recordAt (first + k)).isSome)) ∧
    (∀ first count, ¬ (1 ≤ count ∧ count ≤ 4 ∧ first + count ≤ 13) →
      exec (.readTrain first count) s = .next (replied s .badValue [])) ∧
    (∀ zone z, Names zone z →
      exec (.readZone zone) s = .next (replied s .ok (s.zoneView z)) ∧ (s.zoneView z).length = 29) ∧
    (∀ zone, (∀ z, ¬ Names zone z) → exec (.readZone zone) s = .next (replied s .badValue [])) ∧
    (∀ first : Fin 64, ∀ count, 1 ≤ count → count ≤ 8 →
      exec (.readOrders first.val count) s = .next (replied s .ok (s.ordersView first count)) ∧
      (s.ordersView first count).length ≤ 170) ∧
    (∀ first count, (64 ≤ first ∨ count = 0 ∨ 8 < count) →
      exec (.readOrders first count) s = .next (replied s .badValue [])) ∧
    (∀ key i e, Found s key i e →
      exec (.readRecipe (.key key)) s = .next (replied s .ok (entryView i e)) ∧
      (entryView i e).length = 31) ∧
    (∀ key, s.recipes.keySearch key = none →
      exec (.readRecipe (.key key)) s = .next (replied s .notFound [])) ∧
    (∀ w : Fin 2, exec (.readRecipe (.window w.val)) s =
      .next (replied s .ok (windowView w s.recipes.windows[w]))) ∧
    (∀ n, 1 < n → exec (.readRecipe (.window n)) s = .next (replied s .badValue [])) ∧
    (exec .readWants s = .next (replied s .ok s.wantsView) ∧
      s.wantsView.length = 7 + 9 * s.recipes.wants.length) ∧
    (exec .readCounters s = .next (replied s .ok s.countersView) ∧ s.countersView.length = 20) ∧
    (exec .readSettings s = .next (replied s .ok s.settingsView) ∧ s.settingsView.length = 84) ∧
    exec .identify s = .next (replied s .ok
      ([0x10, 0x5E, 0x24, 0x06, 0x01, s.port.station.setWidth 8, BitVec.ofNat 8 s.settings.lastReset.code] ++
        putClock s.tracker.clock))

/-! ### Zone and power requests -/

/-- SET ZONE writes a zone's seven settings at once and evaluates its demand with them; values out of range are
refused. -/
def Obligations.SetZoneWritesSettings : Prop :=
  ∀ (s : State) (zone mode blockSize setpoint budget : Nat) (options : BitVec 8),
    (∀ z, Names zone z → ZoneValuesOk mode blockSize setpoint budget options →
      ∃ t, exec (.setZone zone mode blockSize setpoint budget options) s = .next t ∧
        SetZoneLeaves z mode blockSize setpoint budget options s t) ∧
    ((∀ z, ¬ Names zone z) ∨ ¬ ZoneValuesOk mode blockSize setpoint budget options →
      exec (.setZone zone mode blockSize setpoint budget options) s = .next (replied s .badValue []))

/-- ENABLE ZONE takes a zone out of OFF or HALTED with a full budget, and grants it at once where it claims an open
converter. Premise: no grant was due before. -/
def Obligations.EnableZoneFillsBudget : Prop :=
  ∀ (s : State) (zone : Nat),
    (∀ z, Names zone z → EnableTaken z s → NoGrantDue s →
      exec (.enableZone zone) s =
        .next (replied (channelLeft s z (enabledChannel s.arbiter.zones[z])) .ok [])) ∧
    (∀ z, Names zone z → ¬ EnableTaken z s → exec (.enableZone zone) s = .next (replied s .wrongState [])) ∧
    ((∀ z, ¬ Names zone z) → exec (.enableZone zone) s = .next (replied s .badValue []))

/-- DISABLE ZONE stops one zone and POWER OFF all six; a zone in its slice takes a pending end. -/
def Obligations.DisableStopsZones : Prop :=
  ∀ s : State,
    (∀ zone z, Names zone z → s.arbiter.zones[z].state ≠ .off →
      exec (.disableZone zone) s =
        .next (replied (channelSet s z (disabledChannel s.arbiter.zones[z])) .ok [])) ∧
    (∀ zone z, Names zone z → s.arbiter.zones[z].state = .off →
      exec (.disableZone zone) s = .next (replied s .wrongState [])) ∧
    (∀ zone, (∀ z, ¬ Names zone z) → exec (.disableZone zone) s = .next (replied s .badValue [])) ∧
    exec .powerOff s = .next (replied { s with
      arbiter := { s.arbiter with
        enable := false, zones := s.arbiter.zones.mapIdx (fun _ c => disabledChannel c) } } .ok [])

/-- PAUSE ZONE and CONTINUE ZONE; a zone that continues with a claim on an open converter is granted. Premise of the
latter: no grant was due before. -/
def Obligations.PauseAndContinueZone : Prop :=
  ∀ (s : State) (zone : Nat),
    (∀ z, Names zone z → s.arbiter.zones[z].state ≠ .off → s.arbiter.zones[z].state ≠ .halted →
      exec (.pauseZone zone) s = .next (replied (channelSet s z
        { s.arbiter.zones[z] with paused := true, stopCode := .paused }) .ok [])) ∧
    (∀ z, Names zone z → (s.arbiter.zones[z].state = .off ∨ s.arbiter.zones[z].state = .halted) →
      exec (.pauseZone zone) s = .next (replied s .wrongState [])) ∧
    (∀ z, Names zone z → NoGrantDue s →
      exec (.continueZone zone) s =
        .next (replied (channelLeft s z (continuedChannel s.arbiter.zones[z])) .ok [])) ∧
    ((∀ z, ¬ Names zone z) →
      exec (.pauseZone zone) s = .next (replied s .badValue []) ∧
      exec (.continueZone zone) s = .next (replied s .badValue []))

/-- DOSE ZONE: its refusals, and the dose that becomes due, granted at once on an open converter. Premise: no grant
was due before. -/
def Obligations.DoseZoneMakesDoseDue : Prop :=
  ∀ (s : State) (zone : Nat),
    ((∀ z, ¬ Names zone z) → exec (.doseZone zone) s = .next (replied s .badValue [])) ∧
    (∀ z, Names zone z →
      (s.arbiter.zones[z].state = .off ∨ s.arbiter.zones[z].state = .halted ∨
        s.arbiter.zones[z].state = .spent) →
      exec (.doseZone zone) s = .next (replied s .wrongState [])) ∧
    (∀ z, Names zone z → s.arbiter.zones[z].state ≠ .off → s.arbiter.zones[z].state ≠ .halted →
      s.arbiter.zones[z].state ≠ .spent →
      ((∀ r ∈ s.tracker.train, r.position ≠ 2 * z.val ∧ r.position ≠ 2 * z.val + 1) →
        exec (.doseZone zone) s = .next (replied s .empty [])) ∧
      ((∃ r ∈ s.tracker.train, r.position = 2 * z.val ∨ r.position = 2 * z.val + 1) → NoGrantDue s →
        exec (.doseZone zone) s =
          .next (replied (channelLeft s z (dosedChannel s.arbiter.zones[z])) .ok [])))

/-- POWER ON, POWER PAUSE and POWER CONTINUE set the converter's flags; POWER ON and POWER CONTINUE then make the
grant of R56. -/
def Obligations.PowerRequestsSetFlags : Prop :=
  ∀ s : State,
    (s.pins.convReady = true →
      exec .powerOn s =
        .next (replied (State.grant { s with arbiter := { s.arbiter with enable := true } }) .ok [])) ∧
    (s.pins.convReady = false → exec .powerOn s = .next (replied s .wrongState [])) ∧
    exec .powerPause s = .next (replied { s with arbiter := { s.arbiter with pause := true } } .ok []) ∧
    exec .powerContinue s =
      .next (replied (State.grant { s with arbiter := { s.arbiter with pause := false } }) .ok [])

/-- A grant goes to the eligible zone of highest rank, as a forced slice where a dose is due and the guard lets it; a
dose the guard refuses is dropped and the grant made again; afterwards no grant is due. -/
def Obligations.GrantGoesToHighestRank : Prop :=
  ∀ s : State,
    (¬ ConverterOpen s → s.grant = s) ∧
    ((∀ z : Fin 6, s.arbiter.zones[z].state ≠ .waiting ∨ s.arbiter.zones[z].paused = true) → s.grant = s) ∧
    (∀ z : Fin 6, ConverterOpen s → FirstEligible s z →
      (s.arbiter.zones[z].forced = false ∨ s.guardQuery z = false ∨ s.arbiter.zones[z].request = true →
        s.grant = grantedTo s z s.arbiter.zones[z]) ∧
      (s.arbiter.zones[z].forced = true → s.guardQuery z = true → s.arbiter.zones[z].request = false →
        s.grant = (grantedTo s z s.arbiter.zones[z]).grant)) ∧
    NoGrantDue s.grant

/-! ### Order requests -/

/-- POST ORDER of a key that a window or a table entry resolves: the order stands QUEUED at the tail and the use
count rises; and the refusals in their order. -/
def Obligations.PostOrderQueuesResolvedOrder : Prop :=
  ∀ (s : State) (billetId : BitVec 32) (key : Key) (flags : BitVec 8) (entryTemp exitOverride : Nat),
    (¬ OrderValuesOk flags entryTemp exitOverride →
      exec (.postOrder billetId key flags entryTemp exitOverride) s = .next (replied s .badValue [])) ∧
    (OrderValuesOk flags entryTemp exitOverride → 64 ≤ s.ring.occupied →
      exec (.postOrder billetId key flags entryTemp exitOverride) s = .next (replied s .ringFull [])) ∧
    (OrderValuesOk flags entryTemp exitOverride → s.ring.occupied < 64 →
      (∀ w : Fin 2, ¬ WindowMatches s.recipes.windows[w] key) → s.recipes.keySearch key = none →
      (4 ≤ s.recipes.wants.length ∨ s.recipes.wayFor key = none) →
      exec (.postOrder billetId key flags entryTemp exitOverride) s = .next (replied s .tableBlocked [])) ∧
    (∀ ref outcome, OrderValuesOk flags entryTemp exitOverride → s.ring.occupied < 64 →
      Resolves s key ref outcome →
      exec (.postOrder billetId key flags entryTemp exitOverride) s =
        .next { s with
          ring := ringPosted s.ring (postedOrder billetId key flags entryTemp exitOverride ref)
          recipes := { useRaised s.recipes ref with replacement := s.recipes.replacement + 1 }
          reply := some ⟨.ok, [BitVec.ofNat 8 s.ring.tail.val, BitVec.ofNat 8 ref.code,
            BitVec.ofNat 8 outcome]⟩ })

/-- POST ORDER of an unknown key: a PENDING entry is allocated in the way the table gives, its want appended,
RECIPE_WANTED raised and a miss counted, after the record of an evicted LEARNED entry has been handed over. -/
def Obligations.PostOrderAllocatesUnknownKey : Prop :=
  ∀ (s : State) (billetId : BitVec 32) (key : Key) (flags : BitVec 8) (entryTemp exitOverride : Nat)
      (i : Fin 32),
    OrderValuesOk flags entryTemp exitOverride → s.ring.occupied < 64 →
    (∀ w : Fin 2, ¬ WindowMatches s.recipes.windows[w] key) → s.recipes.keySearch key = none →
    s.recipes.wants.length < 4 → s.recipes.wayFor key = some i →
    exec (.postOrder billetId key flags entryTemp exitOverride) s =
      .next (replied
        (eventCounted (sourcesRaised { evicted s i with
          ring := ringPosted s.ring (postedOrder billetId key flags entryTemp exitOverride (.entry i))
          recipes := tableAllocated s (evicted s i).recipes i key } 0b1000#11) 8)
        .ok [BitVec.ofNat 8 s.ring.tail.val, BitVec.ofNat 8 i.val, 2])

/-- WITHDRAW frees the newest QUEUED orders, up to n; of the recipe table only use counts change; refused
outside 1 to 64. Premise: the ring is in order. -/
def Obligations.WithdrawFreesNewest : Prop :=
  ∀ (s : State) (n : Nat),
    (1 ≤ n → n ≤ 64 → RingInOrder s →
      ∃ t, exec (.withdraw n) s = .next t ∧ WithdrawLeaves (min n s.ring.queued) s t) ∧
    (n = 0 ∨ 64 < n → exec (.withdraw n) s = .next (replied s .badValue []))

/-- RECLAIM frees the DONE orders at the oldest end, up to n; refused outside 1 to 64. -/
def Obligations.ReclaimFreesOldestDone : Prop :=
  ∀ (s : State) (n : Nat),
    (∀ k, 1 ≤ n → n ≤ 64 → ReclaimCount n k s → exec (.reclaim n) s = .next (reclaimed k s)) ∧
    (n = 0 ∨ 64 < n → exec (.reclaim n) s = .next (replied s .badValue []))

/-! ### Recipe requests -/

/-- LOAD RECIPE: the entry that holds the key is VALID with the values loaded, a PENDING one losing its want; an
absent key takes the way the table gives, after the eviction of its occupant; values out of range, and an
absent key with no way left, are refused. That the reply's was-LEARNED byte is 0 for a filled and for a newly
allocated entry is the model's choice, log entry 22: R156 gives it for an overwrite only. -/
def Obligations.LoadRecipeFillsEntry : Prop :=
  ∀ (s : State) (key : Key) (body : Body) (trim : Int) (policy : Nat),
    (∀ i e, RecipeValuesOk body trim policy → Found s key i e →
      ∃ t, exec (.loadRecipe key body trim policy) s = .next t ∧
        t.recipes = tableFilled s.recipes i e body trim policy ∧ LoadFollows s t ∧
        t.reply = some ⟨.ok, [BitVec.ofNat 8 i.val, if e.state = .pending then 0 else 1,
          if e.state = .learned then 1 else 0]⟩) ∧
    (∀ i, RecipeValuesOk body trim policy → s.recipes.keySearch key = none → s.recipes.wayFor key = some i →
      ∃ t, exec (.loadRecipe key body trim policy) s = .next t ∧
        t.recipes = tableLoaded (evicted s i).recipes i key body trim policy ∧ LoadFollows s t ∧
        t.reply = some ⟨.ok, [BitVec.ofNat 8 i.val, 2, 0]⟩) ∧
    (RecipeValuesOk body trim policy → s.recipes.keySearch key = none → s.recipes.wayFor key = none →
      exec (.loadRecipe key body trim policy) s = .next (replied s .tableBlocked [])) ∧
    (¬ RecipeValuesOk body trim policy →
      exec (.loadRecipe key body trim policy) s = .next (replied s .badValue []))

/-- FLUSH RECIPE: its refusals in their order, and the entry gone, with the record of a LEARNED one handed over. -/
def Obligations.FlushRecipeRemovesEntry : Prop :=
  ∀ (s : State) (key : Key),
    (s.recipes.keySearch key = none → exec (.flushRecipe key) s = .next (replied s .notFound [])) ∧
    (∀ i e, Found s key i e → e.state = .pending ∨ 0 < e.useCount →
      exec (.flushRecipe key) s = .next (replied s .inUse [])) ∧
    (∀ i e, Found s key i e → e.useCount = 0 → e.state = .learned →
      ¬ ListHasRoom s.recipes.writebacks e.key →
      exec (.flushRecipe key) s = .next (replied s .listFull [])) ∧
    (∀ i e, Found s key i e → e.useCount = 0 → e.state = .valid →
      exec (.flushRecipe key) s =
        .next (replied (entrySet s i none) .ok [BitVec.ofNat 8 i.val, 0])) ∧
    (∀ i e, Found s key i e → e.useCount = 0 → e.state = .learned →
      ListHasRoom s.recipes.writebacks e.key →
      exec (.flushRecipe key) s =
        .next (replied (entrySet (handedOver s ⟨e.key, e.trim, e.learned, .flushed⟩) i none) .ok
          [BitVec.ofNat 8 i.val, 1]))

/-- FLUSH UNPINNED sweeps the whole table in one request, and hands over the record of each LEARNED entry it
takes. -/
def Obligations.FlushUnpinnedSweepsTable : Prop :=
  ∀ s : State, ∃ t, exec .flushUnpinned s = .next t ∧ SweepLeaves s t

/-- PIN RECIPE, UNPIN RECIPE and SET WINDOW, with their refusals in their order. -/
def Obligations.PinsAndWindows : Prop :=
  ∀ s : State,
    (∀ key, s.recipes.keySearch key = none →
      exec (.pinRecipe key) s = .next (replied s .notFound []) ∧
      exec (.unpinRecipe key) s = .next (replied s .notFound [])) ∧
    (∀ key i e, Found s key i e →
      (e.pinned = true → exec (.pinRecipe key) s = .next (replied s .ok [])) ∧
      (e.pinned = false → 3 ≤ s.recipes.pinnedWays (setOf key) →
        exec (.pinRecipe key) s = .next (replied s .limit [])) ∧
      (e.pinned = false → s.recipes.pinnedWays (setOf key) < 3 →
        exec (.pinRecipe key) s = .next (replied (entrySet s i (some { e with pinned := true })) .ok [])) ∧
      exec (.unpinRecipe key) s =
        .next (replied (entrySet s i (some { e with pinned := false })) .ok [])) ∧
    (∀ window enable base mask body,
      (1 < window ∨ 1 < enable ∨ ¬ BodyValuesOk body →
        exec (.setWindow window enable base mask body) s = .next (replied s .badValue [])) ∧
      (∀ w : Fin 2, window = w.val → enable ≤ 1 → BodyValuesOk body →
        (0 < s.recipes.windows[w].useCount →
          exec (.setWindow window enable base mask body) s = .next (replied s .inUse [])) ∧
        (s.recipes.windows[w].useCount = 0 →
          exec (.setWindow window enable base mask body) s =
            .next (replied { s with recipes := { s.recipes with
              windows := s.recipes.windows.set w ⟨decide (enable = 1), base, mask, body, 0⟩ } } .ok []))))

/-- TAKE WRITEBACKS removes the oldest records, at most four, into its reply; REQUEST WRITEBACK hands over a LEARNED
entry's record and leaves it VALID. -/
def Obligations.WritebacksTakenAndRequested : Prop :=
  ∀ s : State,
    exec .takeWritebacks s =
      .next (replied { s with recipes := { s.recipes with writebacks := s.recipes.writebacks.drop 4 } } .ok
        (BitVec.ofNat 8 (min 4 s.recipes.writebacks.length) ::
          (s.recipes.writebacks.take 4).flatMap writebackView)) ∧
    (∀ key, s.recipes.keySearch key = none →
      exec (.requestWriteback key) s = .next (replied s .notFound [])) ∧
    (∀ key i e, Found s key i e →
      (e.state ≠ .learned → exec (.requestWriteback key) s = .next (replied s .wrongState [])) ∧
      (e.state = .learned → ¬ ListHasRoom s.recipes.writebacks e.key →
        exec (.requestWriteback key) s = .next (replied s .listFull [])) ∧
      (e.state = .learned → ListHasRoom s.recipes.writebacks e.key →
        exec (.requestWriteback key) s =
          .next (replied (entrySet (handedOver s ⟨e.key, e.trim, e.learned, .requested⟩) i
            (some { e with state := .valid })) .ok
            (BitVec.ofNat 8 i.val :: putSigned e.trim ++ put16 e.learned))))

/-! ### Attention, counters, settings -/

/-- The requests of the attention unit: READ ATTENTION takes the reported set out of both sets, ENABLE adds to E,
DISABLE and CLEAR remove from E and from P, and ALERT follows; SELECT COUNTER. -/
def Obligations.AttentionRequestsChangeSets : Prop :=
  ∀ s : State,
    (exec .readAttention s =
      .next (replied
        (attentionSet s (s.attention.pending &&& ~~~s.attention.enabled)
          (s.attention.enabled &&& ~~~s.attention.pending)) .ok
        (put16 (s.attention.pending &&& s.attention.enabled).toNat ++ put16 s.attention.pending.toNat))) ∧
    (∀ set : BitVec 16, set.toNat < 2048 →
      exec (.enableAttention set) s =
        .next (replied (attentionSet s s.attention.pending
          (s.attention.enabled ||| set.setWidth 11)) .ok []) ∧
      exec (.disableAttention set) s =
        .next (replied (attentionSet s s.attention.pending
          (s.attention.enabled &&& ~~~set.setWidth 11)) .ok []) ∧
      exec (.clearAttention set) s =
        .next (replied (attentionSet s (s.attention.pending &&& ~~~set.setWidth 11)
          s.attention.enabled) .ok [])) ∧
    (∀ set : BitVec 16, 2048 ≤ set.toNat →
      exec (.enableAttention set) s = .next (replied s .badValue []) ∧
      exec (.disableAttention set) s = .next (replied s .badValue []) ∧
      exec (.clearAttention set) s = .next (replied s .badValue [])) ∧
    (∀ (k : Fin 4) (event : Nat), event ≤ 15 →
      exec (.selectCounter k.val event) s =
        .next (replied { s with counters := s.counters.set k ⟨event, 0⟩ } .ok [])) ∧
    (∀ counter event, 3 < counter ∨ 15 < event →
      exec (.selectCounter counter event) s = .next (replied s .badValue []))

/-- WRITE SETTING and WRITE PROFILE: their refusals in their order, and the write, with the demand of all zones
evaluated anew where the value bears on it. -/
def Obligations.SettingsWritten : Prop :=
  ∀ s : State,
    (∀ id value, ¬ SettingValueOk id value →
      exec (.writeSetting id value) s = .next (replied s .badValue [])) ∧
    (∀ value, SettingValueOk 1 value → s.cadence.line ≠ .stopped ∨ s.tracker.train ≠ [] →
      exec (.writeSetting 1 value) s = .next (replied s .wrongState [])) ∧
    (∀ id value, SettingValueOk id value → id ≠ 1 → id ≠ 2 → id ≠ 14 →
      exec (.writeSetting id value) s =
        .next (replied { s with settings := writeSettingOf id value s.settings } .ok [])) ∧
    (∀ id value, SettingValueOk id value →
      (id = 1 ∧ s.cadence.line = .stopped ∧ s.tracker.train = []) ∨ id = 2 ∨ id = 14 →
      ∃ t, exec (.writeSetting id value) s = .next t ∧
        SettingsLeave (writeSettingOf id value s.settings) s t) ∧
    (∀ profile, profileOk profile = true →
      ∃ t, exec (.writeProfile profile) s = .next t ∧ SettingsLeave { s.settings with profile := profile } s t) ∧
    (∀ profile, profileOk profile = false →
      exec (.writeProfile profile) s = .next (replied s .badValue []))

/-- RESTART is accepted at once and takes effect when its reply has been sent, within the REPLY_SENT of that
reply, each block at its restart state. A RESTART taken as a bare request row, to which the port sends no reply,
takes effect at RESTART_TAKES_EFFECT: the model's choice, log entry 20. That this event changes nothing before
then is log entry 4's, and that the reply handed over last stays readable log entry 6's. -/
def Obligations.RestartTakesEffectAfterReply : Prop :=
  ∀ s : State,
    exec .restart s = .next (replied { s with port := { s.port with restartDue := true } } .ok []) ∧
    (RestartReplyOwed s → ∃ t, exec .replySent s = .next t ∧ RestartLeaves s t) ∧
    (s.port.restartDue = true → ¬ RestartReplyOwed s →
      ∃ t, exec .restartTakesEffect s = .next t ∧ RestartLeaves s t ∧
        (∀ (i : Fin 64) o, s.ring.slots[i] = .loading o →
          ∃ st, t.ring.slots[i] = .done o st ∧ st.verdict = .restartLost) ∧
        (∀ (i : Fin 64) o, s.ring.slots[i] = .inLine o → (∃ r ∈ s.tracker.train, r.slot = i) →
          ∃ st, t.ring.slots[i] = .done o st ∧ st.verdict = .restartLost)) ∧
    (s.port.restartDue = false ∨ RestartReplyOwed s → exec .restartTakesEffect s = .next s)

/-- Power-on puts every block at its power-on state, whatever was before it: the spec's values, with the settings at
their defaults. That the input levels, what has been sent and the queue stay is the model's choice, log entry
16. -/
def Obligations.PowerOnRestoresDefaults : Prop :=
  ∀ s : State,
    exec .powerOnReset s = .next { State.reset with
      port := portReset s.pins.address
      pins := pinsReset s.pins false
      cadence := cadenceReset s.pins.pressStop 20 0
      wires := s.wires
      pending := s.pending }

/-! ### Events of the converter, the guards and the pyrometer -/

/-- SLICE DONE of the slice in flight: the credit, the counts, and the decision on the zone's next state, case
by case, with the grant that follows; any other report is ignored. The block count past sixteen is free, log
entry 15: only its range is stated. -/
def Obligations.SliceDoneCreditsAndDecides : Prop :=
  ∀ (s : State) (sequence : BitVec 8) (energy : Nat),
    (∀ x, s.arbiter.slice = some x → x.sequence = sequence →
      ∃ t, exec (.sliceDone sequence energy) s = .next t ∧ SliceDoneLeaves x (min energy x.eset) s t) ∧
    ((∀ x, s.arbiter.slice = some x → x.sequence ≠ sequence) →
      exec (.sliceDone sequence energy) s = .next s)

/-- The three events of a supply loss, with the energy each credits to the billets, and the cases in which they
are none. That a readiness change within it starts no operation is an inference, log entry 8; that a slice timer
without a slice changes nothing, log entry 4. -/
def Obligations.SupplyLossStopsZonesAndHolds : Prop :=
  ∀ s : State,
    (∀ sequence energy x, SupplyFree s → s.arbiter.slice = some x → x.sequence = sequence →
      ∃ t, exec (.sliceFault sequence energy) s = .next t ∧
        SupplyLostLeaves (fun x => min energy x.eset) s t ∧ t.wires.convTx = s.wires.convTx) ∧
    (∀ sequence energy, (∀ x, s.arbiter.slice = some x → x.sequence ≠ sequence) →
      exec (.sliceFault sequence energy) s = .next s) ∧
    (SupplyFree s → s.arbiter.enable = true ∨ s.arbiter.slice.isSome = true →
      ∃ t, exec .convReadyFall s = .next t ∧ SupplyLostLeaves (fun _ => 0) s t ∧
        t.pins.convReady = false ∧ t.wires.convTx = s.wires.convTx) ∧
    (s.arbiter.enable = false → s.arbiter.slice = none →
      exec .convReadyFall s = .next { s with pins := { s.pins with convReady := false } }) ∧
    (∀ x, SupplyFree s → s.arbiter.slice = some x → s.arbiter.sliceTimer.isSome = true →
      ∃ t, exec .sliceTimerExpiry s = .next t ∧ SupplyLostLeaves (fun _ => 0) s t ∧
        t.wires.convTx = s.wires.convTx ++ [.sliceCancel x.sequence]) ∧
    (s.arbiter.slice = none → exec .sliceTimerExpiry s = .next s)

/-- A guard input asserted halts its zone, or cancels the slice of a DELIVERING one; its negation, the rise of
CONV_READY, the negation of PRESS_CALL and a no-target indication change a level at most. The list of messages
sent is the model's record, log entry 3. -/
def Obligations.GuardsAndLevels : Prop :=
  ∀ s : State,
    (∀ zone z, Names zone z →
      (s.arbiter.zones[z].state = .idle ∨ s.arbiter.zones[z].state = .waiting ∨
        s.arbiter.zones[z].state = .spent) →
      exec (.guardAsserted zone) s =
        .next (
          let s1 := { s with pins := { s.pins with guards := s.pins.guards.set z true } }
          let s2 := eventCounted (channelSet s1 z (haltedChannel s.arbiter.zones[z])) 12
          if s.arbiter.zones[z].settings.errorNotice = true then sourcesRaised s2 0b1000000#11 else s2)) ∧
    (∀ zone z x, Names zone z → s.arbiter.zones[z].state = .delivering →
      s.arbiter.zones[z].pendingEnd ≠ .halt → s.arbiter.slice = some x →
      exec (.guardAsserted zone) s =
        .next (channelSet
          { s with
            pins := { s.pins with guards := s.pins.guards.set z true }
            wires := { s.wires with convTx := s.wires.convTx ++ [.sliceCancel x.sequence] } } z
          { s.arbiter.zones[z] with pendingEnd := .halt })) ∧
    (∀ zone z, Names zone z →
      (s.arbiter.zones[z].state = .off ∨ s.arbiter.zones[z].state = .halted ∨
        (s.arbiter.zones[z].state = .delivering ∧ s.arbiter.zones[z].pendingEnd = .halt)) →
      exec (.guardAsserted zone) s =
        .next { s with pins := { s.pins with guards := s.pins.guards.set z true } }) ∧
    (∀ zone z, Names zone z →
      exec (.guardNegated zone) s =
        .next { s with pins := { s.pins with guards := s.pins.guards.set z false } }) ∧
    exec .convReadyRise s = .next { s with pins := { s.pins with convReady := true } } ∧
    exec .pressCallNegated s = .next { s with pins := { s.pins with pressCall := false } } ∧
    exec .pyroNoTarget s = .next s

/-- A temperature message while the exit record awaits its reading, outside PURGING, is a reading and decides the
verdict; any other is ignored. -/
def Obligations.ReadingDecidesVerdict : Prop :=
  ∀ (s : State) (value : Nat),
    (∀ r, s.tracker.exitRecord = some r → r.verdict = .awaiting → s.tracker.line ≠ .purging →
      ∃ t, exec (.pyroTemperatureMessage value) s = .next t ∧ ReadingLeaves r value s t) ∧
    ((∀ r, s.tracker.exitRecord = some r → r.verdict ≠ .awaiting) ∨ s.tracker.line = .purging →
      exec (.pyroTemperatureMessage value) s = .next s)

/-- A reading forms a residual and a learning step at the record's table entry, unless the record is REJECT_AGED or
resolved to a window, which learn nothing. -/
def Obligations.ReadingTeachesEntry : Prop :=
  ∀ (s : State) (value : Nat) (r : BilletRecord),
    s.tracker.exitRecord = some r → r.verdict = .awaiting → s.tracker.line ≠ .purging →
    ∃ t, exec (.pyroTemperatureMessage value) s = .next t ∧
      (∀ i e, r.ref = .entry i → s.recipes.entries[i] = some e → (s.updated r).aged = false →
        LearningLeaves i e
          (learnedEntry (((readRecord s value r).tm : Int) - (s.updated r).tm) (s.bodyOf r).width e) s t) ∧
      ((s.updated r).aged = true ∨ (∃ w, r.ref = .window w) → t.recipes = s.recipes)

/-- The reading timer's expiry rejects a billet that still awaits its reading, without touching its
temperatures, and in RUN starts its diversion. That an expiry of a stopped timer changes nothing is an
inference, log entry 4. -/
def Obligations.ReadingTimeoutRejects : Prop :=
  ∀ s : State,
    (∀ r, s.tracker.readingTimer.isSome = true → s.tracker.exitRecord = some r → r.verdict = .awaiting →
      exec .readingTimerExpiry s =
        .next (
          let s1 := { s with
            tracker := { s.tracker with
              readingTimer := none
              train := { r with verdict := .rejectUnmeasured } :: s.tracker.train.tail }
            cadence := { s.cadence with exitVerdict := some .rejectUnmeasured }
            pins := { s.pins with pressReady := false } }
          if s.cadence.line = .run ∧ s.cadence.operation = none then operationStarted s1 .divert else s1)) ∧
    (s.tracker.readingTimer.isSome = true →
      (∀ r, s.tracker.exitRecord = some r → r.verdict ≠ .awaiting) →
      exec .readingTimerExpiry s = .next { s with tracker := { s.tracker with readingTimer := none } }) ∧
    (s.tracker.readingTimer = none → exec .readingTimerExpiry s = .next s)

/-- A survey updates every record, re-checks a GOOD exit and evaluates demand and readiness. Premise: the train
is ordered. That an expiry of a stopped timer changes nothing is an inference, log entry 4. -/
def Obligations.SurveyUpdatesTrain : Prop :=
  ∀ s : State,
    (s.tracker.surveyTimer.isSome = true → TrainOrdered s →
      ∃ t, exec .surveyTimerExpiry s = .next t ∧ SurveyLeaves s t) ∧
    (s.tracker.surveyTimer = none → exec .surveyTimerExpiry s = .next s)

/-! ### Events of the press and of handling -/

/-- A call in RUN: with PRESS_READY asserted it starts an EXTRACT; otherwise it is pending, and nothing starts while
the choice has nothing to start. -/
def Obligations.CallInRun : Prop :=
  ∀ s : State, s.cadence.line = .run → PressReadyFollows s →
    (∀ r, s.pins.pressReady = true → s.tracker.exitRecord = some r →
      exec .pressCall s = .next (operationStarted
        { s with
          pins := { s.pins with pressCall := true, pressReady := false }
          cadence := { s.cadence with pendingCall := false }
          tracker := { s.tracker with train := { r with extracting := true } :: s.tracker.train.tail } }
        .extract)) ∧
    (s.pins.pressReady = false → ChoiceIdle { s.cadence with pendingCall := true } →
      exec .pressCall s = .next { s with
        pins := { s.pins with pressCall := true }
        cadence := { s.cadence with pendingCall := true } })

/-- A call taken outside RUN is declined: one pulse on PRESS_DECLINE, PRESS_DECLINED raised, the decline
counted, and nothing else changed but the input's level (R87). The pulse is counted in the model's record, log
entry 3. -/
def Obligations.CallOutsideRunDeclined : Prop :=
  ∀ s : State, s.cadence.line ≠ .run →
    exec .pressCall s = .next (eventCounted (sourcesRaised
      { s with
        pins := { s.pins with pressCall := true }
        wires := { s.wires with declinePulses := s.wires.declinePulses + 1 } } 0b10000000000#11) 13)

/-- PRESS_STOP through its hold delay: the assertion loads the delay or, with a delay of 0, adds the cause; the
expiry adds it; the negation stops the delay and removes the cause, which may release the line. That an expiry
of a stopped timer changes nothing is an inference, log entry 4. -/
def Obligations.PressStopHoldsThroughDelay : Prop :=
  ∀ s : State, PressReadyFollows s →
    (s.settings.holdDelay ≠ 0 →
      exec .pressStopAsserted s = .next { s with
        pins := { s.pins with pressStop := true }
        cadence := { s.cadence with
          holdDelay := some ⟨s.tracker.clock, s.settings.holdDelay * 1000⟩ } }) ∧
    (s.settings.holdDelay = 0 → s.cadence.line ≠ .run →
      exec .pressStopAsserted s = .next { s with
        pins := { s.pins with pressStop := true }, cadence := { s.cadence with pressStop := true } }) ∧
    (s.settings.holdDelay = 0 → s.cadence.line = .run → s.cadence.pressStop = false →
      ∃ t, exec .pressStopAsserted s = .next t ∧ t.pins.pressStop = true ∧ t.pins.pressReady = false ∧
        HoldEntered { s.cadence with pressStop := true } s t) ∧
    (s.cadence.holdDelay = none → exec .holdDelayExpiry s = .next s) ∧
    (s.cadence.holdDelay.isSome = true → s.cadence.line ≠ .run →
      exec .holdDelayExpiry s = .next { s with
        cadence := { s.cadence with holdDelay := none, pressStop := true } }) ∧
    (s.cadence.holdDelay.isSome = true → s.cadence.line = .run → s.cadence.pressStop = false →
      ∃ t, exec .holdDelayExpiry s = .next t ∧ t.pins.pressReady = false ∧ SameOutside s t ∧
        HoldEntered { s.cadence with holdDelay := none, pressStop := true } s t) ∧
    (s.cadence.line = .hold → s.cadence.pressStop = true → s.cadence.manual = false →
      s.cadence.supply = false →
      ∃ t, exec .pressStopNegated s = .next t ∧ t.pins.pressStop = false ∧ t.cadence.holdDelay = none ∧
        ReleasedLeaves s t) ∧
    (s.cadence.line ≠ .hold ∨ s.cadence.pressStop = false ∨ s.cadence.manual = true ∨
        s.cadence.supply = true →
      exec .pressStopNegated s = .next { s with
        pins := { s.pins with pressStop := false }
        cadence := { s.cadence with holdDelay := none, pressStop := false } })

/-- PUSH_DONE: the column moves up one position with the loaded order's record, a record that arrives at 12 has
its reading timer loaded, budgets are reloaded, demand is evaluated and the push is counted; in a purge the next
step's diversion follows, and at step 13 the line stops with occupancy known. A PUSH_DONE without a push in
flight is ignored. Premises: the train is ordered with no verdict below the exit, and in a purge the purge
stands at a step, which `ColumnLawsKept` and `LineLawsKept` keep. That a minimum-push timer still running is
stopped by an interval of 0 is the model's choice, log entry 21. -/
def Obligations.PushDoneMovesColumn : Prop :=
  ∀ s : State,
    (∀ loaded, s.cadence.operation = some (.push loaded) → s.cadence.line ≠ .purging → TrainOrdered s →
      s.tracker.exitRecord = none → LineKnown s →
      ∃ t, exec .pushDone s = .next t ∧ PushDoneLeaves loaded s t ∧
        (s.cadence.line ≠ .run → t.cadence.line = s.cadence.line ∧ t.cadence.operation = none)) ∧
    (∀ loaded, s.cadence.operation = some (.push loaded) → s.cadence.line = .purging → TrainOrdered s →
      s.tracker.exitRecord = none → LineKnown s → UnjudgedBelowExit s → PurgeInStep s →
      ∃ t, exec .pushDone s = .next t ∧ PushDoneLeaves loaded s t ∧ NoDemand t ∧
        (s.cadence.purgeStep < 13 → t.cadence.line = .purging ∧ t.cadence.operation = some .divert ∧
          t.cadence.purgeStep = s.cadence.purgeStep + 1 ∧ t.pins.divert = true ∧ t.pins.push = false) ∧
        (13 ≤ s.cadence.purgeStep → t.cadence.line = .stopped ∧ t.cadence.operation = none ∧
          t.cadence.purgeStep = 0 ∧ t.cadence.occupancyUnknown = false ∧ t.isPending .line = true)) ∧
    ((∀ loaded, s.cadence.operation ≠ some (.push loaded)) → exec .pushDone s = .next s)

/-- EXTRACT_DONE retires the exit billet's order DELIVERED, DIVERT_DONE with its reject verdict, or PURGED in a
purge, whose gap push then starts; the retirement is counted under its event and taken into batching. Premises:
the train is ordered and the record's order is IN_LINE. -/
def Obligations.ExitLeavesAndRetires : Prop :=
  ∀ s : State,
    (∀ r o, s.cadence.operation = some .extract → s.cadence.line ≠ .purging → TrainOrdered s →
      s.tracker.exitRecord = some r → s.ring.slots[r.slot] = .inLine o →
      ∃ t, exec .extractDone s = .next t ∧ ExitRetired .delivered r o s t) ∧
    (∀ r o v, s.cadence.operation = some .divert → s.cadence.line ≠ .purging → TrainOrdered s →
      s.tracker.exitRecord = some r → s.ring.slots[r.slot] = .inLine o → rejectOf r.verdict = some v →
      ∃ t, exec .divertDone s = .next t ∧ ExitRetired v r o s t) ∧
    (∀ r o, s.cadence.operation = some .divert → s.cadence.line = .purging → TrainOrdered s →
      s.tracker.exitRecord = some r → s.ring.slots[r.slot] = .inLine o →
      ∃ t, exec .divertDone s = .next t ∧ ExitRetired .purged r o s t ∧
        t.cadence.operation = some (.push none)) ∧
    (s.cadence.operation = some .divert → s.cadence.line = .purging → s.tracker.exitRecord = none →
      exec .divertDone s = .next (operationStarted
        { s with
          cadence := { s.cadence with exitVerdict := none }
          pins := { s.pins with
            push := false, skip := false, extract := false, divert := false, pressReady := false } }
        (.push none))) ∧
    (s.cadence.operation ≠ some .extract → exec .extractDone s = .next s) ∧
    (s.cadence.operation ≠ some .divert → exec .divertDone s = .next s)

/-- A handling timeout faults the line: the operation ended, every record SUSPECT, occupancy unknown; a push is
taken as done, its LOADING order IN_LINE and a record that arrives at 12 AWAITING_READING; an extraction loses
its mark and its call is declined; a diverted record keeps its reject verdict. That an expiry with no operation
in flight changes nothing is an inference, log entry 4. -/
def Obligations.HandlingTimeoutFaults : Prop :=
  ∀ s : State,
    (s.cadence.operation.isSome = true → s.cadence.handlingTimer.isSome = true →
      ∃ t, exec .handlingTimerExpiry s = .next t ∧ FaultLeaves s t) ∧
    (s.cadence.operation = none → exec .handlingTimerExpiry s = .next s)

/-- The minimum-push and cold-wait timers: an expiry lets the choice start a push, whose load decision skips the
orders marked NO_RECIPE, then loads the head or a gap, and may raise RING_LOW; a COLD_WAIT of 0 is expired at
once. Where the choice has nothing to start, the timer alone changes. That an expiry of a stopped timer changes
nothing is an inference, log entry 4. -/
def Obligations.WaitsEndInPushes : Prop :=
  ∀ s : State, PressReadyFollows s →
    (s.cadence.minPush.isSome = true → ChoicePushes { s.cadence with minPush := none } →
      exec .minPushTimerExpiry s =
        .next (pushStarted { s with cadence := { s.cadence with minPush := none } })) ∧
    (s.cadence.minPush.isSome = true → ChoiceIdle { s.cadence with minPush := none } →
      exec .minPushTimerExpiry s = .next { s with cadence := { s.cadence with minPush := none } }) ∧
    (s.cadence.minPush.isSome = true → s.cadence.line = .run → s.cadence.operation = none →
      s.cadence.exitVerdict = none → s.cadence.readiness = .notReady → s.cadence.coldWait = .stopped →
      (s.settings.coldWait ≠ 0 →
        exec .minPushTimerExpiry s = .next { s with cadence := { s.cadence with
          minPush := none, coldWait := .running ⟨s.tracker.clock, s.settings.coldWait⟩ } }) ∧
      (s.settings.coldWait = 0 →
        exec .minPushTimerExpiry s =
          .next (pushStarted { s with cadence := { s.cadence with minPush := none } }))) ∧
    (s.cadence.minPush = none → exec .minPushTimerExpiry s = .next s) ∧
    (∀ timer, s.cadence.coldWait = .running timer →
      (ChoicePushes { s.cadence with coldWait := .expired } → exec .coldWaitExpiry s = .next (pushStarted s)) ∧
      (ChoiceIdle { s.cadence with coldWait := .expired } →
        exec .coldWaitExpiry s = .next { s with cadence := { s.cadence with coldWait := .expired } })) ∧
    ((∀ timer, s.cadence.coldWait ≠ .running timer) → exec .coldWaitExpiry s = .next s)

/-- The batch delay's expiry raises ORDER_DONE for a count above 0; a fetch timeout removes the want and its
PENDING entry, marks the orders that wait for it NO_RECIPE, raises RECIPE_LOST and is counted. That an expiry of
a stopped timer and a fetch timeout of no want change nothing is an inference, log entry 4. -/
def Obligations.RingAndFetchTimeouts : Prop :=
  ∀ s : State,
    (s.ring.batchTimer.isSome = true → 0 < s.ring.batch →
      exec .batchDelayExpiry s = .next (sourcesRaised
        { s with ring := { s.ring with batch := 0, batchTimer := none } } 0b10#11)) ∧
    (s.ring.batchTimer.isSome = true → s.ring.batch = 0 →
      exec .batchDelayExpiry s = .next { s with ring := { s.ring with batchTimer := none } }) ∧
    (s.ring.batchTimer = none → exec .batchDelayExpiry s = .next s) ∧
    (∀ key w e, s.recipes.wants.find? (fun x => x.key = key) = some w →
      s.recipes.entries[w.entry] = some e → e.state = .pending →
      exec (.fetchTimeout key) s = .next (eventCounted (sourcesRaised
        { s with
          ring := { s.ring with
            slots := s.ring.slots.mapIdx (fun _ x => match x with
              | .queued o =>
                  .queued (if o.resolution = .recipe (.entry w.entry) then { o with resolution := .noRecipe }
                    else o)
              | x => x) }
          recipes := { s.recipes with
            entries := s.recipes.entries.set w.entry none
            wants := s.recipes.wants.filter (fun x => x.entry ≠ w.entry) } } 0b10000#11) 9)) ∧
    (∀ key, (∀ w ∈ s.recipes.wants, w.key ≠ key) → exec (.fetchTimeout key) s = .next s)

/-! ### Invariants -/

/-- Right after power-on, with the input levels of log entry 2, every invariant of the part holds. -/
def Obligations.ResetIsSound : Prop :=
  AlertFollows State.reset ∧ PortInOrder State.reset ∧
  LineLaws State.reset ∧ ConverterLaws State.reset ∧ RangeLaws State.reset ∧
  PressReadyFollows State.reset ∧ ColumnLaws State.reset ∧ TableLaws State.reset ∧
  TemperaturesInRange State.reset

/-- ALERT is asserted exactly while a source is pending and enabled, and a reply stands formed exactly while a request
is outstanding: every step keeps both. -/
def Obligations.AlertAndPortKept : Prop :=
  ∀ s t : State, AlertFollows s → PortInOrder s → step s = .next t → AlertFollows t ∧ PortInOrder t

/-- The line is in RUN with no hold cause and in HOLD with one, a call is pending and a cold wait stands only in RUN,
the tracker knows the line state, PRESS_READY stands at its level, the handling outputs follow the operation in
flight and a purge stands at a step with its operation: every step keeps all of it. -/
def Obligations.LineLawsKept : Prop :=
  ∀ s t : State, LineLaws s → step s = .next t → LineLaws t

/-- A zone is DELIVERING exactly in its slice, WAITING only with a claim and IDLE only without, no grant is left due,
every request flag is its zone's demand, and no stop waits outside a slice: every step keeps all of it. -/
def Obligations.ConverterLawsKept : Prop :=
  ∀ s t : State, ConverterLaws s → step s = .next t → ConverterLaws t

/-- Zone settings, budgets, block counts, line settings, the profile, the batch counter and the counters' selections
stay in the ranges of their tables. -/
def Obligations.RangesKept : Prop :=
  ∀ s t : State, RangeLaws s → step s = .next t → RangeLaws t

/-- The train is ordered, with no verdict below the exit; the ring's slots stand in one run behind its pointers;
records and IN_LINE orders match one to one; an order is LOADING exactly while its push is in flight, under an
empty exit whose verdict the cadence unit knows: every step keeps all of it. Premise: PRESS_READY stands at its
level, which `LineLawsKept` keeps. -/
def Obligations.ColumnLawsKept : Prop :=
  ∀ s t : State, PressReadyFollows s → ColumnLaws s → step s = .next t → ColumnLaws t

/-- Every use count is the number of orders resolved to its entry or window, no key stands twice, at most three ways
of a set are pinned, the want list is that of the PENDING entries, the write-back list holds no key twice,
parameters stay in range, and no billet is loaded without its recipe: every step keeps all of it. Premise: the
column's laws, which `ColumnLawsKept` keeps. -/
def Obligations.TableLawsKept : Prop :=
  ∀ s t : State, ColumnLaws s → TableLaws s → step s = .next t → TableLaws t

/-- Every step keeps every record's Tm within AMBIENT..25600 and its Sx within 0..4000: creation, update, heat
step and exit reading clamp them, and AMBIENT cannot change under a record. A thermal update and a heat step
keep them so whatever the recipe, the time and the share. Premise of the first: the settings are in range, which
`RangesKept` keeps. -/
def Obligations.TemperaturesStayInRange : Prop :=
  (∀ s t : State, SettingsInRange s → TemperaturesInRange s → step s = .next t → TemperaturesInRange t) ∧
  ∀ (s : State) (e : Nat) (r : BilletRecord), s.settings.ambient ≤ r.tm → r.tm ≤ 25600 → r.sx ≤ 4000 →
    (s.settings.ambient ≤ (s.updated r).tm ∧ (s.updated r).tm ≤ r.tm ∧ (s.updated r).sx ≤ r.sx) ∧
    (s.settings.ambient ≤ (s.heatStep e r).tm ∧ (s.heatStep e r).tm ≤ 25600 ∧ (s.heatStep e r).sx ≤ 4000) ∧
    s.heatStep e r = heated s e r
end

