-- ==== Sys2Proof/Laws/Decode.lean ====
section
/-! SUPPORT. The laws of the little-endian fields (R197): a number read back from the bytes that carry it is itself. -/

namespace Sys2Proof

set_option Elab.async false

theorem get8_put8 {n : Nat} (h : n < 256) : get8 (BitVec.ofNat 8 n) = n := by
  simp only [get8, BitVec.toNat_ofNat]; omega

theorem get16_put16 {n : Nat} (h : n < 65536) : get16 (BitVec.ofNat 8 n) (BitVec.ofNat 8 (n / 256)) = n := by
  simp only [get16, BitVec.toNat_ofNat]; omega

theorem get32_put32 {n : Nat} (h : n < 4294967296) :
    get32 (BitVec.ofNat 8 n) (BitVec.ofNat 8 (n / 256)) (BitVec.ofNat 8 (n / 65536))
      (BitVec.ofNat 8 (n / 65536 / 256)) = n := by
  simp only [get32, get16, BitVec.toNat_ofNat]; omega

/-- The two bytes of a signed field, as `putSigned` writes them. -/
theorem getSigned_putSigned {t : Int} (h : -32768 ≤ t ∧ t < 32768) :
    getSigned (BitVec.ofNat 8 (t % 65536).toNat) (BitVec.ofNat 8 ((t % 65536).toNat / 256)) = t := by
  have n : (t % 65536).toNat < 65536 := by omega
  simp only [getSigned, get16_put16 n]
  split <;> omega

theorem getKey_putKey (k : Key) : getKey k.size k.grade = k := rfl

end Sys2Proof
end

