-- ==== Sys2Proof/Laws/State.lean ====
section
/-! SUPPORT. What each primitive operation leaves alone: one frame lemma for each, a conjunction that simp takes as one
rewrite for each field of the state; and the fields it writes. -/

namespace Sys2Proof.Machine

set_option Elab.async false

/-! ### Frames -/

@[simp] theorem State.accept_frame (s : State) (data : List Byte) :
    (s.accept data).port = s.port ∧ (s.accept data).ring = s.ring ∧ (s.accept data).recipes = s.recipes ∧
    (s.accept data).tracker = s.tracker ∧ (s.accept data).arbiter = s.arbiter ∧
    (s.accept data).cadence = s.cadence ∧ (s.accept data).attention = s.attention ∧
    (s.accept data).counters = s.counters ∧ (s.accept data).settings = s.settings ∧
    (s.accept data).pins = s.pins ∧ (s.accept data).wires = s.wires ∧ (s.accept data).pending = s.pending :=
  ⟨rfl, rfl, rfl, rfl, rfl, rfl, rfl, rfl, rfl, rfl, rfl, rfl⟩

@[simp] theorem State.refuse_frame (s : State) (code : ResultCode) :
    (s.refuse code).port = s.port ∧ (s.refuse code).ring = s.ring ∧ (s.refuse code).recipes = s.recipes ∧
    (s.refuse code).tracker = s.tracker ∧ (s.refuse code).arbiter = s.arbiter ∧
    (s.refuse code).cadence = s.cadence ∧ (s.refuse code).attention = s.attention ∧
    (s.refuse code).counters = s.counters ∧ (s.refuse code).settings = s.settings ∧
    (s.refuse code).pins = s.pins ∧ (s.refuse code).wires = s.wires ∧ (s.refuse code).pending = s.pending :=
  ⟨rfl, rfl, rfl, rfl, rfl, rfl, rfl, rfl, rfl, rfl, rfl, rfl⟩

@[simp] theorem State.setAttention_frame (s : State) (a : Attention) :
    (s.setAttention a).port = s.port ∧ (s.setAttention a).ring = s.ring ∧
    (s.setAttention a).recipes = s.recipes ∧ (s.setAttention a).tracker = s.tracker ∧
    (s.setAttention a).arbiter = s.arbiter ∧ (s.setAttention a).cadence = s.cadence ∧
    (s.setAttention a).counters = s.counters ∧ (s.setAttention a).settings = s.settings ∧
    (s.setAttention a).wires = s.wires ∧ (s.setAttention a).reply = s.reply ∧
    (s.setAttention a).pending = s.pending :=
  ⟨rfl, rfl, rfl, rfl, rfl, rfl, rfl, rfl, rfl, rfl, rfl⟩

@[simp] theorem State.raise_frame (s : State) (x : Source) :
    (s.raise x).port = s.port ∧ (s.raise x).ring = s.ring ∧ (s.raise x).recipes = s.recipes ∧
    (s.raise x).tracker = s.tracker ∧ (s.raise x).arbiter = s.arbiter ∧ (s.raise x).cadence = s.cadence ∧
    (s.raise x).counters = s.counters ∧ (s.raise x).settings = s.settings ∧ (s.raise x).wires = s.wires ∧
    (s.raise x).reply = s.reply ∧ (s.raise x).pending = s.pending :=
  ⟨rfl, rfl, rfl, rfl, rfl, rfl, rfl, rfl, rfl, rfl, rfl⟩

@[simp] theorem State.count_frame (s : State) (e : CountedEvent) :
    (s.count e).port = s.port ∧ (s.count e).ring = s.ring ∧ (s.count e).recipes = s.recipes ∧
    (s.count e).tracker = s.tracker ∧ (s.count e).arbiter = s.arbiter ∧ (s.count e).cadence = s.cadence ∧
    (s.count e).attention = s.attention ∧ (s.count e).settings = s.settings ∧ (s.count e).pins = s.pins ∧
    (s.count e).wires = s.wires ∧ (s.count e).reply = s.reply ∧ (s.count e).pending = s.pending :=
  ⟨rfl, rfl, rfl, rfl, rfl, rfl, rfl, rfl, rfl, rfl, rfl, rfl⟩

@[simp] theorem State.updateZone_frame (s : State) (z : Fin 6) (f : Zone → Zone) :
    (s.updateZone z f).port = s.port ∧ (s.updateZone z f).ring = s.ring ∧
    (s.updateZone z f).recipes = s.recipes ∧ (s.updateZone z f).tracker = s.tracker ∧
    (s.updateZone z f).cadence = s.cadence ∧ (s.updateZone z f).attention = s.attention ∧
    (s.updateZone z f).counters = s.counters ∧ (s.updateZone z f).settings = s.settings ∧
    (s.updateZone z f).pins = s.pins ∧ (s.updateZone z f).wires = s.wires ∧
    (s.updateZone z f).reply = s.reply ∧ (s.updateZone z f).pending = s.pending :=
  ⟨rfl, rfl, rfl, rfl, rfl, rfl, rfl, rfl, rfl, rfl, rfl, rfl⟩

@[simp] theorem State.updateZones_frame (s : State) (f : Zone → Zone) :
    (s.updateZones f).port = s.port ∧ (s.updateZones f).ring = s.ring ∧
    (s.updateZones f).recipes = s.recipes ∧ (s.updateZones f).tracker = s.tracker ∧
    (s.updateZones f).cadence = s.cadence ∧ (s.updateZones f).attention = s.attention ∧
    (s.updateZones f).counters = s.counters ∧ (s.updateZones f).settings = s.settings ∧
    (s.updateZones f).pins = s.pins ∧ (s.updateZones f).wires = s.wires ∧
    (s.updateZones f).reply = s.reply ∧ (s.updateZones f).pending = s.pending :=
  ⟨rfl, rfl, rfl, rfl, rfl, rfl, rfl, rfl, rfl, rfl, rfl, rfl⟩

@[simp] theorem State.setEntry_frame (s : State) (i : Fin 32) (e : Option Entry) :
    (s.setEntry i e).port = s.port ∧ (s.setEntry i e).ring = s.ring ∧ (s.setEntry i e).tracker = s.tracker ∧
    (s.setEntry i e).arbiter = s.arbiter ∧ (s.setEntry i e).cadence = s.cadence ∧
    (s.setEntry i e).attention = s.attention ∧ (s.setEntry i e).counters = s.counters ∧
    (s.setEntry i e).settings = s.settings ∧ (s.setEntry i e).pins = s.pins ∧
    (s.setEntry i e).wires = s.wires ∧ (s.setEntry i e).reply = s.reply ∧
    (s.setEntry i e).pending = s.pending :=
  ⟨rfl, rfl, rfl, rfl, rfl, rfl, rfl, rfl, rfl, rfl, rfl, rfl⟩

@[simp] theorem State.setSlot_frame (s : State) (i : Fin 64) (x : Slot) :
    (s.setSlot i x).port = s.port ∧ (s.setSlot i x).recipes = s.recipes ∧
    (s.setSlot i x).tracker = s.tracker ∧ (s.setSlot i x).arbiter = s.arbiter ∧
    (s.setSlot i x).cadence = s.cadence ∧ (s.setSlot i x).attention = s.attention ∧
    (s.setSlot i x).counters = s.counters ∧ (s.setSlot i x).settings = s.settings ∧
    (s.setSlot i x).pins = s.pins ∧ (s.setSlot i x).wires = s.wires ∧ (s.setSlot i x).reply = s.reply ∧
    (s.setSlot i x).pending = s.pending :=
  ⟨rfl, rfl, rfl, rfl, rfl, rfl, rfl, rfl, rfl, rfl, rfl, rfl⟩

@[simp] theorem State.addUse_frame (s : State) (r : Resolution) :
    (s.addUse r).port = s.port ∧ (s.addUse r).ring = s.ring ∧ (s.addUse r).tracker = s.tracker ∧
    (s.addUse r).arbiter = s.arbiter ∧ (s.addUse r).cadence = s.cadence ∧
    (s.addUse r).attention = s.attention ∧ (s.addUse r).counters = s.counters ∧
    (s.addUse r).settings = s.settings ∧ (s.addUse r).pins = s.pins ∧ (s.addUse r).wires = s.wires ∧
    (s.addUse r).reply = s.reply ∧ (s.addUse r).pending = s.pending :=
  ⟨rfl, rfl, rfl, rfl, rfl, rfl, rfl, rfl, rfl, rfl, rfl, rfl⟩

@[simp] theorem State.dropUse_frame (s : State) (r : Resolution) :
    (s.dropUse r).port = s.port ∧ (s.dropUse r).ring = s.ring ∧ (s.dropUse r).tracker = s.tracker ∧
    (s.dropUse r).arbiter = s.arbiter ∧ (s.dropUse r).cadence = s.cadence ∧
    (s.dropUse r).attention = s.attention ∧ (s.dropUse r).counters = s.counters ∧
    (s.dropUse r).settings = s.settings ∧ (s.dropUse r).pins = s.pins ∧ (s.dropUse r).wires = s.wires ∧
    (s.dropUse r).reply = s.reply ∧ (s.dropUse r).pending = s.pending :=
  ⟨rfl, rfl, rfl, rfl, rfl, rfl, rfl, rfl, rfl, rfl, rfl, rfl⟩

@[simp] theorem State.updateTrain_frame (s : State) :
    (s.updateTrain).port = s.port ∧ (s.updateTrain).ring = s.ring ∧ (s.updateTrain).recipes = s.recipes ∧
    (s.updateTrain).arbiter = s.arbiter ∧ (s.updateTrain).cadence = s.cadence ∧
    (s.updateTrain).attention = s.attention ∧ (s.updateTrain).counters = s.counters ∧
    (s.updateTrain).settings = s.settings ∧ (s.updateTrain).pins = s.pins ∧
    (s.updateTrain).wires = s.wires ∧ (s.updateTrain).reply = s.reply ∧ (s.updateTrain).pending = s.pending :=
  ⟨rfl, rfl, rfl, rfl, rfl, rfl, rfl, rfl, rfl, rfl, rfl, rfl⟩

@[simp] theorem State.creditZone_frame (s : State) (z : Fin 6) (e : Nat) :
    (s.creditZone z e).port = s.port ∧ (s.creditZone z e).ring = s.ring ∧
    (s.creditZone z e).recipes = s.recipes ∧ (s.creditZone z e).arbiter = s.arbiter ∧
    (s.creditZone z e).cadence = s.cadence ∧ (s.creditZone z e).attention = s.attention ∧
    (s.creditZone z e).counters = s.counters ∧ (s.creditZone z e).settings = s.settings ∧
    (s.creditZone z e).pins = s.pins ∧ (s.creditZone z e).wires = s.wires ∧
    (s.creditZone z e).reply = s.reply ∧ (s.creditZone z e).pending = s.pending :=
  ⟨rfl, rfl, rfl, rfl, rfl, rfl, rfl, rfl, rfl, rfl, rfl, rfl⟩

@[simp] theorem State.setDemand_frame (s : State) (z : Fin 6) (d : Bool) :
    (s.setDemand z d).port = s.port ∧ (s.setDemand z d).ring = s.ring ∧
    (s.setDemand z d).recipes = s.recipes ∧ (s.setDemand z d).arbiter = s.arbiter ∧
    (s.setDemand z d).cadence = s.cadence ∧ (s.setDemand z d).attention = s.attention ∧
    (s.setDemand z d).counters = s.counters ∧ (s.setDemand z d).settings = s.settings ∧
    (s.setDemand z d).pins = s.pins ∧ (s.setDemand z d).wires = s.wires ∧
    (s.setDemand z d).reply = s.reply ∧ (s.setDemand z d).pending = s.pending :=
  ⟨rfl, rfl, rfl, rfl, rfl, rfl, rfl, rfl, rfl, rfl, rfl, rfl⟩

@[simp] theorem State.reportExit_frame (s : State) :
    (s.reportExit).port = s.port ∧ (s.reportExit).ring = s.ring ∧ (s.reportExit).recipes = s.recipes ∧
    (s.reportExit).tracker = s.tracker ∧ (s.reportExit).arbiter = s.arbiter ∧
    (s.reportExit).attention = s.attention ∧ (s.reportExit).counters = s.counters ∧
    (s.reportExit).settings = s.settings ∧ (s.reportExit).pins = s.pins ∧ (s.reportExit).wires = s.wires ∧
    (s.reportExit).reply = s.reply ∧ (s.reportExit).pending = s.pending :=
  ⟨rfl, rfl, rfl, rfl, rfl, rfl, rfl, rfl, rfl, rfl, rfl, rfl⟩

@[simp] theorem State.reportReadiness_frame (s : State) :
    (s.reportReadiness).port = s.port ∧ (s.reportReadiness).ring = s.ring ∧
    (s.reportReadiness).recipes = s.recipes ∧ (s.reportReadiness).tracker = s.tracker ∧
    (s.reportReadiness).arbiter = s.arbiter ∧ (s.reportReadiness).attention = s.attention ∧
    (s.reportReadiness).counters = s.counters ∧ (s.reportReadiness).settings = s.settings ∧
    (s.reportReadiness).pins = s.pins ∧ (s.reportReadiness).wires = s.wires ∧
    (s.reportReadiness).reply = s.reply ∧ (s.reportReadiness).pending = s.pending :=
  ⟨rfl, rfl, rfl, rfl, rfl, rfl, rfl, rfl, rfl, rfl, rfl, rfl⟩

@[simp] theorem State.advanceTrain_frame (s : State) :
    (s.advanceTrain).port = s.port ∧ (s.advanceTrain).ring = s.ring ∧ (s.advanceTrain).recipes = s.recipes ∧
    (s.advanceTrain).arbiter = s.arbiter ∧ (s.advanceTrain).cadence = s.cadence ∧
    (s.advanceTrain).attention = s.attention ∧ (s.advanceTrain).counters = s.counters ∧
    (s.advanceTrain).settings = s.settings ∧ (s.advanceTrain).pins = s.pins ∧
    (s.advanceTrain).wires = s.wires ∧ (s.advanceTrain).reply = s.reply ∧
    (s.advanceTrain).pending = s.pending :=
  ⟨rfl, rfl, rfl, rfl, rfl, rfl, rfl, rfl, rfl, rfl, rfl, rfl⟩

@[simp] theorem State.send_frame (s : State) (m : ConvMessage) :
    (s.send m).port = s.port ∧ (s.send m).ring = s.ring ∧ (s.send m).recipes = s.recipes ∧
    (s.send m).tracker = s.tracker ∧ (s.send m).arbiter = s.arbiter ∧ (s.send m).cadence = s.cadence ∧
    (s.send m).attention = s.attention ∧ (s.send m).counters = s.counters ∧
    (s.send m).settings = s.settings ∧ (s.send m).pins = s.pins ∧ (s.send m).reply = s.reply ∧
    (s.send m).pending = s.pending :=
  ⟨rfl, rfl, rfl, rfl, rfl, rfl, rfl, rfl, rfl, rfl, rfl, rfl⟩

@[simp] theorem State.orderSlice_frame (s : State) (z : Fin 6) (forced : Bool) (n : Nat) :
    (s.orderSlice z forced n).port = s.port ∧ (s.orderSlice z forced n).ring = s.ring ∧
    (s.orderSlice z forced n).recipes = s.recipes ∧ (s.orderSlice z forced n).tracker = s.tracker ∧
    (s.orderSlice z forced n).cadence = s.cadence ∧ (s.orderSlice z forced n).attention = s.attention ∧
    (s.orderSlice z forced n).counters = s.counters ∧ (s.orderSlice z forced n).settings = s.settings ∧
    (s.orderSlice z forced n).pins = s.pins ∧ (s.orderSlice z forced n).reply = s.reply ∧
    (s.orderSlice z forced n).pending = s.pending :=
  ⟨rfl, rfl, rfl, rfl, rfl, rfl, rfl, rfl, rfl, rfl, rfl⟩

@[simp] theorem State.clearSlice_frame (s : State) :
    (s.clearSlice).port = s.port ∧ (s.clearSlice).ring = s.ring ∧ (s.clearSlice).recipes = s.recipes ∧
    (s.clearSlice).tracker = s.tracker ∧ (s.clearSlice).cadence = s.cadence ∧
    (s.clearSlice).attention = s.attention ∧ (s.clearSlice).counters = s.counters ∧
    (s.clearSlice).settings = s.settings ∧ (s.clearSlice).pins = s.pins ∧ (s.clearSlice).wires = s.wires ∧
    (s.clearSlice).reply = s.reply ∧ (s.clearSlice).pending = s.pending :=
  ⟨rfl, rfl, rfl, rfl, rfl, rfl, rfl, rfl, rfl, rfl, rfl, rfl⟩

@[simp] theorem State.raiseOrderDone_frame (s : State) :
    (s.raiseOrderDone).port = s.port ∧ (s.raiseOrderDone).recipes = s.recipes ∧
    (s.raiseOrderDone).tracker = s.tracker ∧ (s.raiseOrderDone).arbiter = s.arbiter ∧
    (s.raiseOrderDone).cadence = s.cadence ∧ (s.raiseOrderDone).counters = s.counters ∧
    (s.raiseOrderDone).settings = s.settings ∧ (s.raiseOrderDone).wires = s.wires ∧
    (s.raiseOrderDone).reply = s.reply ∧ (s.raiseOrderDone).pending = s.pending :=
  ⟨rfl, rfl, rfl, rfl, rfl, rfl, rfl, rfl, rfl, rfl⟩

@[simp] theorem State.dropExit_frame (s : State) :
    (s.dropExit).port = s.port ∧ (s.dropExit).ring = s.ring ∧ (s.dropExit).recipes = s.recipes ∧
    (s.dropExit).arbiter = s.arbiter ∧ (s.dropExit).cadence = s.cadence ∧
    (s.dropExit).attention = s.attention ∧ (s.dropExit).counters = s.counters ∧
    (s.dropExit).settings = s.settings ∧ (s.dropExit).pins = s.pins ∧ (s.dropExit).wires = s.wires ∧
    (s.dropExit).reply = s.reply ∧ (s.dropExit).pending = s.pending :=
  ⟨rfl, rfl, rfl, rfl, rfl, rfl, rfl, rfl, rfl, rfl, rfl, rfl⟩

@[simp] theorem State.advanceLoad_frame (s : State) :
    (s.advanceLoad).port = s.port ∧ (s.advanceLoad).recipes = s.recipes ∧
    (s.advanceLoad).tracker = s.tracker ∧ (s.advanceLoad).arbiter = s.arbiter ∧
    (s.advanceLoad).cadence = s.cadence ∧ (s.advanceLoad).attention = s.attention ∧
    (s.advanceLoad).counters = s.counters ∧ (s.advanceLoad).settings = s.settings ∧
    (s.advanceLoad).pins = s.pins ∧ (s.advanceLoad).wires = s.wires ∧ (s.advanceLoad).reply = s.reply ∧
    (s.advanceLoad).pending = s.pending :=
  ⟨rfl, rfl, rfl, rfl, rfl, rfl, rfl, rfl, rfl, rfl, rfl, rfl⟩

@[simp] theorem State.skipPulse_frame (s : State) :
    (s.skipPulse).port = s.port ∧ (s.skipPulse).ring = s.ring ∧ (s.skipPulse).recipes = s.recipes ∧
    (s.skipPulse).tracker = s.tracker ∧ (s.skipPulse).arbiter = s.arbiter ∧
    (s.skipPulse).cadence = s.cadence ∧ (s.skipPulse).attention = s.attention ∧
    (s.skipPulse).counters = s.counters ∧ (s.skipPulse).settings = s.settings ∧
    (s.skipPulse).pins = s.pins ∧ (s.skipPulse).reply = s.reply ∧ (s.skipPulse).pending = s.pending :=
  ⟨rfl, rfl, rfl, rfl, rfl, rfl, rfl, rfl, rfl, rfl, rfl, rfl⟩

@[simp] theorem State.markNoRecipe_frame (s : State) (i : Fin 32) :
    (s.markNoRecipe i).port = s.port ∧ (s.markNoRecipe i).tracker = s.tracker ∧
    (s.markNoRecipe i).arbiter = s.arbiter ∧ (s.markNoRecipe i).cadence = s.cadence ∧
    (s.markNoRecipe i).attention = s.attention ∧ (s.markNoRecipe i).counters = s.counters ∧
    (s.markNoRecipe i).settings = s.settings ∧ (s.markNoRecipe i).pins = s.pins ∧
    (s.markNoRecipe i).wires = s.wires ∧ (s.markNoRecipe i).reply = s.reply ∧
    (s.markNoRecipe i).pending = s.pending :=
  ⟨rfl, rfl, rfl, rfl, rfl, rfl, rfl, rfl, rfl, rfl, rfl⟩

@[simp] theorem State.handOver_frame (s : State) (x : WritebackRecord) :
    (s.handOver x).port = s.port ∧ (s.handOver x).ring = s.ring ∧ (s.handOver x).tracker = s.tracker ∧
    (s.handOver x).arbiter = s.arbiter ∧ (s.handOver x).cadence = s.cadence ∧
    (s.handOver x).settings = s.settings ∧ (s.handOver x).wires = s.wires ∧ (s.handOver x).reply = s.reply ∧
    (s.handOver x).pending = s.pending :=
  ⟨rfl, rfl, rfl, rfl, rfl, rfl, rfl, rfl, rfl⟩

@[simp] theorem State.advanceReplacement_frame (s : State) :
    (s.advanceReplacement).port = s.port ∧ (s.advanceReplacement).ring = s.ring ∧
    (s.advanceReplacement).tracker = s.tracker ∧ (s.advanceReplacement).arbiter = s.arbiter ∧
    (s.advanceReplacement).cadence = s.cadence ∧ (s.advanceReplacement).attention = s.attention ∧
    (s.advanceReplacement).counters = s.counters ∧ (s.advanceReplacement).settings = s.settings ∧
    (s.advanceReplacement).pins = s.pins ∧ (s.advanceReplacement).wires = s.wires ∧
    (s.advanceReplacement).reply = s.reply ∧ (s.advanceReplacement).pending = s.pending :=
  ⟨rfl, rfl, rfl, rfl, rfl, rfl, rfl, rfl, rfl, rfl, rfl, rfl⟩

@[simp] theorem State.dropWant_frame (s : State) (i : Fin 32) :
    (s.dropWant i).port = s.port ∧ (s.dropWant i).ring = s.ring ∧ (s.dropWant i).tracker = s.tracker ∧
    (s.dropWant i).arbiter = s.arbiter ∧ (s.dropWant i).cadence = s.cadence ∧
    (s.dropWant i).attention = s.attention ∧ (s.dropWant i).counters = s.counters ∧
    (s.dropWant i).settings = s.settings ∧ (s.dropWant i).pins = s.pins ∧ (s.dropWant i).wires = s.wires ∧
    (s.dropWant i).reply = s.reply ∧ (s.dropWant i).pending = s.pending :=
  ⟨rfl, rfl, rfl, rfl, rfl, rfl, rfl, rfl, rfl, rfl, rfl, rfl⟩

@[simp] theorem State.settle_frame (s : State) :
    (s.settle).port = s.port ∧ (s.settle).ring = s.ring ∧ (s.settle).recipes = s.recipes ∧
    (s.settle).tracker = s.tracker ∧ (s.settle).arbiter = s.arbiter ∧ (s.settle).cadence = s.cadence ∧
    (s.settle).attention = s.attention ∧ (s.settle).counters = s.counters ∧
    (s.settle).settings = s.settings ∧ (s.settle).wires = s.wires ∧ (s.settle).reply = s.reply ∧
    (s.settle).pending = s.pending :=
  ⟨rfl, rfl, rfl, rfl, rfl, rfl, rfl, rfl, rfl, rfl, rfl, rfl⟩

@[simp] theorem State.decline_frame (s : State) :
    (s.decline).port = s.port ∧ (s.decline).ring = s.ring ∧ (s.decline).recipes = s.recipes ∧
    (s.decline).tracker = s.tracker ∧ (s.decline).arbiter = s.arbiter ∧ (s.decline).cadence = s.cadence ∧
    (s.decline).settings = s.settings ∧ (s.decline).reply = s.reply ∧ (s.decline).pending = s.pending :=
  ⟨rfl, rfl, rfl, rfl, rfl, rfl, rfl, rfl, rfl⟩

@[simp] theorem State.startOperation_frame (s : State) (o : Operation) :
    (s.startOperation o).port = s.port ∧ (s.startOperation o).ring = s.ring ∧
    (s.startOperation o).recipes = s.recipes ∧ (s.startOperation o).tracker = s.tracker ∧
    (s.startOperation o).arbiter = s.arbiter ∧ (s.startOperation o).attention = s.attention ∧
    (s.startOperation o).counters = s.counters ∧ (s.startOperation o).settings = s.settings ∧
    (s.startOperation o).wires = s.wires ∧ (s.startOperation o).reply = s.reply ∧
    (s.startOperation o).pending = s.pending :=
  ⟨rfl, rfl, rfl, rfl, rfl, rfl, rfl, rfl, rfl, rfl, rfl⟩

@[simp] theorem State.endOperation_frame (s : State) :
    (s.endOperation).port = s.port ∧ (s.endOperation).ring = s.ring ∧ (s.endOperation).recipes = s.recipes ∧
    (s.endOperation).tracker = s.tracker ∧ (s.endOperation).arbiter = s.arbiter ∧
    (s.endOperation).attention = s.attention ∧ (s.endOperation).counters = s.counters ∧
    (s.endOperation).settings = s.settings ∧ (s.endOperation).wires = s.wires ∧
    (s.endOperation).reply = s.reply ∧ (s.endOperation).pending = s.pending :=
  ⟨rfl, rfl, rfl, rfl, rfl, rfl, rfl, rfl, rfl, rfl, rfl⟩

@[simp] theorem State.stopColdWait_frame (s : State) :
    (s.stopColdWait).port = s.port ∧ (s.stopColdWait).ring = s.ring ∧ (s.stopColdWait).recipes = s.recipes ∧
    (s.stopColdWait).tracker = s.tracker ∧ (s.stopColdWait).arbiter = s.arbiter ∧
    (s.stopColdWait).attention = s.attention ∧ (s.stopColdWait).counters = s.counters ∧
    (s.stopColdWait).settings = s.settings ∧ (s.stopColdWait).pins = s.pins ∧
    (s.stopColdWait).wires = s.wires ∧ (s.stopColdWait).reply = s.reply ∧
    (s.stopColdWait).pending = s.pending :=
  ⟨rfl, rfl, rfl, rfl, rfl, rfl, rfl, rfl, rfl, rfl, rfl, rfl⟩

@[simp] theorem State.suspectAll_frame (s : State) :
    (s.suspectAll).port = s.port ∧ (s.suspectAll).ring = s.ring ∧ (s.suspectAll).recipes = s.recipes ∧
    (s.suspectAll).arbiter = s.arbiter ∧ (s.suspectAll).cadence = s.cadence ∧
    (s.suspectAll).attention = s.attention ∧ (s.suspectAll).counters = s.counters ∧
    (s.suspectAll).settings = s.settings ∧ (s.suspectAll).pins = s.pins ∧ (s.suspectAll).wires = s.wires ∧
    (s.suspectAll).reply = s.reply ∧ (s.suspectAll).pending = s.pending :=
  ⟨rfl, rfl, rfl, rfl, rfl, rfl, rfl, rfl, rfl, rfl, rfl, rfl⟩

@[simp] theorem State.setWindow_frame (s : State) (w : Fin 2) (x : Window) :
    (s.setWindow w x).port = s.port ∧ (s.setWindow w x).ring = s.ring ∧
    (s.setWindow w x).tracker = s.tracker ∧ (s.setWindow w x).arbiter = s.arbiter ∧
    (s.setWindow w x).cadence = s.cadence ∧ (s.setWindow w x).attention = s.attention ∧
    (s.setWindow w x).counters = s.counters ∧ (s.setWindow w x).settings = s.settings ∧
    (s.setWindow w x).pins = s.pins ∧ (s.setWindow w x).wires = s.wires ∧
    (s.setWindow w x).reply = s.reply ∧ (s.setWindow w x).pending = s.pending :=
  ⟨rfl, rfl, rfl, rfl, rfl, rfl, rfl, rfl, rfl, rfl, rfl, rfl⟩

@[simp] theorem State.setGuard_frame (s : State) (z : Fin 6) (level : Bool) :
    (s.setGuard z level).port = s.port ∧ (s.setGuard z level).ring = s.ring ∧
    (s.setGuard z level).recipes = s.recipes ∧ (s.setGuard z level).tracker = s.tracker ∧
    (s.setGuard z level).arbiter = s.arbiter ∧ (s.setGuard z level).cadence = s.cadence ∧
    (s.setGuard z level).attention = s.attention ∧ (s.setGuard z level).counters = s.counters ∧
    (s.setGuard z level).settings = s.settings ∧ (s.setGuard z level).wires = s.wires ∧
    (s.setGuard z level).reply = s.reply ∧ (s.setGuard z level).pending = s.pending :=
  ⟨rfl, rfl, rfl, rfl, rfl, rfl, rfl, rfl, rfl, rfl, rfl, rfl⟩

@[simp] theorem State.hunt_frame (s : State) :
    (s.hunt).ring = s.ring ∧ (s.hunt).recipes = s.recipes ∧ (s.hunt).tracker = s.tracker ∧
    (s.hunt).arbiter = s.arbiter ∧ (s.hunt).cadence = s.cadence ∧ (s.hunt).attention = s.attention ∧
    (s.hunt).counters = s.counters ∧ (s.hunt).settings = s.settings ∧ (s.hunt).pins = s.pins ∧
    (s.hunt).wires = s.wires ∧ (s.hunt).reply = s.reply ∧ (s.hunt).pending = s.pending :=
  ⟨rfl, rfl, rfl, rfl, rfl, rfl, rfl, rfl, rfl, rfl, rfl, rfl⟩

@[simp] theorem State.discardFrame_frame (s : State) :
    (s.discardFrame).ring = s.ring ∧ (s.discardFrame).recipes = s.recipes ∧
    (s.discardFrame).tracker = s.tracker ∧ (s.discardFrame).arbiter = s.arbiter ∧
    (s.discardFrame).cadence = s.cadence ∧ (s.discardFrame).attention = s.attention ∧
    (s.discardFrame).counters = s.counters ∧ (s.discardFrame).settings = s.settings ∧
    (s.discardFrame).pins = s.pins ∧ (s.discardFrame).wires = s.wires ∧ (s.discardFrame).reply = s.reply ∧
    (s.discardFrame).pending = s.pending :=
  ⟨rfl, rfl, rfl, rfl, rfl, rfl, rfl, rfl, rfl, rfl, rfl, rfl⟩

@[simp] theorem State.beginReply_frame (s : State) :
    (s.beginReply).ring = s.ring ∧ (s.beginReply).recipes = s.recipes ∧ (s.beginReply).tracker = s.tracker ∧
    (s.beginReply).arbiter = s.arbiter ∧ (s.beginReply).cadence = s.cadence ∧
    (s.beginReply).attention = s.attention ∧ (s.beginReply).counters = s.counters ∧
    (s.beginReply).settings = s.settings ∧ (s.beginReply).wires = s.wires ∧ (s.beginReply).reply = s.reply ∧
    (s.beginReply).pending = s.pending :=
  ⟨rfl, rfl, rfl, rfl, rfl, rfl, rfl, rfl, rfl, rfl, rfl⟩

@[simp] theorem State.endReply_frame (s : State) :
    (s.endReply).ring = s.ring ∧ (s.endReply).recipes = s.recipes ∧ (s.endReply).tracker = s.tracker ∧
    (s.endReply).arbiter = s.arbiter ∧ (s.endReply).cadence = s.cadence ∧
    (s.endReply).attention = s.attention ∧ (s.endReply).counters = s.counters ∧
    (s.endReply).settings = s.settings ∧ (s.endReply).wires = s.wires ∧ (s.endReply).reply = s.reply ∧
    (s.endReply).pending = s.pending ∧ (s.endReply).pins = { s.pins with linkDe := false } :=
  ⟨rfl, rfl, rfl, rfl, rfl, rfl, rfl, rfl, rfl, rfl, rfl, rfl⟩

@[simp] theorem State.endReply_port (s : State) :
    (s.endReply).port = { s.port with inbound := none, replyFrame := none, receiver := .hunting } := rfl

/-- All that the end of a reply can do: nothing with no request outstanding, the restart within it where the reply is
RESTART's own, and the end of the reply alone otherwise (R192, R207). -/
theorem replySent_cases (s : State) :
    (s.port.inbound = none ∧ replySent s = s) ∨
    (∃ f, s.port.inbound = some f ∧ s.port.restartDue = true ∧ asksRestart f = true ∧
      replySent s = s.endReply.restart) ∨
    (∃ f, s.port.inbound = some f ∧ (s.port.restartDue = false ∨ asksRestart f = false) ∧
      replySent s = s.endReply) := by
  unfold replySent Port.owesRestartReply
  cases s.port.inbound <;> cases s.port.restartDue <;> simp
  rename_i f
  cases asksRestart f <;> simp

/-- A frame asks for RESTART exactly when its bytes are dispatched as that request (R193). -/
theorem asksRestart_iff (f : Frame) : asksRestart f = true ↔ decodeRequest f.kind f.payload = .request .restart := by
  unfold asksRestart
  cases decodeRequest f.kind f.payload <;> simp

@[simp] theorem State.tick_frame (s : State) :
    (s.tick).port = s.port ∧ (s.tick).ring = s.ring ∧ (s.tick).recipes = s.recipes ∧
    (s.tick).arbiter = s.arbiter ∧ (s.tick).cadence = s.cadence ∧ (s.tick).attention = s.attention ∧
    (s.tick).counters = s.counters ∧ (s.tick).settings = s.settings ∧ (s.tick).pins = s.pins ∧
    (s.tick).wires = s.wires ∧ (s.tick).reply = s.reply ∧ (s.tick).pending = s.pending :=
  ⟨rfl, rfl, rfl, rfl, rfl, rfl, rfl, rfl, rfl, rfl, rfl, rfl⟩

@[simp] theorem State.raiseIf_frame (s : State) (b : Bool) (x : Source) :
    (s.raiseIf b x).port = s.port ∧ (s.raiseIf b x).ring = s.ring ∧ (s.raiseIf b x).recipes = s.recipes ∧
    (s.raiseIf b x).tracker = s.tracker ∧ (s.raiseIf b x).arbiter = s.arbiter ∧
    (s.raiseIf b x).cadence = s.cadence ∧ (s.raiseIf b x).counters = s.counters ∧
    (s.raiseIf b x).settings = s.settings ∧ (s.raiseIf b x).wires = s.wires ∧
    (s.raiseIf b x).reply = s.reply ∧ (s.raiseIf b x).pending = s.pending :=
  by unfold State.raiseIf; split <;> simp

@[simp] theorem State.updateExit_frame (s : State) (f : BilletRecord → BilletRecord) :
    (s.updateExit f).port = s.port ∧ (s.updateExit f).ring = s.ring ∧ (s.updateExit f).recipes = s.recipes ∧
    (s.updateExit f).arbiter = s.arbiter ∧ (s.updateExit f).cadence = s.cadence ∧
    (s.updateExit f).attention = s.attention ∧ (s.updateExit f).counters = s.counters ∧
    (s.updateExit f).settings = s.settings ∧ (s.updateExit f).pins = s.pins ∧
    (s.updateExit f).wires = s.wires ∧ (s.updateExit f).reply = s.reply ∧
    (s.updateExit f).pending = s.pending :=
  by unfold State.updateExit; repeat' split <;> simp

/-! ### The fields written -/

@[simp] theorem State.accept_reply (s : State) (data : List Byte) : (s.accept data).reply = some ⟨.ok, data⟩ := rfl

@[simp] theorem State.refuse_reply (s : State) (code : ResultCode) :
    (s.refuse code).reply = some ⟨code, []⟩ := rfl

@[simp] theorem State.setAttention_attention (s : State) (a : Attention) : (s.setAttention a).attention = a := rfl

@[simp] theorem State.setAttention_alert (s : State) (a : Attention) :
    (s.setAttention a).pins.alert = a.alertLevel := rfl

@[simp] theorem State.raise_enabled (s : State) (x : Source) :
    (s.raise x).attention.enabled = s.attention.enabled := rfl

@[simp] theorem State.raise_pending (s : State) (x : Source) :
    (s.raise x).attention.pending = s.attention.pending ||| x.bit := rfl

/-- Raising a source moves no level but ALERT. -/
@[simp] theorem State.raise_levels (s : State) (x : Source) :
    (s.raise x).pins = { s.pins with alert := (s.raise x).attention.alertLevel } := rfl

@[simp] theorem State.raiseIf_enabled (s : State) (b : Bool) (x : Source) :
    (s.raiseIf b x).attention.enabled = s.attention.enabled := by
  unfold State.raiseIf; split <;> simp

@[simp] theorem State.count_selection (s : State) (e : CountedEvent) (k : Nat) (h : k < 4) :
    ((s.count e).counters[k]'h).selection = (s.counters[k]'h).selection := by
  simp only [State.count, Vector.getElem_mapIdx, Counter.tick]; split <;> rfl

/-- One channel changed: the others are as they were. Simp reads a channel at the number of its index. -/
@[simp] theorem State.updateZone_at (s : State) (z : Fin 6) (f : Zone → Zone) (y : Nat) (h : y < 6) :
    (s.updateZone z f).arbiter.zones[y]'h =
      if z.val = y then f (s.arbiter.zones[z.val]'z.isLt) else s.arbiter.zones[y]'h := by
  simp only [State.updateZone, Fin.getElem_fin, Vector.getElem_set]

theorem State.updateZone_zones (s : State) (z y : Fin 6) (f : Zone → Zone) :
    (s.updateZone z f).arbiter.zones[y] = if z = y then f s.arbiter.zones[z] else s.arbiter.zones[y] := by
  simp only [State.updateZone, Fin.getElem_fin, Vector.getElem_set, Fin.ext_iff]

@[simp] theorem State.updateZone_global (s : State) (z : Fin 6) (f : Zone → Zone) :
    (s.updateZone z f).arbiter.enable = s.arbiter.enable ∧ (s.updateZone z f).arbiter.pause = s.arbiter.pause ∧
    (s.updateZone z f).arbiter.favour = s.arbiter.favour ∧
    (s.updateZone z f).arbiter.sequence = s.arbiter.sequence ∧
    (s.updateZone z f).arbiter.slice = s.arbiter.slice ∧
    (s.updateZone z f).arbiter.sliceTimer = s.arbiter.sliceTimer :=
  ⟨rfl, rfl, rfl, rfl, rfl, rfl⟩

@[simp] theorem State.updateZones_at (s : State) (f : Zone → Zone) (y : Nat) (h : y < 6) :
    (s.updateZones f).arbiter.zones[y]'h = f (s.arbiter.zones[y]'h) := by
  simp only [State.updateZones, Vector.getElem_mapIdx]

theorem State.updateZones_zones (s : State) (y : Fin 6) (f : Zone → Zone) :
    (s.updateZones f).arbiter.zones[y] = f s.arbiter.zones[y] := by
  simp only [State.updateZones, Fin.getElem_fin, Vector.getElem_mapIdx]

@[simp] theorem State.updateZones_global (s : State) (f : Zone → Zone) :
    (s.updateZones f).arbiter.enable = s.arbiter.enable ∧ (s.updateZones f).arbiter.pause = s.arbiter.pause ∧
    (s.updateZones f).arbiter.favour = s.arbiter.favour ∧
    (s.updateZones f).arbiter.sequence = s.arbiter.sequence ∧
    (s.updateZones f).arbiter.slice = s.arbiter.slice ∧
    (s.updateZones f).arbiter.sliceTimer = s.arbiter.sliceTimer :=
  ⟨rfl, rfl, rfl, rfl, rfl, rfl⟩

@[simp] theorem State.orderSlice_at (s : State) (z : Fin 6) (forced : Bool) (n y : Nat) (h : y < 6) :
    (s.orderSlice z forced n).arbiter.zones[y]'h =
      if z.val = y then { s.arbiter.zones[z.val]'z.isLt with state := .delivering, blockCount := n }
      else s.arbiter.zones[y]'h := by
  simp only [State.orderSlice, State.updateZone_at]; rfl

/-- What a slice order leaves at the channels (R58 step 6). -/
theorem State.orderSlice_zones (s : State) (z y : Fin 6) (forced : Bool) (n : Nat) :
    (s.orderSlice z forced n).arbiter.zones[y] =
      if z = y then { s.arbiter.zones[z] with state := .delivering, blockCount := n }
      else s.arbiter.zones[y] := by
  simp only [State.orderSlice, State.updateZone_zones]; rfl

@[simp] theorem State.orderSlice_slice (s : State) (z : Fin 6) (forced : Bool) (n : Nat) :
    (s.orderSlice z forced n).arbiter.slice =
      some ⟨s.arbiter.sequence + 1, z, s.effectiveSetpoint z, forced⟩ := rfl

@[simp] theorem State.orderSlice_global (s : State) (z : Fin 6) (forced : Bool) (n : Nat) :
    (s.orderSlice z forced n).arbiter.enable = s.arbiter.enable ∧
    (s.orderSlice z forced n).arbiter.pause = s.arbiter.pause ∧
    (s.orderSlice z forced n).arbiter.sequence = s.arbiter.sequence + 1 ∧
    (s.orderSlice z forced n).arbiter.sliceTimer = some (s.timer s.settings.sliceTimeout) :=
  ⟨rfl, rfl, rfl, rfl⟩

@[simp] theorem State.setEntry_at (s : State) (i : Fin 32) (e : Option Entry) (j : Nat) (h : j < 32) :
    (s.setEntry i e).recipes.entries[j]'h = if i.val = j then e else s.recipes.entries[j]'h := by
  simp only [State.setEntry, Vector.getElem_set]

theorem State.setEntry_entries (s : State) (i j : Fin 32) (e : Option Entry) :
    (s.setEntry i e).recipes.entries[j] = if i = j then e else s.recipes.entries[j] := by
  simp only [State.setEntry, Fin.getElem_fin, Vector.getElem_set, Fin.ext_iff]

@[simp] theorem State.setEntry_lists (s : State) (i : Fin 32) (e : Option Entry) :
    (s.setEntry i e).recipes.windows = s.recipes.windows ∧
    (s.setEntry i e).recipes.replacement = s.recipes.replacement ∧
    (s.setEntry i e).recipes.wants = s.recipes.wants ∧
    (s.setEntry i e).recipes.writebacks = s.recipes.writebacks :=
  ⟨rfl, rfl, rfl, rfl⟩

@[simp] theorem State.setSlot_at (s : State) (i : Fin 64) (x : Slot) (j : Nat) (h : j < 64) :
    (s.setSlot i x).ring.slots[j]'h = if i.val = j then x else s.ring.slots[j]'h := by
  simp only [State.setSlot, Vector.getElem_set]

theorem State.setSlot_slots (s : State) (i j : Fin 64) (x : Slot) :
    (s.setSlot i x).ring.slots[j] = if i = j then x else s.ring.slots[j] := by
  simp only [State.setSlot, Fin.getElem_fin, Vector.getElem_set, Fin.ext_iff]

@[simp] theorem State.setSlot_pointers (s : State) (i : Fin 64) (x : Slot) :
    (s.setSlot i x).ring.reclaim = s.ring.reclaim ∧ (s.setSlot i x).ring.load = s.ring.load ∧
    (s.setSlot i x).ring.tail = s.ring.tail ∧ (s.setSlot i x).ring.occupied = s.ring.occupied ∧
    (s.setSlot i x).ring.queued = s.ring.queued ∧ (s.setSlot i x).ring.batch = s.ring.batch ∧
    (s.setSlot i x).ring.batchTimer = s.ring.batchTimer :=
  ⟨rfl, rfl, rfl, rfl, rfl, rfl, rfl⟩

@[simp] theorem State.advanceLoad_ring (s : State) :
    s.advanceLoad.ring = { s.ring with load := s.ring.load + 1, queued := s.ring.queued - 1 } := rfl

@[simp] theorem State.settle_level (s : State) : s.settle.pins.pressReady = s.cadence.pressReadyLevel := rfl

@[simp] theorem State.updateTrain_tracker (s : State) :
    s.updateTrain.tracker = { s.tracker with train := s.tracker.train.map s.updated } := rfl

@[simp] theorem State.setDemand_tracker (s : State) (z : Fin 6) (d : Bool) :
    (s.setDemand z d).tracker = { s.tracker with demand := s.tracker.demand.set z d } := rfl

end Sys2Proof.Machine
end

