-- ==== Sys2Proof/Laws/Power.lean ====
section
/-! SUPPORT. The laws of the arbiter's shared operations: what a grant, an evaluation of demand, a credit exchange and a
supply loss can change. -/

namespace Sys2Proof.Machine

set_option Elab.async false

/-! ### Demand -/

@[simp] theorem Zone.arrive_same (c : Zone) :
    c.arrive.settings = c.settings ∧ c.arrive.paused = c.paused ∧ c.arrive.forced = c.forced ∧
    c.arrive.pendingEnd = c.pendingEnd ∧ c.arrive.blockCount = c.blockCount ∧
    c.arrive.stopCode = c.stopCode ∧ c.arrive.remaining = c.remaining :=
  ⟨rfl, rfl, rfl, rfl, rfl, rfl, rfl⟩

@[simp] theorem Zone.withdraw_same (c : Zone) :
    c.withdraw.settings = c.settings ∧ c.withdraw.paused = c.paused ∧ c.withdraw.forced = c.forced ∧
    c.withdraw.pendingEnd = c.pendingEnd ∧ c.withdraw.blockCount = c.blockCount ∧
    c.withdraw.stopCode = c.stopCode ∧ c.withdraw.remaining = c.remaining :=
  ⟨rfl, rfl, rfl, rfl, rfl, rfl, rfl⟩

/-- Demand is read from the train, the line state known to the tracker, the recipes, the settings and the zones'
settings alone (R35). -/
theorem State.demandNow_congr {s t : State} (z : Fin 6) (train : t.tracker.train = s.tracker.train)
    (line : t.tracker.line = s.tracker.line) (recipes : t.recipes = s.recipes)
    (settings : t.settings = s.settings)
    (zone : t.arbiter.zones[z].settings = s.arbiter.zones[z].settings) : t.demandNow z = s.demandNow z := by
  have body : t.bodyOf = s.bodyOf := by funext r; simp [State.bodyOf, recipes]
  have trim : t.trimOf = s.trimOf := by funext r; simp [State.trimOf, recipes]
  have guard : t.guarded = s.guarded := by funext e r; simp [State.guarded, body, trim]
  have below : t.belowTarget = s.belowTarget := by funext r; simp [State.belowTarget, line, settings]
  simp only [State.demandNow, State.guardQuery, Tracker.occupants, State.effectiveSetpoint, train, line,
    guard, below, settings, zone]

/-- An evaluation of a zone changes the demand flag and the channel of that zone at most (R36). -/
theorem State.evaluateZone_cases (s : State) (z : Fin 6) :
    (s.demandNow z = s.tracker.demand[z] ∧ s.evaluateZone z = s) ∨
    (s.demandNow z ≠ s.tracker.demand[z] ∧
      s.evaluateZone z = (s.setDemand z (s.demandNow z)).updateZone z
        (if s.demandNow z then Zone.arrive else Zone.withdraw)) := by
  unfold State.evaluateZone
  by_cases h : s.demandNow z = s.tracker.demand[z]
  · exact .inl ⟨h, by simp [h]⟩
  · exact .inr ⟨h, by simp only [h, if_false]⟩

@[simp] theorem State.evaluateZone_frame (s : State) (z : Fin 6) :
    (s.evaluateZone z).port = s.port ∧ (s.evaluateZone z).ring = s.ring ∧
    (s.evaluateZone z).recipes = s.recipes ∧ (s.evaluateZone z).cadence = s.cadence ∧
    (s.evaluateZone z).attention = s.attention ∧ (s.evaluateZone z).counters = s.counters ∧
    (s.evaluateZone z).settings = s.settings ∧ (s.evaluateZone z).pins = s.pins ∧
    (s.evaluateZone z).wires = s.wires ∧ (s.evaluateZone z).reply = s.reply ∧
    (s.evaluateZone z).pending = s.pending := by
  rcases s.evaluateZone_cases z with ⟨-, h⟩ | ⟨-, h⟩ <;> rw [h] <;> simp

/-- The tracker's fields but the demand flags are untouched by an evaluation. -/
@[simp] theorem State.evaluateZone_tracker (s : State) (z : Fin 6) :
    (s.evaluateZone z).tracker.train = s.tracker.train ∧
    (s.evaluateZone z).tracker.surveyTimer = s.tracker.surveyTimer ∧
    (s.evaluateZone z).tracker.readingTimer = s.tracker.readingTimer ∧
    (s.evaluateZone z).tracker.clock = s.tracker.clock ∧
    (s.evaluateZone z).tracker.line = s.tracker.line := by
  rcases s.evaluateZone_cases z with ⟨-, h⟩ | ⟨-, h⟩ <;> rw [h] <;> simp

/-- An evaluation changes no zone's settings. -/
@[simp] theorem State.evaluateZone_settings (s : State) (z : Fin 6) (y : Nat) (hy : y < 6) :
    ((s.evaluateZone z).arbiter.zones[y]'hy).settings = (s.arbiter.zones[y]'hy).settings := by
  rcases s.evaluateZone_cases z with ⟨-, h⟩ | ⟨-, h⟩ <;> rw [h]
  rw [State.updateZone_at]
  split
  · rename_i e; subst e; split <;> simp
  · simp

/-- An evaluation leaves the converter's global state. -/
@[simp] theorem State.evaluateZone_global (s : State) (z : Fin 6) :
    (s.evaluateZone z).arbiter.enable = s.arbiter.enable ∧
    (s.evaluateZone z).arbiter.pause = s.arbiter.pause ∧
    (s.evaluateZone z).arbiter.favour = s.arbiter.favour ∧
    (s.evaluateZone z).arbiter.sequence = s.arbiter.sequence ∧
    (s.evaluateZone z).arbiter.slice = s.arbiter.slice ∧
    (s.evaluateZone z).arbiter.sliceTimer = s.arbiter.sliceTimer := by
  rcases s.evaluateZone_cases z with ⟨-, h⟩ | ⟨-, h⟩ <;> rw [h] <;> simp

/-- An evaluation brings the demand flag of its zone up to date and touches no other (R36). -/
theorem State.evaluateZone_demand (s : State) (z y : Fin 6) :
    (s.evaluateZone z).tracker.demand[y] = if z = y then s.demandNow z else s.tracker.demand[y] := by
  rcases s.evaluateZone_cases z with ⟨e, h⟩ | ⟨-, h⟩
  · rw [h]; split
    · rename_i k; subst k; exact e.symm
    · rfl
  · rw [h]
    simp only [State.updateZone_frame, State.setDemand_tracker, Fin.getElem_fin, Vector.getElem_set,
      Fin.ext_iff]

/-- What one evaluation keeps, the evaluation of all six zones keeps. -/
theorem State.evaluateAll_induction {p : State → Prop} (s : State) (base : p s)
    (one : ∀ t z, p t → p (t.evaluateZone z)) : p s.evaluateAll := by
  have fold : ∀ (zones : List (Fin 6)) (t : State), p t → p (zones.foldl State.evaluateZone t) := by
    intro zones
    induction zones with
    | nil => exact fun t h => h
    | cons z rest ih => exact fun t h => ih _ (one t z h)
  exact fold allZones s base

@[simp] theorem State.evaluateAll_frame (s : State) :
    s.evaluateAll.port = s.port ∧ s.evaluateAll.ring = s.ring ∧ s.evaluateAll.recipes = s.recipes ∧
    s.evaluateAll.cadence = s.cadence ∧ s.evaluateAll.attention = s.attention ∧
    s.evaluateAll.counters = s.counters ∧ s.evaluateAll.settings = s.settings ∧
    s.evaluateAll.pins = s.pins ∧ s.evaluateAll.wires = s.wires ∧ s.evaluateAll.reply = s.reply ∧
    s.evaluateAll.pending = s.pending :=
  State.evaluateAll_induction (p := fun t => t.port = s.port ∧ t.ring = s.ring ∧ t.recipes = s.recipes ∧
    t.cadence = s.cadence ∧ t.attention = s.attention ∧ t.counters = s.counters ∧
    t.settings = s.settings ∧ t.pins = s.pins ∧ t.wires = s.wires ∧ t.reply = s.reply ∧
    t.pending = s.pending) s (by simp) (fun t z h => by simpa using h)

@[simp] theorem State.evaluateAll_tracker (s : State) :
    s.evaluateAll.tracker.train = s.tracker.train ∧
    s.evaluateAll.tracker.surveyTimer = s.tracker.surveyTimer ∧
    s.evaluateAll.tracker.readingTimer = s.tracker.readingTimer ∧
    s.evaluateAll.tracker.clock = s.tracker.clock ∧ s.evaluateAll.tracker.line = s.tracker.line :=
  State.evaluateAll_induction (p := fun t => t.tracker.train = s.tracker.train ∧
    t.tracker.surveyTimer = s.tracker.surveyTimer ∧ t.tracker.readingTimer = s.tracker.readingTimer ∧
    t.tracker.clock = s.tracker.clock ∧ t.tracker.line = s.tracker.line) s (by simp)
    (fun t z h => by simpa using h)

@[simp] theorem State.evaluateAll_global (s : State) :
    s.evaluateAll.arbiter.enable = s.arbiter.enable ∧ s.evaluateAll.arbiter.pause = s.arbiter.pause ∧
    s.evaluateAll.arbiter.favour = s.arbiter.favour ∧
    s.evaluateAll.arbiter.sequence = s.arbiter.sequence ∧
    s.evaluateAll.arbiter.slice = s.arbiter.slice ∧
    s.evaluateAll.arbiter.sliceTimer = s.arbiter.sliceTimer :=
  State.evaluateAll_induction (p := fun t => t.arbiter.enable = s.arbiter.enable ∧
    t.arbiter.pause = s.arbiter.pause ∧ t.arbiter.favour = s.arbiter.favour ∧
    t.arbiter.sequence = s.arbiter.sequence ∧ t.arbiter.slice = s.arbiter.slice ∧
    t.arbiter.sliceTimer = s.arbiter.sliceTimer) s (by simp) (fun t z h => by simpa using h)

@[simp] theorem State.evaluateAll_settings (s : State) (y : Nat) (hy : y < 6) :
    (s.evaluateAll.arbiter.zones[y]'hy).settings = (s.arbiter.zones[y]'hy).settings :=
  State.evaluateAll_induction
    (p := fun t => (t.arbiter.zones[y]'hy).settings = (s.arbiter.zones[y]'hy).settings) s rfl
    (fun t z h => by simpa using h)

/-- After the evaluation of all six zones every demand flag is the demand as it now is (R37). -/
theorem State.evaluateAll_demand (s : State) (y : Fin 6) : s.evaluateAll.tracker.demand[y] = s.demandNow y := by
  have same : ∀ (t : State) (z : Fin 6), (t.evaluateZone z).demandNow y = t.demandNow y := by
    intro t z
    exact State.demandNow_congr y (by simp) (by simp) (by simp) (by simp) (by simp)
  have fold : ∀ (zones : List (Fin 6)) (t : State),
      (zones.foldl State.evaluateZone t).tracker.demand[y] =
        if y ∈ zones then t.demandNow y else t.tracker.demand[y] := by
    intro zones
    induction zones with
    | nil => intro t; simp
    | cons z rest ih =>
      intro t
      rw [List.foldl_cons, ih, same, State.evaluateZone_demand]
      by_cases hr : y ∈ rest
      · simp [hr]
      · by_cases hz : z = y
        · subst hz; simp
        · have : ¬ y = z := fun e => hz e.symm
          simp [hr, hz, this]
  have all : ∀ z : Fin 6, z ∈ allZones := by decide
  have h := fold allZones s
  rwa [if_pos (all y)] at h

/-! ### Grants -/

/-- A grant changes the arbiter and what is sent on CONV_TX, and nothing else (R58). -/
theorem State.grantAmong_frame (s : State) (zones : List (Fin 6)) :
    ∃ a w, s.grantAmong zones = { s with arbiter := a, wires := { s.wires with convTx := w } } := by
  induction zones generalizing s with
  | nil => exact ⟨s.arbiter, s.wires.convTx, rfl⟩
  | cons z rest ih =>
    unfold State.grantAmong
    split
    · split
      · split
        · dsimp only
          split
          · exact ⟨_, _, rfl⟩
          · obtain ⟨a, w, h⟩ := ih (s.updateZone z Zone.dropDose)
            exact ⟨a, w, h⟩
        · exact ⟨_, _, rfl⟩
      · exact ⟨_, _, rfl⟩
    · exact ih s

theorem State.grant_eq (s : State) :
    ∃ a w, s.grant = { s with arbiter := a, wires := { s.wires with convTx := w } } := by
  unfold State.grant
  split
  · exact s.grantAmong_frame _
  · exact ⟨s.arbiter, s.wires.convTx, rfl⟩

@[simp] theorem State.grant_frame (s : State) :
    s.grant.port = s.port ∧ s.grant.ring = s.ring ∧ s.grant.recipes = s.recipes ∧
    s.grant.tracker = s.tracker ∧ s.grant.cadence = s.cadence ∧ s.grant.attention = s.attention ∧
    s.grant.counters = s.counters ∧ s.grant.settings = s.settings ∧ s.grant.pins = s.pins ∧
    s.grant.reply = s.reply ∧ s.grant.pending = s.pending ∧
    s.grant.wires.skipPulses = s.wires.skipPulses ∧
    s.grant.wires.declinePulses = s.wires.declinePulses := by
  obtain ⟨a, w, h⟩ := s.grant_eq
  rw [h]; simp

/-- What a grant keeps of every channel: its settings, budget, pause, request, stop code and totals. -/
def Zone.kept (c : Zone) :=
  (c.settings, c.request, c.paused, c.pendingEnd, c.stopCode, c.remaining, c.slicesCompleted,
    c.energyDelivered, c.energyUncredited)

theorem State.grantAmong_zones (s : State) (zones : List (Fin 6)) (y : Fin 6) :
    (s.grantAmong zones).arbiter.zones[y].kept = s.arbiter.zones[y].kept ∧
    (s.grantAmong zones).arbiter.enable = s.arbiter.enable ∧
    (s.grantAmong zones).arbiter.pause = s.arbiter.pause := by
  induction zones generalizing s with
  | nil => exact ⟨rfl, rfl, rfl⟩
  | cons z rest ih =>
    have order : ∀ (t : State) (f : Bool) (n : Nat),
        (t.orderSlice z f n).arbiter.zones[y].kept = t.arbiter.zones[y].kept := by
      intro t f n
      rw [State.orderSlice_zones]
      split
      · rename_i e; subst e; rfl
      · rfl
    have drop : (s.updateZone z Zone.dropDose).arbiter.zones[y].kept = s.arbiter.zones[y].kept := by
      rw [State.updateZone_zones]
      split
      · rename_i e; subst e; rfl
      · rfl
    have clear : (s.updateZone z (fun c => { c with forced := false })).arbiter.zones[y].kept =
        s.arbiter.zones[y].kept := by
      rw [State.updateZone_zones]
      split
      · rename_i e; subst e; rfl
      · rfl
    unfold State.grantAmong
    split
    · split
      · split
        · dsimp only
          split
          · exact ⟨(order _ _ _).trans drop, rfl, rfl⟩
          · exact ⟨(ih _).1.trans drop, (ih _).2.1, (ih _).2.2⟩
        · exact ⟨(order _ _ _).trans clear, rfl, rfl⟩
      · exact ⟨order _ _ _, rfl, rfl⟩
    · exact ih s

/-- A grant keeps every channel's settings, budget, pause, request, stop code and totals, and the converter's enable
and pause. -/
theorem State.grant_zones (s : State) (y : Fin 6) :
    s.grant.arbiter.zones[y].kept = s.arbiter.zones[y].kept ∧
    s.grant.arbiter.enable = s.arbiter.enable ∧ s.grant.arbiter.pause = s.arbiter.pause := by
  unfold State.grant
  split
  · exact s.grantAmong_zones _ y
  · exact ⟨rfl, rfl, rfl⟩

@[simp] theorem State.grant_settings (s : State) (y : Nat) (hy : y < 6) :
    (s.grant.arbiter.zones[y]'hy).settings = (s.arbiter.zones[y]'hy).settings := by
  have h := (s.grant_zones ⟨y, hy⟩).1; simp only [Zone.kept, Prod.mk.injEq] at h; exact h.1

/-- With a slice in flight, global enable clear or global pause set, no grant is made (R56). -/
theorem State.grant_closed (s : State) (h : s.arbiter.mayGrant = false) : s.grant = s := by
  simp [State.grant, h]

/-- With no zone eligible, no grant is made (R56). -/
theorem State.grant_none (s : State) (h : ∀ z : Fin 6, s.arbiter.zones[z].eligible = false) : s.grant = s := by
  have none : ∀ zones : List (Fin 6), s.grantAmong zones = s := by
    intro zones
    induction zones with
    | nil => rfl
    | cons z rest ih =>
      unfold State.grantAmong
      rw [h z, if_neg Bool.false_ne_true]
      exact ih
  unfold State.grant
  split
  · exact none _
  · rfl

/-! ### Halts, spending and the end of a slice -/

@[simp] theorem State.haltZone_frame (s : State) (z : Fin 6) :
    (s.haltZone z).port = s.port ∧ (s.haltZone z).ring = s.ring ∧ (s.haltZone z).recipes = s.recipes ∧
    (s.haltZone z).tracker = s.tracker ∧ (s.haltZone z).cadence = s.cadence ∧
    (s.haltZone z).settings = s.settings ∧ (s.haltZone z).wires = s.wires ∧
    (s.haltZone z).reply = s.reply ∧ (s.haltZone z).pending = s.pending ∧
    (s.haltZone z).attention.enabled = s.attention.enabled := by
  simp [State.haltZone]

@[simp] theorem State.spendZone_frame (s : State) (z : Fin 6) :
    (s.spendZone z).port = s.port ∧ (s.spendZone z).ring = s.ring ∧ (s.spendZone z).recipes = s.recipes ∧
    (s.spendZone z).tracker = s.tracker ∧ (s.spendZone z).cadence = s.cadence ∧
    (s.spendZone z).counters = s.counters ∧ (s.spendZone z).settings = s.settings ∧
    (s.spendZone z).wires = s.wires ∧ (s.spendZone z).reply = s.reply ∧
    (s.spendZone z).pending = s.pending ∧ (s.spendZone z).attention.enabled = s.attention.enabled := by
  simp [State.spendZone]

/-- The decision after a slice leaves the train, the recipes, the ring and the cadence unit alone (R62). -/
@[simp] theorem State.decideZone_frame (s : State) (z : Fin 6) (forced : Bool) :
    (s.decideZone z forced).port = s.port ∧ (s.decideZone z forced).ring = s.ring ∧
    (s.decideZone z forced).recipes = s.recipes ∧ (s.decideZone z forced).tracker = s.tracker ∧
    (s.decideZone z forced).cadence = s.cadence ∧ (s.decideZone z forced).settings = s.settings ∧
    (s.decideZone z forced).reply = s.reply ∧ (s.decideZone z forced).pending = s.pending ∧
    (s.decideZone z forced).attention.enabled = s.attention.enabled := by
  unfold State.decideZone
  dsimp only
  repeat' split
  all_goals simp

/-- A credit exchange changes the train, the demand flag and the channel of its zone, and the readiness that a
credit to zone 6 reports (R39). -/
@[simp] theorem State.creditExchange_frame (s : State) (z : Fin 6) (e : Nat) :
    (s.creditExchange z e).port = s.port ∧ (s.creditExchange z e).ring = s.ring ∧
    (s.creditExchange z e).recipes = s.recipes ∧ (s.creditExchange z e).attention = s.attention ∧
    (s.creditExchange z e).counters = s.counters ∧ (s.creditExchange z e).settings = s.settings ∧
    (s.creditExchange z e).pins = s.pins ∧ (s.creditExchange z e).wires = s.wires ∧
    (s.creditExchange z e).reply = s.reply ∧ (s.creditExchange z e).pending = s.pending := by
  unfold State.creditExchange
  dsimp only
  split <;> simp

@[simp] theorem State.closeSlice_frame (s : State) (x : SliceRecord) (e : Nat) :
    (s.closeSlice x e).port = s.port ∧ (s.closeSlice x e).ring = s.ring ∧
    (s.closeSlice x e).recipes = s.recipes ∧ (s.closeSlice x e).attention = s.attention ∧
    (s.closeSlice x e).counters = s.counters ∧ (s.closeSlice x e).settings = s.settings ∧
    (s.closeSlice x e).pins = s.pins ∧ (s.closeSlice x e).wires = s.wires ∧
    (s.closeSlice x e).reply = s.reply ∧ (s.closeSlice x e).pending = s.pending := by
  simp [State.closeSlice]

@[simp] theorem State.loseSupply_frame (s : State) (energy : SliceRecord → Nat) :
    (s.loseSupply energy).port = s.port ∧ (s.loseSupply energy).ring = s.ring ∧
    (s.loseSupply energy).recipes = s.recipes ∧ (s.loseSupply energy).settings = s.settings ∧
    (s.loseSupply energy).wires = s.wires ∧ (s.loseSupply energy).reply = s.reply ∧
    (s.loseSupply energy).pending = s.pending ∧
    (s.loseSupply energy).attention.enabled = s.attention.enabled := by
  unfold State.loseSupply
  cases s.arbiter.slice <;> simp

end Sys2Proof.Machine
end

