-- ==== Sys2Proof/Laws/Orders.lean ====
section
/-! SUPPORT. The laws of the order ring's and the recipe table's shared operations: what a retirement, a load decision, a
withdrawal, a hand-over, an eviction and a learning step can change. -/

namespace Sys2Proof.Machine

set_option Elab.async false

/-! ### Batching and retirement -/

@[simp] theorem State.batch_frame (s : State) (order : BilletOrder) :
    (s.batch order).port = s.port ∧ (s.batch order).recipes = s.recipes ∧
    (s.batch order).tracker = s.tracker ∧ (s.batch order).arbiter = s.arbiter ∧
    (s.batch order).cadence = s.cadence ∧ (s.batch order).counters = s.counters ∧
    (s.batch order).settings = s.settings ∧ (s.batch order).wires = s.wires ∧
    (s.batch order).reply = s.reply ∧ (s.batch order).pending = s.pending := by
  unfold State.batch
  dsimp only
  cases order.report <;> cases order.delay <;> simp only [if_true, if_false, Bool.false_eq_true] <;>
    split <;> simp

/-- Batching changes the batch counter and its timer, never a slot or a pointer (R135). -/
@[simp] theorem State.batch_ring (s : State) (order : BilletOrder) :
    (s.batch order).ring.slots = s.ring.slots ∧ (s.batch order).ring.reclaim = s.ring.reclaim ∧
    (s.batch order).ring.load = s.ring.load ∧ (s.batch order).ring.tail = s.ring.tail ∧
    (s.batch order).ring.occupied = s.ring.occupied ∧ (s.batch order).ring.queued = s.ring.queued := by
  unfold State.batch
  dsimp only
  cases order.report <;> cases order.delay <;> simp only [if_true, if_false, Bool.false_eq_true] <;>
    split <;> exact ⟨rfl, rfl, rfl, rfl, rfl, rfl⟩

@[simp] theorem State.batch_attention (s : State) (order : BilletOrder) :
    (s.batch order).attention.enabled = s.attention.enabled := by
  unfold State.batch
  dsimp only
  cases order.report <;> cases order.delay <;> simp only [if_true, if_false, Bool.false_eq_true] <;>
    split <;> rfl

@[simp] theorem State.countRetirement_frame (s : State) (v : OrderVerdict) :
    (s.countRetirement v).port = s.port ∧ (s.countRetirement v).ring = s.ring ∧
    (s.countRetirement v).recipes = s.recipes ∧ (s.countRetirement v).tracker = s.tracker ∧
    (s.countRetirement v).arbiter = s.arbiter ∧ (s.countRetirement v).cadence = s.cadence ∧
    (s.countRetirement v).attention = s.attention ∧ (s.countRetirement v).settings = s.settings ∧
    (s.countRetirement v).pins = s.pins ∧ (s.countRetirement v).wires = s.wires ∧
    (s.countRetirement v).reply = s.reply ∧ (s.countRetirement v).pending = s.pending := by
  cases v <;> simp [State.countRetirement, OrderVerdict.counted]

@[simp] theorem State.afterRetirement_frame (s : State) (order : BilletOrder) (v : OrderVerdict) :
    (s.afterRetirement order v).port = s.port ∧ (s.afterRetirement order v).recipes = s.recipes ∧
    (s.afterRetirement order v).tracker = s.tracker ∧ (s.afterRetirement order v).arbiter = s.arbiter ∧
    (s.afterRetirement order v).cadence = s.cadence ∧ (s.afterRetirement order v).settings = s.settings ∧
    (s.afterRetirement order v).wires = s.wires ∧ (s.afterRetirement order v).reply = s.reply ∧
    (s.afterRetirement order v).pending = s.pending ∧
    (s.afterRetirement order v).attention.enabled = s.attention.enabled ∧
    (s.afterRetirement order v).ring.slots = s.ring.slots ∧
    (s.afterRetirement order v).ring.reclaim = s.ring.reclaim ∧
    (s.afterRetirement order v).ring.load = s.ring.load ∧
    (s.afterRetirement order v).ring.tail = s.ring.tail ∧
    (s.afterRetirement order v).ring.occupied = s.ring.occupied ∧
    (s.afterRetirement order v).ring.queued = s.ring.queued := by
  unfold State.afterRetirement
  dsimp only
  split <;> simp

/-- What a retirement leaves alone, whatever the slot holds (R132). -/
@[simp] theorem State.retire_frame (s : State) (slot : Fin 64) (status : StatusRecord) :
    (s.retire slot status).port = s.port ∧ (s.retire slot status).tracker = s.tracker ∧
    (s.retire slot status).arbiter = s.arbiter ∧ (s.retire slot status).cadence = s.cadence ∧
    (s.retire slot status).settings = s.settings ∧ (s.retire slot status).wires = s.wires ∧
    (s.retire slot status).reply = s.reply ∧ (s.retire slot status).pending = s.pending ∧
    (s.retire slot status).attention.enabled = s.attention.enabled ∧
    (s.retire slot status).ring.reclaim = s.ring.reclaim ∧
    (s.retire slot status).ring.load = s.ring.load ∧ (s.retire slot status).ring.tail = s.ring.tail ∧
    (s.retire slot status).ring.occupied = s.ring.occupied ∧
    (s.retire slot status).ring.queued = s.ring.queued := by
  unfold State.retire
  split <;> simp

/-- A retirement makes its slot DONE with the status record given, and changes no other slot (R132). -/
theorem State.retire_slots (s : State) (slot i : Fin 64) (status : StatusRecord) :
    (s.retire slot status).ring.slots[i] =
      if slot = i then
        match s.ring.slots[slot] with
        | .inLine order | .loading order | .queued order => .done order status
        | x => x
      else s.ring.slots[i] := by
  unfold State.retire
  split
  all_goals (rename_i e; by_cases h : slot = i)
  all_goals first
    | (subst h; simp only [State.afterRetirement_frame, State.dropUse_frame, State.setSlot_slots, if_true,
        e])
    | simp only [State.afterRetirement_frame, State.dropUse_frame, State.setSlot_slots, h, if_false]

/-! ### The load decision -/

/-- RING_LOW moves the attention sets and the ALERT level at most (R138). -/
@[simp] theorem State.ringLow_frame (s : State) (before : Nat) :
    (s.ringLow before).port = s.port ∧ (s.ringLow before).ring = s.ring ∧
    (s.ringLow before).recipes = s.recipes ∧ (s.ringLow before).tracker = s.tracker ∧
    (s.ringLow before).arbiter = s.arbiter ∧ (s.ringLow before).cadence = s.cadence ∧
    (s.ringLow before).counters = s.counters ∧ (s.ringLow before).settings = s.settings ∧
    (s.ringLow before).wires = s.wires ∧ (s.ringLow before).reply = s.reply ∧
    (s.ringLow before).pending = s.pending ∧
    (s.ringLow before).attention.enabled = s.attention.enabled := by
  simp [State.ringLow]

/-- The retirement of a QUEUED order marked NO_RECIPE lowers no use count (R132). -/
theorem State.retire_queued_recipes (s : State) (slot : Fin 64) (status : StatusRecord) (order : BilletOrder)
    (h : s.ring.slots[slot] = .queued order) : (s.retire slot status).recipes = s.recipes := by
  unfold State.retire
  split
  all_goals rename_i e; rw [h] at e
  all_goals first
    | (cases e; done)
    | simp

/-- The skips of a push start change the ring, the attention sets, the counters and the count of skip pulses (R129). -/
theorem State.skipHeads_frame (s : State) (n : Nat) :
    (s.skipHeads n).port = s.port ∧ (s.skipHeads n).recipes = s.recipes ∧
    (s.skipHeads n).tracker = s.tracker ∧ (s.skipHeads n).arbiter = s.arbiter ∧
    (s.skipHeads n).cadence = s.cadence ∧ (s.skipHeads n).settings = s.settings ∧
    (s.skipHeads n).reply = s.reply ∧ (s.skipHeads n).pending = s.pending ∧
    (s.skipHeads n).attention.enabled = s.attention.enabled ∧
    (s.skipHeads n).ring.reclaim = s.ring.reclaim ∧ (s.skipHeads n).ring.tail = s.ring.tail ∧
    (s.skipHeads n).ring.occupied = s.ring.occupied := by
  induction n generalizing s with
  | zero => simp [State.skipHeads]
  | succ n ih =>
    unfold State.skipHeads
    split
    · rename_i order h
      split
      · have hr := s.retire_queued_recipes s.ring.load (emptyStatus .noRecipe) order h
        have := ih (((s.retire s.ring.load (emptyStatus .noRecipe)).advanceLoad).skipPulse)
        simp only [State.skipPulse_frame, State.advanceLoad_frame, State.advanceLoad_ring,
          State.retire_frame, hr] at this
        exact this
      · simp
    all_goals simp

/-- A load decision changes the ring, the attention sets, the counters and the count of skip pulses; the order it
loads is in the slot it answers (R129). -/
theorem State.loadDecision_frame (s : State) :
    s.loadDecision.1.port = s.port ∧ s.loadDecision.1.recipes = s.recipes ∧
    s.loadDecision.1.tracker = s.tracker ∧ s.loadDecision.1.arbiter = s.arbiter ∧
    s.loadDecision.1.cadence = s.cadence ∧ s.loadDecision.1.settings = s.settings ∧
    s.loadDecision.1.reply = s.reply ∧ s.loadDecision.1.pending = s.pending ∧
    s.loadDecision.1.attention.enabled = s.attention.enabled ∧
    s.loadDecision.1.ring.reclaim = s.ring.reclaim ∧ s.loadDecision.1.ring.tail = s.ring.tail ∧
    s.loadDecision.1.ring.occupied = s.ring.occupied := by
  have h := s.skipHeads_frame s.ring.queued
  unfold State.loadDecision
  split
  · simp
  · dsimp only
    split
    · simp only [State.ringLow_frame, State.advanceLoad_frame, State.advanceLoad_ring, State.setSlot_frame,
        State.setSlot_pointers]
      exact h
    · simp only [State.ringLow_frame]
      exact h

/-! ### Withdraw and reclaim -/

/-- A withdrawal changes the ring and the use counts at most (R126). -/
theorem State.withdrawNewest_frame (s : State) (n : Nat) :
    ∃ ring recipes, (s.withdrawNewest n).1 = { s with ring := ring, recipes := recipes } := by
  induction n generalizing s with
  | zero => exact ⟨_, _, rfl⟩
  | succ n ih =>
    unfold State.withdrawNewest
    dsimp only
    split
    · rename_i order _
      obtain ⟨ring, recipes, h⟩ := ih
        { (s.setSlot (s.ring.tail - 1) .free).dropUse order.resolution with
          ring := { ((s.setSlot (s.ring.tail - 1) .free).dropUse order.resolution).ring with
            tail := s.ring.tail - 1
            occupied := ((s.setSlot (s.ring.tail - 1) .free).dropUse order.resolution).ring.occupied - 1
            queued := ((s.setSlot (s.ring.tail - 1) .free).dropUse order.resolution).ring.queued - 1 } }
      exact ⟨ring, recipes, h⟩
    all_goals exact ⟨_, _, rfl⟩

/-- A withdrawal frees no more than it was asked for (R126). -/
theorem State.withdrawNewest_count (s : State) (n : Nat) : (s.withdrawNewest n).2 ≤ n := by
  induction n generalizing s with
  | zero => simp [State.withdrawNewest]
  | succ n ih =>
    unfold State.withdrawNewest
    dsimp only
    split
    · exact Nat.succ_le_succ (ih _)
    all_goals exact Nat.zero_le _

/-- A reclaim changes the ring at most (R128). -/
theorem State.reclaimOldest_frame (s : State) (n : Nat) :
    ∃ ring, (s.reclaimOldest n).1 = { s with ring := ring } := by
  induction n generalizing s with
  | zero => exact ⟨_, rfl⟩
  | succ n ih =>
    unfold State.reclaimOldest
    split
    · exact ⟨_, rfl⟩
    · split
      · obtain ⟨ring, h⟩ := ih
          { s.setSlot s.ring.reclaim .free with
            ring := { (s.setSlot s.ring.reclaim .free).ring with
              reclaim := (s.setSlot s.ring.reclaim .free).ring.reclaim + 1
              occupied := (s.setSlot s.ring.reclaim .free).ring.occupied - 1 } }
        exact ⟨ring, h⟩
      all_goals exact ⟨_, rfl⟩

/-- A reclaim frees no more than it was asked for (R128). -/
theorem State.reclaimOldest_count (s : State) (n : Nat) : (s.reclaimOldest n).2 ≤ n := by
  induction n generalizing s with
  | zero => simp [State.reclaimOldest]
  | succ n ih =>
    unfold State.reclaimOldest
    split
    · exact Nat.zero_le _
    · split
      · exact Nat.succ_le_succ (ih _)
      all_goals exact Nat.zero_le _

/-! ### Removal from the exit -/

@[simp] theorem State.removeExit_frame (s : State) (v : BilletRecord → OrderVerdict) :
    (s.removeExit v).port = s.port ∧ (s.removeExit v).arbiter = s.arbiter ∧
    (s.removeExit v).settings = s.settings ∧ (s.removeExit v).wires = s.wires ∧
    (s.removeExit v).reply = s.reply ∧ (s.removeExit v).pending = s.pending ∧
    (s.removeExit v).attention.enabled = s.attention.enabled ∧
    (s.removeExit v).ring.reclaim = s.ring.reclaim ∧ (s.removeExit v).ring.load = s.ring.load ∧
    (s.removeExit v).ring.tail = s.ring.tail ∧ (s.removeExit v).ring.occupied = s.ring.occupied ∧
    (s.removeExit v).ring.queued = s.ring.queued := by
  unfold State.removeExit
  split <;> simp

/-! ### Recipes -/

@[simp] theorem State.giveUp_frame (s : State) (i : Fin 32) (cause : Cause) :
    (s.giveUp i cause).port = s.port ∧ (s.giveUp i cause).ring = s.ring ∧
    (s.giveUp i cause).tracker = s.tracker ∧ (s.giveUp i cause).arbiter = s.arbiter ∧
    (s.giveUp i cause).cadence = s.cadence ∧ (s.giveUp i cause).settings = s.settings ∧
    (s.giveUp i cause).wires = s.wires ∧ (s.giveUp i cause).reply = s.reply ∧
    (s.giveUp i cause).pending = s.pending ∧
    (s.giveUp i cause).attention.enabled = s.attention.enabled := by
  unfold State.giveUp
  split
  · split <;> simp [State.handOver]
  · simp

/-- An entry that gives up its key is INVALID, and no other entry changes (R149). -/
theorem State.giveUp_entries (s : State) (i j : Fin 32) (cause : Cause) :
    (s.giveUp i cause).recipes.entries[j] = if i = j then none else s.recipes.entries[j] := by
  unfold State.giveUp
  split
  · rw [State.setEntry_entries]
    split
    · rfl
    · split <;> rfl
  · rename_i e
    split
    · rename_i h; subst h; exact e
    · rfl

@[simp] theorem State.allocate_frame (s : State) (k : Key) (i : Fin 32) :
    (s.allocate k i).port = s.port ∧ (s.allocate k i).ring = s.ring ∧
    (s.allocate k i).tracker = s.tracker ∧ (s.allocate k i).arbiter = s.arbiter ∧
    (s.allocate k i).cadence = s.cadence ∧ (s.allocate k i).settings = s.settings ∧
    (s.allocate k i).wires = s.wires ∧ (s.allocate k i).reply = s.reply ∧
    (s.allocate k i).pending = s.pending ∧ (s.allocate k i).attention.enabled = s.attention.enabled := by
  simp [State.allocate]

@[simp] theorem State.handOnTrim_frame (s : State) (i : Fin 32) (e : Entry) :
    (s.handOnTrim i e).port = s.port ∧ (s.handOnTrim i e).ring = s.ring ∧
    (s.handOnTrim i e).tracker = s.tracker ∧ (s.handOnTrim i e).arbiter = s.arbiter ∧
    (s.handOnTrim i e).cadence = s.cadence ∧ (s.handOnTrim i e).settings = s.settings ∧
    (s.handOnTrim i e).wires = s.wires ∧ (s.handOnTrim i e).reply = s.reply ∧
    (s.handOnTrim i e).pending = s.pending ∧
    (s.handOnTrim i e).attention.enabled = s.attention.enabled := by
  unfold State.handOnTrim
  split
  · simp
  · split <;> simp [State.handOver]

/-- A learning step changes the recipe table, the demand flags, the channels, the attention sets, the counters and what
is sent to the converter, never the train or the line (R167, R168). -/
@[simp] theorem State.learn_frame (s : State) (i : Fin 32) (residual : Int) (width : Nat) :
    (s.learn i residual width).port = s.port ∧ (s.learn i residual width).ring = s.ring ∧
    (s.learn i residual width).cadence = s.cadence ∧ (s.learn i residual width).settings = s.settings ∧
    (s.learn i residual width).reply = s.reply ∧ (s.learn i residual width).pending = s.pending ∧
    (s.learn i residual width).attention.enabled = s.attention.enabled ∧
    (s.learn i residual width).tracker.train = s.tracker.train ∧
    (s.learn i residual width).tracker.line = s.tracker.line ∧
    (s.learn i residual width).tracker.clock = s.tracker.clock := by
  unfold State.learn
  split
  · simp
  · dsimp only
    split <;> simp

end Sys2Proof.Machine
end

