-- ==== Sys2Proof/Laws/Line.lean ====
section
/-! SUPPORT. The laws of the cadence unit's shared operations: what the choice of the next operation, a change of line
state and a completion can change. -/

namespace Sys2Proof.Machine

set_option Elab.async false

/-! ### The choice -/

@[simp] theorem State.updateExit_tracker (s : State) (f : BilletRecord → BilletRecord) :
    (s.updateExit f).tracker.line = s.tracker.line ∧ (s.updateExit f).tracker.clock = s.tracker.clock ∧
    (s.updateExit f).tracker.demand = s.tracker.demand ∧
    (s.updateExit f).tracker.surveyTimer = s.tracker.surveyTimer ∧
    (s.updateExit f).tracker.readingTimer = s.tracker.readingTimer ∧
    (s.updateExit f).tracker.train.length = s.tracker.train.length := by
  unfold State.updateExit
  split
  · rename_i h
    split
    · simp [h]
    · simp
  · simp

/-- The record of a started operation (R89). -/
@[simp] theorem State.startOperation_cadence (s : State) (o : Operation) :
    (s.startOperation o).cadence = { s.cadence with
      operation := some o, handlingTimer := some (s.timer s.settings.handlingTimeout) } := rfl

@[simp] theorem State.endOperation_cadence (s : State) :
    s.endOperation.cadence = { s.cadence with operation := none, handlingTimer := none } := rfl

/-- The start of a push leaves the train, the recipes and the arbiter alone; it records the push and stops the cold
wait (R96). -/
theorem State.startPush_frame (s : State) :
    s.startPush.port = s.port ∧ s.startPush.recipes = s.recipes ∧ s.startPush.tracker = s.tracker ∧
    s.startPush.arbiter = s.arbiter ∧ s.startPush.settings = s.settings ∧ s.startPush.reply = s.reply ∧
    s.startPush.pending = s.pending ∧ s.startPush.attention.enabled = s.attention.enabled ∧
    s.startPush.cadence = { s.cadence with
      coldWait := .stopped
      operation := some (.push s.loadDecision.2)
      handlingTimer := some (s.timer s.settings.handlingTimeout) } := by
  have h := s.loadDecision_frame
  unfold State.startPush
  rw [show s.loadDecision = (s.loadDecision.1, s.loadDecision.2) from rfl]
  dsimp only
  simp only [State.startOperation_frame, State.startOperation_cadence, State.timer]
  refine ⟨h.1, h.2.1, h.2.2.1, h.2.2.2.1, h.2.2.2.2.2.1, h.2.2.2.2.2.2.1, h.2.2.2.2.2.2.2.1,
    h.2.2.2.2.2.2.2.2.1, ?_⟩
  rw [h.2.2.2.2.1, h.2.2.1, h.2.2.2.2.2.1]

/-- What the choice of R91 can do: nothing, a DIVERT, an EXTRACT, a PUSH, or a cold wait. -/
theorem State.choose_cases (s : State) :
    s.choose = s ∨
    (s.cadence.line = .run ∧ s.cadence.operation = none ∧
      ((∃ v, s.cadence.exitVerdict = some v ∧ v.isReject = true ∧ s.choose = s.startOperation .divert) ∨
       (s.cadence.exitVerdict = some .good ∧ s.cadence.pendingCall = true ∧ s.choose = s.startExtract) ∨
       (s.cadence.exitVerdict = none ∧ s.cadence.minPush = none ∧ s.cadence.pushFit = true ∧
         s.choose = s.startPush) ∨
       (s.cadence.exitVerdict = none ∧ s.cadence.minPush = none ∧ s.cadence.coldWait = .stopped ∧
         s.choose = s.startColdWait))) := by
  unfold State.choose
  by_cases h : s.cadence.line = .run ∧ s.cadence.operation = none
  · rw [if_pos h]
    split
    · rename_i v e
      split
      · rename_i r; exact .inr ⟨h.1, h.2, .inl ⟨v, e, r, rfl⟩⟩
      · split
        · rename_i g; exact .inr ⟨h.1, h.2, .inr (.inl ⟨g.1 ▸ e, g.2, rfl⟩)⟩
        · exact .inl rfl
    · rename_i e
      split
      · exact .inl rfl
      · rename_i m
        have m' : s.cadence.minPush = none := by simpa using m
        split
        · rename_i p; exact .inr ⟨h.1, h.2, .inr (.inr (.inl ⟨e, m', p, rfl⟩))⟩
        · split
          · rename_i c; exact .inr ⟨h.1, h.2, .inr (.inr (.inr ⟨e, m', c, rfl⟩))⟩
          · exact .inl rfl
  · exact .inl (by rw [if_neg h])

/-- What the choice keeps: the line state, the causes, the exit verdict and readiness, the arbiter, the recipes, the
settings and the port; of the tracker all but an extraction mark (R91). -/
theorem State.choose_frame (s : State) :
    s.choose.port = s.port ∧ s.choose.recipes = s.recipes ∧ s.choose.arbiter = s.arbiter ∧
    s.choose.settings = s.settings ∧ s.choose.reply = s.reply ∧ s.choose.pending = s.pending ∧
    s.choose.attention.enabled = s.attention.enabled ∧
    s.choose.cadence.line = s.cadence.line ∧ s.choose.cadence.held = s.cadence.held ∧
    s.choose.cadence.exitVerdict = s.cadence.exitVerdict ∧
    s.choose.cadence.readiness = s.cadence.readiness ∧ s.choose.cadence.minPush = s.cadence.minPush ∧
    s.choose.tracker.line = s.tracker.line ∧ s.choose.tracker.clock = s.tracker.clock ∧
    s.choose.tracker.demand = s.tracker.demand := by
  rcases s.choose_cases with h | ⟨-, -, ⟨v, -, -, h⟩ | ⟨-, -, h⟩ | ⟨-, -, -, h⟩ | ⟨-, -, -, h⟩⟩ <;> rw [h]
  · simp
  · simp [Cadence.held]
  · simp [State.startExtract, Cadence.held]
  · have f := s.startPush_frame
    simp [f, Cadence.held]
  · unfold State.startColdWait
    split
    · have f := ({ s with cadence := { s.cadence with coldWait := .expired } } : State).startPush_frame
      simp [f, Cadence.held]
    · simp [Cadence.held]

/-! ### Changes of line state -/

/-- What the tracker's notice of a change of line state leaves alone, and the line state it takes (R10, R75 step 1). -/
theorem State.notice_frame (s : State) (new : LineState) :
    (s.notice new).port = s.port ∧ (s.notice new).ring = s.ring ∧ (s.notice new).recipes = s.recipes ∧
    (s.notice new).attention = s.attention ∧ (s.notice new).counters = s.counters ∧
    (s.notice new).settings = s.settings ∧ (s.notice new).pins = s.pins ∧
    (s.notice new).reply = s.reply ∧ (s.notice new).pending = s.pending ∧
    (s.notice new).tracker.line = new ∧ (s.notice new).tracker.clock = s.tracker.clock ∧
    ∃ v x, (s.notice new).cadence = { s.cadence with exitVerdict := v, readiness := x } := by
  unfold State.notice
  dsimp only
  simp only [State.grant_frame, State.reportReadiness_frame, State.recheckExit, State.reportExit_frame,
    State.updateExit_frame, State.evaluateAll_frame, State.updateTrain_frame, State.updateExit_tracker,
    State.evaluateAll_tracker, State.updateTrain_tracker, true_and]
  simp only [State.reportReadiness, State.reportExit, State.updateExit_frame, State.evaluateAll_frame]
  exact ⟨_, _, rfl⟩

/-- What steps 1 to 4 of a change of line state leave alone, and the line state they take (R75). -/
theorem State.moveLine_frame (s : State) (new : LineState) :
    (s.moveLine new).port = s.port ∧ (s.moveLine new).ring = s.ring ∧
    (s.moveLine new).recipes = s.recipes ∧ (s.moveLine new).settings = s.settings ∧
    (s.moveLine new).reply = s.reply ∧ (s.moveLine new).pending = s.pending ∧
    (s.moveLine new).attention.enabled = s.attention.enabled ∧
    (s.moveLine new).tracker.line = new ∧ (s.moveLine new).tracker.clock = s.tracker.clock ∧
    (s.moveLine new).cadence.line = new ∧ (s.moveLine new).cadence.held = s.cadence.held ∧
    (s.moveLine new).cadence.operation = s.cadence.operation ∧
    (s.moveLine new).cadence.minPush = s.cadence.minPush := by
  have h := ({ s with cadence := { s.cadence with line := new } } : State).notice_frame new
  unfold State.moveLine
  dsimp only
  obtain ⟨h1, h2, h3, -, -, h4, -, h5, h6, h7, h8, v, x, c⟩ := h
  have h9 := congrArg Attention.enabled
    (({ s with cadence := { s.cadence with line := new } } : State).notice_frame new).2.2.2.1
  split
  · simp only [State.declinePending]
    split <;>
      simp [State.stopColdWait, State.decline, State.settle, Cadence.held, h1, h2, h3, h4, h5, h6, h7, h8,
        h9, c]
  · simp [State.settle, Cadence.held, h1, h2, h3, h4, h5, h6, h7, h8, h9, c]

end Sys2Proof.Machine
end

