-- ==== Sys2Proof/Tests/Slice0.lean ====
section
/-! SUPPORT. The model's own tests: ill-formed operands refused, requests decoded from bytes written out from chapter 10,
the spec's worked figures, and for every statement with hypotheses a state that meets them. -/

namespace Sys2Proof.Machine.Test

set_option Elab.async false

/-! ### States -/

/-- The recipe of section 1.10. -/
def body : Body := ⟨8738, 64, 3580, 5592, 19200, 160, 20000, 16000, 600⟩

/-- An entry with that recipe, for key (0, 0), whose set begins with entry 0. -/
def entry (state : EntryState) : Entry := ⟨⟨0, 0⟩, state, body, .writeThrough, 0, 14, false, 0⟩

/-- A record at a position with temperatures, last updated at clock 0. -/
def record (position tm sx : Nat) (verdict : Verdict) : BilletRecord where
  slot := 0
  billetId := 7
  ref := .entry 0
  position := position
  tm := tm
  sx := sx
  lastUpdate := 0
  exitGoal := 19200
  holdGoal := 16000
  energy := 0
  enteredAt := 0
  holdTime := 0
  aged := false
  suspect := false
  extracting := false
  verdict := verdict
  reading := none

/-- The order of that record. -/
def order : BilletOrder := ⟨7, ⟨0, 0⟩, none, none, true, false, .recipe (.entry 0)⟩

/-- Power-on, with the recipe in entry 0. -/
def base : State :=
  { State.reset with recipes := { powerOnRecipes with entries := powerOnRecipes.entries.set 0 (some (entry .valid)) } }

/-- The state with a line state known to both units, and a train. -/
def lineIn (line : LineState) (train : List BilletRecord) : State :=
  { base with
    cadence := { resetCadence with
      line := line, occupancyUnknown := false
      exitVerdict := { powerOnTracker with train := train }.exitRecord.map BilletRecord.verdict }
    tracker := { powerOnTracker with line := line, train := train } }

/-- The state with global enable set and CONV_READY high. -/
def powered (s : State) : State :=
  { s with arbiter := { s.arbiter with enable := true }, pins := { s.pins with convReady := true } }

/-- The state with an operation in flight. -/
def inFlight (s : State) (o : Operation) : State :=
  { s with cadence := { s.cadence with operation := some o, handlingTimer := some ⟨0, 8000⟩ } }

/-- The state with zone 3 DELIVERING a slice of sequence number 1. -/
def slicing (s : State) (eset : Nat) : State :=
  { powered s with
    arbiter := { (powered s).arbiter with
      zones := s.arbiter.zones.set 2 { powerOnZone with state := .delivering, blockCount := 1, remaining := 5 }
      slice := some ⟨1, 2, eset, false⟩, sliceTimer := some ⟨0, 2000⟩, sequence := 1 } }

/-- The next state of a command; the state before it where there is none. -/
def after (i : Instr) (s : State) : State :=
  match exec i s with
  | .next t => t
  | .fault _ | .refused _ => s

/-! ### Well-formed operands -/

/-- Each check of `Instr.wellFormed` refuses an operand one past its field. -/
theorem test_ill_formed_refused :
    (Instr.readTrain 256 1).wellFormed = false ∧ (Instr.readTrain 0 256).wellFormed = false ∧
    (Instr.setZone 256 0 0 0 0 0).wellFormed = false ∧ (Instr.setZone 1 256 0 0 0 0).wellFormed = false ∧
    (Instr.setZone 1 0 256 0 0 0).wellFormed = false ∧ (Instr.setZone 1 0 0 65536 0 0).wellFormed = false ∧
    (Instr.setZone 1 0 0 0 65536 0).wellFormed = false ∧ (Instr.readZone 256).wellFormed = false ∧
    (Instr.enableZone 256).wellFormed = false ∧ (Instr.disableZone 256).wellFormed = false ∧
    (Instr.pauseZone 256).wellFormed = false ∧ (Instr.continueZone 256).wellFormed = false ∧
    (Instr.doseZone 256).wellFormed = false ∧ (Instr.postOrder 0 ⟨0, 0⟩ 0 65536 0).wellFormed = false ∧
    (Instr.postOrder 0 ⟨0, 0⟩ 0 0 65536).wellFormed = false ∧ (Instr.withdraw 256).wellFormed = false ∧
    (Instr.reclaim 256).wellFormed = false ∧ (Instr.readOrders 256 1).wellFormed = false ∧
    (Instr.readOrders 0 256).wellFormed = false := by decide

/-- The same for recipes, counters, settings and events. -/
theorem test_ill_formed_refused_too :
    (Instr.loadRecipe ⟨0, 0⟩ { body with gain := 65536 } 0 0).wellFormed = false ∧
    (Instr.loadRecipe ⟨0, 0⟩ { body with surface := 256 } 0 0).wellFormed = false ∧
    (Instr.loadRecipe ⟨0, 0⟩ { body with loss := 65536 } 0 0).wellFormed = false ∧
    (Instr.loadRecipe ⟨0, 0⟩ { body with equal := 65536 } 0 0).wellFormed = false ∧
    (Instr.loadRecipe ⟨0, 0⟩ { body with tExit := 65536 } 0 0).wellFormed = false ∧
    (Instr.loadRecipe ⟨0, 0⟩ { body with width := 65536 } 0 0).wellFormed = false ∧
    (Instr.loadRecipe ⟨0, 0⟩ { body with slim := 65536 } 0 0).wellFormed = false ∧
    (Instr.loadRecipe ⟨0, 0⟩ { body with tHold := 65536 } 0 0).wellFormed = false ∧
    (Instr.loadRecipe ⟨0, 0⟩ { body with maxHold := 65536 } 0 0).wellFormed = false ∧
    (Instr.loadRecipe ⟨0, 0⟩ body 32768 0).wellFormed = false ∧
    (Instr.loadRecipe ⟨0, 0⟩ body (-32769) 0).wellFormed = false ∧
    (Instr.loadRecipe ⟨0, 0⟩ body 0 256).wellFormed = false ∧
    (Instr.readRecipe (.window 256)).wellFormed = false ∧
    (Instr.setWindow 256 0 0 0 body).wellFormed = false ∧ (Instr.setWindow 0 256 0 0 body).wellFormed = false ∧
    (Instr.setWindow 0 0 0 0 { body with gain := 65536 }).wellFormed = false ∧
    (Instr.selectCounter 256 0).wellFormed = false ∧ (Instr.selectCounter 0 256).wellFormed = false ∧
    (Instr.writeSetting 256 0).wellFormed = false ∧ (Instr.writeSetting 1 4294967296).wellFormed = false ∧
    (Instr.writeProfile (Vector.replicate 12 65536)).wellFormed = false ∧
    (Instr.frameReceived ⟨0, 0, 0, List.replicate 201 0, 0⟩).wellFormed = false ∧
    (Instr.lengthByteDiscard 200).wellFormed = false ∧ (Instr.lengthByteDiscard 256).wellFormed = false ∧
    (Instr.sliceDone 0 65536).wellFormed = false ∧ (Instr.sliceFault 0 65536).wellFormed = false ∧
    (Instr.guardAsserted 0).wellFormed = false ∧ (Instr.guardNegated 7).wellFormed = false ∧
    (Instr.pyroTemperatureMessage 65536).wellFormed = false := by decide +kernel

/-! ### Requests decoded from bytes written out from Table 10-4 and section 10.6 -/

theorem test_decode_line_requests :
    decodeRequest 0x01 [] = .request .start ∧ decodeRequest 0x05 [] = .request .drain ∧
    decodeRequest 0x09 [0x08, 0x04] = .request (.readTrain 8 4) := by decide

theorem test_decode_zone_requests :
    decodeRequest 0x16 [0x06] = .request (.doseZone 6) ∧ decodeRequest 0x17 [0x01] = .request .powerOff ∧
    decodeRequest 0x10 [0x06, 0x01, 0x03, 0x20, 0x03, 0x90, 0x01, 0x07] =
      .request (.setZone 6 1 3 800 400 7) := by decide

/-- Key (60, 7) has the size class at the lower offset. -/
theorem test_decode_order_requests :
    decodeRequest 0x20 [0x01, 0x00, 0x00, 0x80, 0x07, 0x3C, 0x0C, 0xD0, 0x07, 0x40, 0x1F] =
      .request (.postOrder 0x80000001#32 ⟨60, 7⟩ 0x0C 2000 8000) ∧
    decodeRequest 0x22 [0x3F, 0x08] = .request (.readOrders 63 8) := by decide

theorem test_decode_recipe_requests :
    decodeRequest 0x30 [0x01, 0x0A, 0x22, 0x22, 0x40, 0xFC, 0x0D, 0xD8, 0x15, 0x00, 0x4B, 0xA0, 0x00, 0x20, 0x4E,
      0x80, 0x3E, 0x58, 0x02, 0xF0, 0xFF, 0x01] = .request (.loadRecipe ⟨10, 1⟩ body (-16) 1) ∧
    decodeRequest 0x31 [0x01, 0x01, 0x77] = .request (.readRecipe (.window 1)) ∧
    decodeRequest 0x34 [0x09, 0x28] = .request (.pinRecipe ⟨40, 9⟩) := by decide

theorem test_decode_attention_and_settings_requests :
    decodeRequest 0x41 [0x20, 0x04] = .request (.enableAttention 0x0420) ∧
    decodeRequest 0x48 [0x03, 0x0F] = .request (.selectCounter 3 15) ∧
    decodeRequest 0x50 [0x08, 0x58, 0x02, 0x00, 0x00] = .request (.writeSetting 8 600) := by decide

/-- No row of the opcode table carries bits, so no word spells a command and nothing is put in the queue. -/
theorem test_no_word_spells_a_command :
    decodeTableWord 8 1 = none ∧ (State.reset.withFetchWord 8 1).pending = [] := by decide

/-! ### The spec's worked figures -/

/-- Section 1.10: effective gain, heat step of 600 hJ, loss and equalisation over 500 ms. -/
theorem test_worked_thermal_figures :
    effectiveGain 8738 0 = 8738 ∧ effectiveGain 8738 80 = 8909 ∧ meanRise 600 8738 = 80 ∧
    meanRise 600 8909 = 82 ∧ surfaceRise 80 64 = 20 ∧ surfaceRise 82 64 = 21 ∧
    lossOver 16000 400 3580 500 = 7 ∧ equalOver 200 5592 500 = 33 := by decide

/-- Section 1.10: 601 hJ shared in zone 3 after 120 ms. -/
theorem test_worked_slice_in_zone_3 :
    (after (.sliceDone 1 601) { slicing (lineIn .run [record 5 9600 150 .none, record 4 8000 90 .none]) 601 with
      tracker := { powerOnTracker with
        line := .run, clock := 120, train := [record 5 9600 150 .none, record 4 8000 90 .none] } }).tracker.train.map
      (fun r => (r.tm, r.sx, r.energy)) = [(9639, 154, 301), (8039, 96, 300)] := by decide +kernel

/-- Section 1.10: the reading of 19200 at Tm 19100, Sx 120 after 200 ms. -/
theorem test_worked_reading :
    (after (.pyroTemperatureMessage 19200) { lineIn .run [record 12 19100 120 .awaiting] with
      tracker := { powerOnTracker with line := .run, clock := 200, train := [record 12 19100 120 .awaiting] }
      }).tracker.train.map (fun r => (r.tm, r.sx, r.verdict, r.reading)) = [(19088, 112, .good, some 19200)] := by
  decide +kernel

/-- The same reading's learning step (section 8.8, event 1): the residual of −9 counts and moves no trim. -/
theorem test_worked_learning_without_trim :
    (after (.pyroTemperatureMessage 19200) { lineIn .run [record 12 19100 120 .awaiting] with
      tracker := { powerOnTracker with line := .run, clock := 200, train := [record 12 19100 120 .awaiting] }
      }).recipes.entries[0] = some { entry .valid with learned := 15 } := by decide +kernel

/-- Section 8.8, events 2 and 4. -/
theorem test_worked_trims : learnedTrim 95 160 0 = 8 ∧ learnedTrim (-130) 200 (-16) = -24 ∧
    learnedTrim 81 160 2044 = 2047 := by decide

/-- Section 2.10.1: targets in RUN and in HOLD. -/
theorem test_worked_targets :
    trajectoryTarget 400 19200 21 = 1942 ∧ trajectoryTarget 400 19200 235 = 17658 ∧
    trajectoryTarget 400 16000 107 = 6920 ∧ trajectoryTarget 400 16000 256 = 16000 := by decide

/-- Section 3.13, step 6: a burst on zone 6 yields to a WAITING zone 5 that the pair-favour flag names, and the
credited energy is capped at the order's. -/
def burst : State :=
  { lineIn .run [record 11 5000 0 .none] with
    arbiter := { powerOnArbiter with
      enable := true, favour := .zone5, sequence := 4, slice := some ⟨4, 5, 1500, false⟩
      sliceTimer := some ⟨0, 2000⟩
      zones := (powerOnArbiter.zones.set 5 { powerOnZone with
          settings := { defaultZoneSettings with mode := .burst, setpoint := 1500 }
          state := .delivering, request := true, blockCount := 1, remaining := 400 }).set 4
        { powerOnZone with
          settings := { defaultZoneSettings with mode := .block, blockSize := 3, setpoint := 800 }
          state := .waiting, request := true, remaining := 397 } }
    tracker := { powerOnTracker with
      line := .run, train := [record 11 5000 0 .none], demand := Vector.replicate 6 true }
    settings := { defaultSettings with pairAlternation := 1 } }

theorem test_worked_burst_yields :
    (after (.sliceDone 4 1512) burst).arbiter.slice = some ⟨5, 4, 800, false⟩ ∧
    (after (.sliceDone 4 1512) burst).arbiter.favour = .zone6 ∧
    (after (.sliceDone 4 1512) burst).arbiter.zones[5].state = .waiting ∧
    (after (.sliceDone 4 1512) burst).arbiter.zones[5].energyDelivered = 1500 := by decide +kernel

/-- Section 7.12: set 3 with each of its ways held for another reason. -/
def blockedSet : State :=
  { base with recipes := { powerOnRecipes with
      entries := (((powerOnRecipes.entries.set 12 (some ⟨⟨10, 1⟩, .valid, body, .writeBack, 0, 0, true, 0⟩)).set 13
        (some ⟨⟨20, 7⟩, .learned, body, .writeBack, 40, 5, false, 0⟩)).set 14
        (some ⟨⟨33, 2⟩, .valid, body, .writeBack, 0, 0, false, 2⟩)).set 15
        (some ⟨⟨50, 1⟩, .pending, zeroBody, .writeThrough, 0, 0, false, 1⟩)
      windows := powerOnRecipes.windows.set 0 ⟨true, 51200, 255, body, 0⟩
      replacement := 1
      wants := [⟨⟨50, 1⟩, 15, 799000, 5000⟩]
      writebacks := (List.range 8).map (fun n => ⟨⟨BitVec.ofNat 8 n, 99⟩, 0, 0, .evicted⟩) } }

theorem test_worked_blocked_set :
    (after (.postOrder 1 ⟨60, 7⟩ 0 0 0) blockedSet).reply = some ⟨.tableBlocked, []⟩ := by decide +kernel

/-- The retry after TAKE WRITEBACKS evicts (20, 7) and allocates entry 13. -/
theorem test_worked_blocked_set_retry :
    (after (.postOrder 1 ⟨60, 7⟩ 0 0 0) (after .takeWritebacks blockedSet)).reply = some ⟨.ok, [0, 13, 2]⟩ ∧
    (after (.postOrder 1 ⟨60, 7⟩ 0 0 0) (after .takeWritebacks blockedSet)).recipes.writebacks.length = 5 ∧
    (after (.postOrder 1 ⟨60, 7⟩ 0 0 0) (after .takeWritebacks blockedSet)).recipes.replacement = 2 := by
  decide +kernel

/-- Section 5.9's kind of fault: a push that times out is taken as done, its records SUSPECT. -/
theorem test_push_fault_taken_as_pushed :
    (after .handlingTimerExpiry (inFlight (lineIn .run [record 11 18000 50 .none, record 3 5000 10 .none])
      (.push none))).tracker.train.map (fun r => (r.position, r.suspect, r.verdict)) =
        [(12, true, .awaiting), (4, true, .none)] := by decide +kernel

/-- R189's frame: its CRC covers the bytes from the address to the payload and is sent high byte first. -/
theorem test_frame_layout : (Frame.make 5 0x08 0x31 []).bytes.take 5 = [0xA5, 0x05, 0x08, 0x31, 0x00] ∧
    crc16 [0x31, 0x32, 0x33, 0x34, 0x35, 0x36, 0x37, 0x38, 0x39] = 0x29B1 := by decide +kernel

/-! ### Witnesses: states and operands that meet the statements' hypotheses, clause by clause -/

/-- A frame for station 0 that passes its checks. -/
def goodFrame (kind : Byte) (payload : List Byte) : Frame := Frame.make 0 kind 0x31 payload

theorem test_witness_idle_step :
    State.reset.pending = [] ∧
    ({ base with port := { resetPort 0 with restartDue := true } }).restartMayTakeEffect = true ∧
    (base.restartMayTakeEffect = false ∧ base.port.replyFrame = none ∧ base.dueExpiries = []) ∧
    ((after (.frameReceived (goodFrame 0x08 [])) base).restartMayTakeEffect = false ∧
      (after (.frameReceived (goodFrame 0x08 [])) base).port.replyFrame.isSome = true ∧
      (after (.frameReceived (goodFrame 0x08 [])) base).pins.linkDe = false) ∧
    ({ base with tracker := { powerOnTracker with clock := 5, readingTimer := some ⟨0, 5⟩ } }).dueExpiries ≠ [] := by
  decide +kernel

theorem test_witness_request_round_trip :
    (Instr.setZone 6 2 16 4000 65535 7).wellFormed = true ∧
    encodeRequest (.setZone 6 2 16 4000 65535 7) =
      some (0x10, [0x06, 0x02, 0x10, 0xA0, 0x0F, 0xFF, 0xFF, 0x07]) := by decide

theorem test_witness_dispatch :
    payloadLength 0xFF = none ∧ (payloadLength 0x36 = some 23 ∧ ([] : List Byte).length ≠ 23) ∧
    payloadLength 0x17 = some [4#8].length ∧ payloadLength 0x31 = some [2#8, 0, 0].length := by decide

theorem test_witness_receiver :
    base.port.receiver = .hunting ∧ (resetPort 0).inbound = none ∧
    (after .syncByteBeginsFrame base).port.receiver = .receiving ∧
    (after (.frameReceived (goodFrame 0x08 [])) base).port.inbound.isSome = true ∧
    ¬ RestartReplyOwed (after (.frameReceived (goodFrame 0x08 [])) base) := by
  refine ⟨by decide +kernel, by decide +kernel, by decide +kernel, by decide +kernel, fun h => ?_⟩
  exact absurd h.1 (by decide +kernel)

theorem test_witness_frame_checks :
    (goodFrame 0x08 []).payload.length ≤ 200 ∧
    ({ base with port := { resetPort 0 with receiver := .deaf } }).port.receiver = .deaf ∧
    (base.port.receiver ≠ .deaf ∧ { goodFrame 0x08 [] with crc := 0 }.crc ≠
      crc16 { goodFrame 0x08 [] with crc := 0 }.covered) ∧
    ((Frame.make 31 0x08 0 []).crc = crc16 (Frame.make 31 0x08 0 []).covered ∧
      (Frame.make 31 0x08 0 []).address.toNat ≠ base.port.station.toNat) ∧
    ((goodFrame 0x08 []).crc = crc16 (goodFrame 0x08 []).covered ∧
      (goodFrame 0x08 []).address.toNat = base.port.station.toNat ∧
      (after (.frameReceived (goodFrame 0x08 [])) base).port.receiver ≠ .deaf ∧
      (after (.frameReceived (goodFrame 0x08 [])) base).port.inbound.isSome = true) := by decide +kernel

theorem test_witness_frame_answered :
    FrameTaken (goodFrame 0x08 []) base ∧
    decodeRequest (goodFrame 0x08 []).kind (goodFrame 0x08 []).payload = .request .readLine ∧
    FrameTaken (goodFrame 0x99 []) base ∧
    portCode (decodeRequest (goodFrame 0x99 []).kind (goodFrame 0x99 []).payload) = some .unknownKind := by
  decide +kernel

theorem test_witness_refused_request :
    (encodeRequest .stop).isSome = true ∧ exec .stop base = .next (after .stop base) ∧
    (after .stop base).reply = some ⟨.wrongState, []⟩ := ⟨by decide, rfl, by decide +kernel⟩

theorem test_witness_start :
    StartTaken (powered (lineIn .stopped [])) ∧ (lineIn .run []).cadence.line ≠ .stopped ∧
    (base.cadence.line = .stopped ∧ base.cadence.occupancyUnknown = true) ∧
    ((lineIn .stopped []).cadence.line = .stopped ∧ (lineIn .stopped []).cadence.occupancyUnknown = false ∧
      (lineIn .stopped []).arbiter.enable = false) := by decide +kernel

theorem test_witness_stop_hold_drain :
    InProduction (lineIn .run []) ∧ InProduction (lineIn .hold []) ∧ ¬ InProduction (lineIn .faulted []) ∧
    ((lineIn .run []).cadence.line = .run ∧ (lineIn .run []).cadence.manual = false) ∧
    ((lineIn .run []).tracker.train = [] ∧ (lineIn .run []).cadence.operation = none) ∧
    ((lineIn .run [record 3 5000 0 .none]).tracker.train ≠ [] ∧
      PressReadyFollows (lineIn .run [record 3 5000 0 .none])) := by decide +kernel

/-- A line held by hand, powered. -/
def heldLine : State :=
  { powered (lineIn .hold []) with cadence := { (lineIn .hold []).cadence with manual := true } }

theorem test_witness_resume :
    (heldLine.arbiter.enable = true ∧ heldLine.pins.convReady = true ∧ ResumeReleases heldLine) ∧
    ((powered (lineIn .run [])).arbiter.enable = true ∧ (powered (lineIn .run [])).pins.convReady = true ∧
      ¬ ResumeReleases (powered (lineIn .run [])) ∧ PressReadyFollows (powered (lineIn .run []))) ∧
    base.arbiter.enable = false := by decide +kernel

theorem test_witness_purge_and_declare_empty :
    PurgeTaken (lineIn .faulted [record 12 9000 0 .awaiting]) ∧ ¬ PurgeTaken (lineIn .run []) ∧
    ((inFlight (lineIn .stopped []) .extract).cadence.line = .stopped ∧
      (inFlight (lineIn .stopped []) .extract).cadence.operation ≠ none) ∧
    ((lineIn .stopped [record 0 400 0 .none]).cadence.operation = none ∧
      (lineIn .stopped [record 0 400 0 .none]).tracker.train ≠ []) ∧
    (base.cadence.line = .stopped ∧ base.cadence.operation = none ∧ base.tracker.train = []) := by
  decide +kernel

theorem test_witness_reads :
    (1 ≤ 4 ∧ 4 ≤ 4 ∧ 9 + 4 ≤ 13) ∧ ¬ (1 ≤ 4 ∧ 4 ≤ 4 ∧ 10 + 4 ≤ 13) ∧ Names 6 5 ∧ (∀ z, ¬ Names 7 z) ∧
    (1 ≤ 8 ∧ 8 ≤ 8) ∧ 64 ≤ 64 ∧ Found base ⟨0, 0⟩ 0 (entry .valid) ∧
    base.recipes.keySearch ⟨1, 0⟩ = none := by decide +kernel

/-- A powered part in RUN with a billet in zone 1, that zone at a state, WAITING claims made good. -/
def zoned (c : Zone) : State :=
  let s := powered (lineIn .run [record 0 5000 0 .none])
  { s with arbiter := { s.arbiter with zones := s.arbiter.zones.set 0 c } }

theorem test_witness_zone_requests :
    Names 1 0 ∧ ZoneValuesOk 2 16 4000 65535 7 ∧ ¬ ZoneValuesOk 3 16 4000 65535 7 ∧
    (EnableTaken 0 (zoned powerOnZone) ∧ NoGrantDue (zoned powerOnZone)) ∧
    ¬ EnableTaken 0 (zoned { powerOnZone with state := .idle }) ∧
    (zoned { powerOnZone with state := .idle }).arbiter.zones[(0 : Fin 6)].state ≠ .off ∧
    (zoned powerOnZone).arbiter.zones[(0 : Fin 6)].state = .off ∧
    NoGrantDue (zoned { powerOnZone with state := .waiting, request := true, paused := true }) ∧
    NoGrantDue (zoned { powerOnZone with state := .idle }) ∧
    (∃ r ∈ (zoned { powerOnZone with state := .idle }).tracker.train, r.position = 0 ∨ r.position = 1) ∧
    (∀ r ∈ (zoned { powerOnZone with state := .idle }).tracker.train, r.position ≠ 2 ∧ r.position ≠ 3) := by
  decide +kernel

theorem test_witness_power_and_grant :
    (powered base).pins.convReady = true ∧ base.pins.convReady = false ∧ ¬ ConverterOpen base ∧
    (∀ z : Fin 6, base.arbiter.zones[z].state ≠ .waiting) ∧
    (ConverterOpen (zoned { powerOnZone with state := .waiting, request := true }) ∧
      FirstEligible (zoned { powerOnZone with state := .waiting, request := true }) 0) ∧
    (let s := { zoned { powerOnZone with state := .waiting, forced := true } with
        tracker := { powerOnTracker with line := .run, train := [record 0 20000 0 .none] } };
      ConverterOpen s ∧ FirstEligible s 0 ∧ s.arbiter.zones[(0 : Fin 6)].forced = true ∧
        s.guardQuery 0 = true ∧ s.arbiter.zones[(0 : Fin 6)].request = false) := by decide +kernel

/-- Window 1 covers every key of grade 7. -/
def windowed : State :=
  { base with recipes := { base.recipes with windows := base.recipes.windows.set 1 ⟨true, 0x0700, 255, body, 0⟩ } }

theorem test_witness_post_order :
    OrderValuesOk 0x0F 16000 24000 ∧ ¬ OrderValuesOk 0x10 0 0 ∧ ¬ OrderValuesOk 0x04 16001 0 ∧
    base.ring.occupied < 64 ∧ 64 ≤ ({ base with ring := { powerOnRing with occupied := 64 } }).ring.occupied ∧
    Resolves windowed ⟨7, 9⟩ (.window 1) 0 ∧ Resolves base ⟨0, 0⟩ (.entry 0) 1 ∧
    ((∀ w : Fin 2, ¬ WindowMatches blockedSet.recipes.windows[w] ⟨60, 7⟩) ∧
      blockedSet.recipes.keySearch ⟨60, 7⟩ = none ∧ blockedSet.recipes.wayFor ⟨60, 7⟩ = none) ∧
    ((∀ w : Fin 2, ¬ WindowMatches base.recipes.windows[w] ⟨60, 7⟩) ∧
      base.recipes.keySearch ⟨60, 7⟩ = none ∧ base.recipes.wants.length < 4 ∧
      base.recipes.wayFor ⟨60, 7⟩ = some 12) := by decide +kernel

/-- The ring with one DONE order and two QUEUED ones behind it. -/
def ringed : State :=
  { base with ring := { powerOnRing with
      slots := ((powerOnRing.slots.set 0 (.done order (emptyStatus .delivered))).set 1 (.queued order)).set 2
        (.queued order)
      load := 1, tail := 3, occupied := 3, queued := 2 } }

theorem test_witness_ring :
    RingInOrder ringed ∧ (1 ≤ 64 ∧ 64 ≤ 64) ∧ 64 < 65 ∧ ReclaimCount 64 1 ringed := by decide +kernel

theorem test_witness_load_recipe :
    RecipeValuesOk body 2047 1 ∧ ¬ RecipeValuesOk body 2048 1 ∧ Found base ⟨0, 0⟩ 0 (entry .valid) ∧
    (base.recipes.keySearch ⟨1, 0⟩ = none ∧ base.recipes.wayFor ⟨1, 0⟩ = some 4) ∧
    (blockedSet.recipes.keySearch ⟨60, 7⟩ = none ∧ blockedSet.recipes.wayFor ⟨60, 7⟩ = none) := by
  decide +kernel

/-- The recipe's entry in a state of its own, with a write-back list of a length. -/
def listed (e : Entry) (n : Nat) : State :=
  { base with recipes := { base.recipes with
      entries := base.recipes.entries.set 0 (some e)
      writebacks := (List.range n).map (fun k => ⟨⟨BitVec.ofNat 8 k, 99⟩, 0, 0, .evicted⟩) } }

theorem test_witness_flush_pin_and_writeback :
    Found (listed (entry .valid) 0) ⟨0, 0⟩ 0 (entry .valid) ∧
    Found (listed (entry .pending) 0) ⟨0, 0⟩ 0 (entry .pending) ∧
    (Found (listed (entry .learned) 7) ⟨0, 0⟩ 0 (entry .learned) ∧
      ListHasRoom (listed (entry .learned) 7).recipes.writebacks ⟨0, 0⟩) ∧
    (Found (listed (entry .learned) 8) ⟨0, 0⟩ 0 (entry .learned) ∧
      ¬ ListHasRoom (listed (entry .learned) 8).recipes.writebacks ⟨0, 0⟩) ∧
    Found (listed { entry .valid with pinned := true } 0) ⟨0, 0⟩ 0 { entry .valid with pinned := true } ∧
    base.recipes.pinnedWays (setOf ⟨0, 0⟩) < 3 ∧
    (let s := { base with recipes := { base.recipes with
        entries := ((base.recipes.entries.set 1 (some { entry .valid with key := ⟨0, 8⟩, pinned := true })).set 2
          (some { entry .valid with key := ⟨0, 16⟩, pinned := true })).set 3
          (some { entry .valid with key := ⟨0, 24⟩, pinned := true }) } };
      Found s ⟨0, 0⟩ 0 (entry .valid) ∧ 3 ≤ s.recipes.pinnedWays (setOf ⟨0, 0⟩)) ∧
    BodyValuesOk body ∧ ¬ BodyValuesOk zeroBody ∧
    0 < ({ base with recipes := { base.recipes with
      windows := base.recipes.windows.set 1 ⟨true, 0, 0, body, 1⟩ } }).recipes.windows[(1 : Fin 2)].useCount := by
  decide +kernel

theorem test_witness_settings :
    SettingValueOk 6 600000 ∧ ¬ SettingValueOk 6 600001 ∧ ¬ SettingValueOk 16 0 ∧ SettingValueOk 1 800 ∧
    SettingValueOk 2 0 ∧ SettingValueOk 14 4000 ∧ (lineIn .run []).cadence.line ≠ .stopped ∧
    (base.cadence.line = .stopped ∧ base.tracker.train = []) ∧ profileOk defaultProfile = true ∧
    profileOk (Vector.replicate 12 257) = false ∧ (0x07FF#16).toNat < 2048 ∧ 2048 ≤ (0x0800#16).toNat := by
  decide +kernel

/-- A RESTART taken with a billet at the exit and an order LOADING, with the request given outstanding. -/
def restarting (inbound : Option Frame) : State :=
  { inFlight (lineIn .run [record 12 9000 0 .awaiting]) (.push (some 1)) with
    port := { resetPort 0 with restartDue := true, inbound := inbound }
    ring := { powerOnRing with
      slots := ((powerOnRing.slots.set 0 (.inLine order)).set 1 (.loading order)).set 2 (.queued order)
      load := 2, tail := 3, occupied := 3, queued := 1 } }

/-- A RESTART taken as a bare request row, with and without another request outstanding, one that came as a frame,
and none taken. -/
theorem test_witness_restart :
    ((restarting none).port.restartDue = true ∧ ¬ RestartReplyOwed (restarting none)) ∧
    ((restarting (some (goodFrame 0x70 []))).port.restartDue = true ∧
      ¬ RestartReplyOwed (restarting (some (goodFrame 0x70 [])))) ∧
    RestartReplyOwed (restarting (some (goodFrame 0x71 []))) ∧
    ((restarting none).ring.slots[(1 : Fin 64)] = .loading order ∧
      (restarting none).ring.slots[(0 : Fin 64)] = .inLine order ∧
      ∃ r ∈ (restarting none).tracker.train, r.slot = 0) ∧
    base.port.restartDue = false := by
  refine ⟨⟨rfl, ?_⟩, ⟨rfl, ?_⟩, ⟨rfl, goodFrame 0x71 [], rfl, by decide⟩, by decide +kernel, rfl⟩
  · rintro ⟨-, f, hf, -⟩; cases hf
  · rintro ⟨-, f, hf, h⟩; cases hf; exact absurd h (by decide)

/-- A RESTART that came as a frame waits for its reply and takes effect as that has been sent (R207): the request
behind it meets a part at its restart state. -/
theorem test_restart_with_its_reply :
    after .restartTakesEffect (after (.frameReceived (goodFrame 0x71 [])) base) =
      after (.frameReceived (goodFrame 0x71 [])) base ∧
    (after .replySent (after (.frameReceived (goodFrame 0x71 [])) base)).settings.lastReset = .restartRequest ∧
    (after .replySent (after (.frameReceived (goodFrame 0x71 [])) base)).port.restartDue = false := by
  decide +kernel

theorem test_witness_slice_events :
    (let s := slicing (lineIn .run [record 4 5000 0 .none]) 500;
      s.arbiter.slice = some ⟨1, 2, 500, false⟩ ∧ SupplyFree s ∧ s.arbiter.sliceTimer.isSome = true) ∧
    (∀ x, base.arbiter.slice = some x → x.sequence ≠ 9) ∧ base.arbiter.enable = false ∧
    (slicing base 500).arbiter.zones[(2 : Fin 6)].state = .delivering ∧
    (slicing base 500).arbiter.zones[(2 : Fin 6)].pendingEnd ≠ .halt ∧
    (zoned { powerOnZone with state := .idle }).arbiter.zones[(0 : Fin 6)].state = .idle := by
  refine ⟨by decide +kernel, ?_, by decide +kernel, by decide +kernel, by decide +kernel, by decide +kernel⟩
  intro x h; cases h

/-- A slice of zone 3 at its end, its channel as given. -/
def ending (c : Zone) : State :=
  let s := slicing base 500
  { s with arbiter := { s.arbiter with zones := s.arbiter.zones.set 2 c } }

/-- The slice's end goes through each case of R62 in some state: a pending halt, a pending disable, a spent budget, a
pause, a step, a forced slice, a full block, a block that continues. A burst that yields is section 3.13's. -/
theorem test_witness_slice_decisions :
    (after (.guardAsserted 3) (slicing base 500)).arbiter.zones[(2 : Fin 6)].pendingEnd = .halt ∧
    (after (.disableZone 3) (slicing base 500)).arbiter.zones[(2 : Fin 6)].pendingEnd = .disable ∧
    (after (.pauseZone 3) (slicing base 500)).arbiter.zones[(2 : Fin 6)].paused = true ∧
    1 < (slicing base 500).arbiter.zones[(2 : Fin 6)].remaining ∧
    (let s := slicing (lineIn .run [record 4 5000 0 .none]) 500;
     let b := { s with arbiter := { s.arbiter with
        zones := s.arbiter.zones.set 2 { powerOnZone with
          settings := { defaultZoneSettings with mode := .block }
          state := .delivering, blockCount := 1, remaining := 5 } } };
      (after (.sliceDone 1 500) b).arbiter.zones[(2 : Fin 6)].request = true ∧
      (after (.sliceDone 1 500) b).arbiter.slice = some ⟨2, 2, 500, false⟩) ∧
    (let c := { powerOnZone with state := .delivering, blockCount := 3, remaining := 5 };
     GrantEnds ⟨1, 2, 500, false⟩ (ending { c with settings := { defaultZoneSettings with mode := .step } })
        (ending c) ∧
      GrantEnds ⟨1, 2, 500, true⟩ (ending c) (ending c) ∧
      GrantEnds ⟨1, 2, 500, false⟩
        (ending { c with settings := { defaultZoneSettings with mode := .block, blockSize := 3 } }) (ending c) ∧
      GrantEnds ⟨4, 5, 1500, false⟩ burst burst ∧
      ¬ GrantEnds ⟨1, 2, 500, false⟩
        (ending { c with settings := { defaultZoneSettings with mode := .block, blockSize := 4 } })
        (ending { c with request := true })) := by decide +kernel

theorem test_witness_readings :
    (let s := lineIn .run [record 12 19100 120 .awaiting];
      s.tracker.exitRecord = some (record 12 19100 120 .awaiting) ∧ s.tracker.line ≠ .purging ∧
        s.recipes.entries[(0 : Fin 32)] = some (entry .valid) ∧
        (s.updated (record 12 19100 120 .awaiting)).aged = false) ∧
    (let r := { record 12 19100 120 .awaiting with holdTime := 600001 };
      ((lineIn .run [r]).updated r).aged = true) ∧
    (lineIn .purging []).tracker.line = .purging ∧
    (let s := lineIn .run [record 12 19100 120 .awaiting];
      ({ s with tracker := { s.tracker with readingTimer := some ⟨0, 1500⟩ } }).tracker.readingTimer.isSome = true) ∧
    (base.tracker.readingTimer = none ∧ base.tracker.surveyTimer = none) ∧
    (let s := lineIn .run [record 12 19100 120 .good, record 3 5000 0 .none];
      TrainOrdered s ∧ ({ s with tracker := { s.tracker with surveyTimer := some ⟨0, 250⟩ } }
        ).tracker.surveyTimer.isSome = true) := by decide +kernel

/-- A GOOD billet at the exit, PRESS_READY asserted. -/
def readyExit : State :=
  let s := lineIn .run [record 12 19100 120 .good]
  { s with pins := { s.pins with pressReady := true } }

theorem test_witness_calls :
    (readyExit.cadence.line = .run ∧ PressReadyFollows readyExit ∧ readyExit.pins.pressReady = true ∧
      readyExit.tracker.exitRecord = some (record 12 19100 120 .good)) ∧
    (let s := inFlight (lineIn .run []) .divert;
      PressReadyFollows s ∧ s.pins.pressReady = false ∧
        ({ s.cadence with pendingCall := true } : Cadence).operation.isSome = true) ∧
    (lineIn .hold []).cadence.line ≠ .run := by decide +kernel

theorem test_witness_press_stop :
    (PressReadyFollows (lineIn .run []) ∧ (lineIn .run []).settings.holdDelay ≠ 0) ∧
    (let s := { lineIn .run [] with settings := { defaultSettings with holdDelay := 0 } };
      s.settings.holdDelay = 0 ∧ s.cadence.line = .run ∧ s.cadence.pressStop = false) ∧
    (let s := { lineIn .run [] with cadence := { (lineIn .run []).cadence with holdDelay := some ⟨0, 20000⟩ } };
      s.cadence.holdDelay.isSome = true ∧ s.cadence.line = .run ∧ s.cadence.pressStop = false) ∧
    (let s := { lineIn .hold [] with cadence := { (lineIn .hold []).cadence with pressStop := true } };
      PressReadyFollows s ∧ s.cadence.line = .hold ∧ s.cadence.pressStop = true ∧ s.cadence.manual = false ∧
        s.cadence.supply = false) ∧
    (lineIn .stopped []).cadence.line ≠ .run := by decide +kernel

theorem test_witness_push_done :
    (let s := inFlight (lineIn .run [record 11 18000 50 .none]) (.push none);
      s.cadence.line ≠ .purging ∧ TrainOrdered s ∧ s.tracker.exitRecord = none ∧ LineKnown s) ∧
    (∀ n : Fin 14, 1 ≤ n.val →
      let s := inFlight (lineIn .purging [record 11 18000 50 .none]) (.push none);
      let e := { s with cadence := { s.cadence with purgeStep := n.val } };
      e.cadence.line = .purging ∧ TrainOrdered e ∧ e.tracker.exitRecord = none ∧ LineKnown e ∧
        UnjudgedBelowExit e ∧ PurgeInStep e) := by decide +kernel

/-- An IN_LINE order's billet at the exit, with an operation in flight. -/
def leaving (line : LineState) (v : Verdict) (o : Operation) : State :=
  let s := inFlight (lineIn line [record 12 19100 120 v]) o
  { s with ring := { powerOnRing with
      slots := powerOnRing.slots.set 0 (.inLine order), load := 1, tail := 1, occupied := 1 } }

theorem test_witness_exit_leaves :
    (let s := leaving .run .good .extract;
      s.cadence.line ≠ .purging ∧ TrainOrdered s ∧ s.tracker.exitRecord = some (record 12 19100 120 .good) ∧
        s.ring.slots[(0 : Fin 64)] = .inLine order) ∧
    (leaving .run .rejectCold .divert).cadence.operation = some .divert ∧
    rejectOf .rejectCold = some .rejectCold ∧
    ((leaving .purging .none .divert).cadence.line = .purging ∧ TrainOrdered (leaving .purging .none .divert)) ∧
    (inFlight (lineIn .purging []) .divert).tracker.exitRecord = none := by decide +kernel

/-- What those completions retire: DELIVERED, REJECT_COLD and PURGED. -/
theorem test_retired_verdicts :
    (after .extractDone (leaving .run .good .extract)).ring.slots[0] =
      .done order ⟨.delivered, none, 0, 0, 0, 19100⟩ ∧
    (after .divertDone (leaving .run .rejectCold .divert)).ring.slots[0] =
      .done order ⟨.rejectCold, none, 0, 0, 0, 19100⟩ ∧
    (after .divertDone (leaving .purging .none .divert)).ring.slots[0] =
      .done order ⟨.purged, none, 0, 0, 0, 19100⟩ := by decide +kernel

/-- A retirement with REPORT and without DELAY, BATCH_THRESHOLD being 0, raises ORDER_DONE at once; one with DELAY
loads the delay timer (R135). -/
theorem test_retirement_batched :
    (let s := leaving .run .good .extract
     let direct := { s with settings := { defaultSettings with batchThreshold := 0 } };
     (after .extractDone direct).isPending .orderDone = true ∧ (after .extractDone direct).ring.batch = 0) ∧
    (let s := leaving .run .good .extract
     let delayed := { s with
        ring := { s.ring with slots := s.ring.slots.set 0 (.inLine { order with delay := true }) }
        settings := { defaultSettings with batchThreshold := 2, batchDelay := 40 } };
     (after .extractDone delayed).ring.batch = 1 ∧
       (after .extractDone delayed).ring.batchTimer = some ⟨0, 40⟩) := by decide +kernel

/-- An EXTRACT that times out: the mark cleared, the call declined (R106). -/
theorem test_extract_timeout_declines :
    (let s := inFlight (lineIn .run [{ record 12 19100 120 .good with extracting := true }]) .extract;
     (after .handlingTimerExpiry s).tracker.train.map (fun r => (r.extracting, r.suspect)) = [(false, true)] ∧
       (after .handlingTimerExpiry s).wires.declinePulses = 1) := by decide +kernel

/-- A push is due with two orders marked NO_RECIPE before a loadable one, three queued at a RING_LOW_MARK of 1. -/
def skipping : State :=
  let s := lineIn .run []
  { s with
    cadence := { s.cadence with minPush := some ⟨0, 15000⟩ }
    settings := { defaultSettings with ringLowMark := 1, batchThreshold := 0 }
    ring := { powerOnRing with
      slots := ((powerOnRing.slots.set 0 (.queued { order with resolution := .noRecipe })).set 1
        (.queued { order with resolution := .noRecipe, report := false })).set 2 (.queued order)
      tail := 3, occupied := 3, queued := 3 } }

/-- The load decision retires both NO_RECIPE with a skip pulse each, loads the third and raises RING_LOW
(R129, R138). -/
theorem test_push_skips_orders_without_recipe :
    (skippedOrders skipping).length = 2 ∧
    (after .minPushTimerExpiry skipping).cadence.operation = some (.push (some 2)) ∧
    (after .minPushTimerExpiry skipping).ring.slots[1] =
      .done { order with resolution := .noRecipe, report := false } ⟨.noRecipe, none, 0, 0, 0, 0⟩ ∧
    (after .minPushTimerExpiry skipping).wires.skipPulses = 2 ∧
    (after .minPushTimerExpiry skipping).isPending .ringLow = true ∧
    (after .minPushTimerExpiry skipping).isPending .orderDone = true := by decide +kernel

theorem test_witness_timers :
    (let s := inFlight (lineIn .run []) .divert;
      s.cadence.operation.isSome = true ∧ s.cadence.handlingTimer.isSome = true) ∧
    (let s := { lineIn .run [] with cadence := { (lineIn .run []).cadence with minPush := some ⟨0, 15000⟩ } };
      PressReadyFollows s ∧ s.cadence.minPush.isSome = true ∧ ChoicePushes { s.cadence with minPush := none }) ∧
    (PressReadyFollows skipping ∧ ChoicePushes { skipping.cadence with minPush := none }) ∧
    (let s := { lineIn .run [record 11 5000 0 .none] with cadence := { (lineIn .run []).cadence with
        minPush := some ⟨0, 15000⟩, readiness := .notReady } };
      s.cadence.line = .run ∧ s.cadence.operation = none ∧ s.cadence.exitVerdict = none ∧
        s.cadence.coldWait = .stopped ∧ s.settings.coldWait ≠ 0 ∧
        ({ s with settings := { defaultSettings with coldWait := 0 } }).settings.coldWait = 0) ∧
    (let s := { lineIn .run [record 11 5000 0 .none] with cadence := { (lineIn .run []).cadence with
        coldWait := .running ⟨0, 30000⟩, readiness := .notReady } };
      PressReadyFollows s ∧ ChoicePushes { s.cadence with coldWait := .expired }) ∧
    (base.cadence.minPush = none ∧ base.cadence.coldWait = .stopped) := by decide +kernel

/-- The choice is idle in STOPPED, as for a timer that expires there. -/
theorem test_witness_choice_idle : ChoiceIdle { (lineIn .stopped []).cadence with minPush := none } :=
  .inl (by decide +kernel)

theorem test_witness_ring_and_fetch_timeouts :
    (let s := { base with ring := { powerOnRing with batch := 2, batchTimer := some ⟨0, 500⟩ } };
      s.ring.batchTimer.isSome = true ∧ 0 < s.ring.batch) ∧
    (blockedSet.recipes.wants.find? (fun x => x.key = ⟨50, 1⟩) = some ⟨⟨50, 1⟩, 15, 799000, 5000⟩ ∧
      blockedSet.recipes.entries[(15 : Fin 32)] =
        some ⟨⟨50, 1⟩, .pending, zeroBody, .writeThrough, 0, 0, false, 1⟩) ∧
    base.recipes.wants = [] := by decide +kernel

/-- A billet in zone 2 with its order IN_LINE, one more LOADING in a push. -/
def column : State :=
  { inFlight (lineIn .run [record 3 5000 0 .none]) (.push (some 1)) with
    ring := { powerOnRing with
      slots := (powerOnRing.slots.set 0 (.inLine order)).set 1 (.loading order)
      load := 2, tail := 2, occupied := 2 }
    recipes := { powerOnRecipes with
      entries := powerOnRecipes.entries.set 0 (some { entry .valid with useCount := 2 }) } }

theorem test_witness_invariants :
    (AlertFollows base ∧ PortInOrder base ∧ step base = .next base.tick) ∧ LineLaws base ∧
    ConverterLaws { slicing base 500 with
      tracker := { powerOnTracker with demand := powerOnTracker.demand.set 2 false } } ∧ RangeLaws base := by
  refine ⟨⟨by decide +kernel, by decide +kernel, rfl⟩, by decide +kernel, by decide +kernel, by decide +kernel⟩

theorem test_witness_column_and_table :
    PressReadyFollows column ∧
    ColumnLaws { column with tracker := { column.tracker with surveyTimer := some ⟨0, 250⟩ } } ∧
    TableLaws column := by
  refine ⟨by decide +kernel, by decide +kernel, by decide +kernel⟩

theorem test_witness_temperatures :
    (let s := lineIn .run [record 4 400 4000 .none, record 3 25600 0 .none];
      SettingsInRange s ∧ TemperaturesInRange s ∧ step s = .next s.tick) ∧
    base.settings.ambient ≤ (record 4 25600 4000 .none).tm ∧ (record 4 25600 4000 .none).tm ≤ 25600 ∧
    (record 4 25600 4000 .none).sx ≤ 4000 := by
  refine ⟨⟨by decide +kernel, by decide +kernel, rfl⟩, by decide⟩

end Sys2Proof.Machine.Test
end

section
/-! SUPPORT. The column: what the laws of train, ring and push in flight read of the state, and those laws on it (O58). -/

namespace Sys2Proof.Machine

/-! ### The column as a view of the state -/

/-- What the laws of the column read of a billet record. -/
structure Place where
  slot     : Fin 64
  position : Nat
  verdict  : Verdict

/-- The place of a record in the column. -/
def BilletRecord.place (r : BilletRecord) : Place := ⟨r.slot, r.position, r.verdict⟩

/-- What the laws of the column read of the state: the train's places, whether the survey timer runs, the ring without
its batching, the operation in flight and the exit verdict known to the cadence unit. -/
structure Column where
  places    : List Place
  survey    : Bool
  ring      : Ring
  operation : Option Operation
  exit      : Option Verdict

/-- The ring with its batching left out, which no law of the column reads. -/
def Ring.unbatched (r : Ring) : Ring := { r with batch := 0, batchTimer := none }

/-- The column of a state. -/
def State.column (s : State) : Column where
  places := s.tracker.train.map BilletRecord.place
  survey := s.tracker.surveyTimer.isSome
  ring := s.ring.unbatched
  operation := s.cadence.operation
  exit := s.cadence.exitVerdict

/-- The verdict at the exit: that of the oldest place, if it is position 12 (R2). -/
def exitOf : List Place → Option Verdict
  | p :: _ => if p.position = 12 then some p.verdict else none
  | [] => none

/-- The column with nothing in flight that shows these places and this ring. -/
def Column.settled (places : List Place) (ring : Ring) : Column where
  places := places
  survey := !places.isEmpty
  ring := ring
  operation := none
  exit := exitOf places

/-- The ring's slots stand in one run behind its pointers (R120, R123). -/
def Ring.InOrder (r : Ring) : Prop :=
  r.queued ≤ r.occupied ∧ r.occupied ≤ 64 ∧
  r.tail.val = (r.reclaim.val + r.occupied) % 64 ∧
  r.load.val = (r.reclaim.val + (r.occupied - r.queued)) % 64 ∧
  ∀ i : Fin 64,
    (r.ahead i < r.occupied - r.queued → r.slots[i].pastQueue = true) ∧
    (r.occupied - r.queued ≤ r.ahead i ∧ r.ahead i < r.occupied → r.slots[i].isQueued = true) ∧
    (r.occupied ≤ r.ahead i → r.slots[i] = .free)

/-- The laws of the column, read off the view. -/
structure Column.Lawful (c : Column) : Prop where
  descending : c.places.Pairwise (fun a b => b.position < a.position)
  bounded    : ∀ p ∈ c.places, p.position ≤ 12
  unjudged   : ∀ p ∈ c.places, p.position ≠ 12 → p.verdict = .none
  ring       : c.ring.InOrder
  pushUnder  : ∀ loaded, c.operation = some (.push loaded) → exitOf c.places = none
  exitKnown  : c.exit = exitOf c.places
  records    : ∀ i : Fin 64, c.places.countP (fun p => p.slot == i) =
    if c.ring.slots[i].isInLine then 1 else 0
  loading    : ∀ i : Fin 64, c.ring.slots[i].isLoading = true ↔ c.operation = some (.push (some i))
  resolved   : ∀ i : Fin 64, c.ring.slots[i].loadsNothing = false
  surveyed   : c.survey = !c.places.isEmpty

/-- The exit record's verdict is the verdict at the exit of the view. -/
theorem State.exitOf_column (s : State) :
    exitOf s.column.places = s.tracker.exitRecord.map BilletRecord.verdict := by
  unfold Tracker.exitRecord State.column
  cases s.tracker.train with
  | nil => rfl
  | cons r rest => simp only [List.map_cons, exitOf, BilletRecord.place]; split <;> rfl

/-- The exit is empty exactly where the view has no verdict there. -/
theorem State.exitRecord_eq_none_iff (s : State) :
    s.tracker.exitRecord = none ↔ exitOf s.column.places = none := by
  rw [s.exitOf_column, Option.map_eq_none_iff]

/-- The laws of the column are laws of the view. -/
theorem columnLaws_iff (s : State) : ColumnLaws s ↔ s.column.Lawful := by
  have ordered : TrainOrdered s ↔ s.column.places.Pairwise (fun a b => b.position < a.position) ∧
      ∀ p ∈ s.column.places, p.position ≤ 12 := by
    simp [State.column, List.pairwise_map, BilletRecord.place]
  have judged : UnjudgedBelowExit s ↔
      ∀ p ∈ s.column.places, p.position ≠ 12 → p.verdict = .none := by
    simp [State.column, BilletRecord.place]
  have records : (∀ i : Fin 64, s.tracker.train.countP (fun r => r.slot == i) =
        if s.ring.slots[i].isInLine then 1 else 0) ↔
      ∀ i : Fin 64, s.column.places.countP (fun p => p.slot == i) =
        if s.column.ring.slots[i].isInLine then 1 else 0 := by
    simp only [State.column, List.countP_map]; rfl
  have survey : SurveyRuns s ↔ s.column.survey = !s.column.places.isEmpty := by
    simp [SurveyRuns, State.column]
  constructor
  · rintro ⟨ho, hr, hp, he, ⟨hn, hl⟩, hg, hs, hu⟩
    exact ⟨(ordered.1 ho).1, (ordered.1 ho).2, judged.1 hu, hr,
      fun l h => s.exitRecord_eq_none_iff.1 (hp l h), he.trans s.exitOf_column.symm, records.1 hn, hl, hg,
      survey.1 hs⟩
  · intro h
    exact ⟨ordered.2 ⟨h.descending, h.bounded⟩, h.ring,
      fun l e => s.exitRecord_eq_none_iff.2 (h.pushUnder l e), h.exitKnown.trans s.exitOf_column,
      ⟨records.2 h.records, h.loading⟩, h.resolved, survey.2 h.surveyed, judged.2 h.unjudged⟩

end Sys2Proof.Machine
end

section
/-! SUPPORT. The moves that a part of a command can make with the column and the temperatures, and the shared operations
as chains of such moves (O58, O60). -/

namespace Sys2Proof.Machine

/-! ### Moves of the column -/

/-- The temperatures of a record lie in the range of R3. -/
def BilletRecord.Temperate (ambient : Nat) (r : BilletRecord) : Prop := ambient ≤ r.tm ∧ r.tm ≤ 25600 ∧ r.sx ≤ 4000

/-- Every record's temperatures lie in range, under an AMBIENT that leaves a range at all. -/
def State.Temperate (s : State) : Prop :=
  s.settings.ambient ≤ 25600 ∧ ∀ r ∈ s.tracker.train, r.Temperate s.settings.ambient

/-- What the range of temperatures reads of the state. -/
def State.heats (s : State) : Nat × List (Nat × Nat) :=
  (s.settings.ambient, s.tracker.train.map (fun r => (r.tm, r.sx)))

theorem State.temperate_iff_heats (s : State) :
    s.Temperate ↔ s.heats.1 ≤ 25600 ∧ ∀ x ∈ s.heats.2, s.heats.1 ≤ x.1 ∧ x.1 ≤ 25600 ∧ x.2 ≤ 4000 := by
  simp [State.Temperate, State.heats, BilletRecord.Temperate]

/-- Every block's restart state before PRESS_STOP is looked at (R207, R103). -/
def State.restartBlocks (s : State) : State :=
  let s1 := (((s.loseRecords).loseLoading).restartRecipes).clearBatch
  let s2 := s1.setAttention { s1.attention with pending := Source.restarted.bit }
  ((s2.restartArbiter).restartTracker).restartLine

theorem State.restart_eq (s : State) : s.restart = s.restartBlocks.takePressStop := rfl

/-- Every block's power-on state before PRESS_STOP is looked at (R103). -/
def State.powerOnBlocks (s : State) : State :=
  { State.reset with
    port := resetPort s.pins.address
    pins := { s.pins.negated with alert := false }
    wires := s.wires
    pending := s.pending }

theorem powerOnReset_eq (s : State) : powerOnReset s = s.powerOnBlocks.takePressStop := rfl

/-- One move of the column: all that a part of a command can do to the train, the ring and the operation in flight.
`free` says that an operation is started only while none is in flight, as PRESS_READY at its level ensures (R85). -/
inductive Move (free : Prop) : State → State → Prop
  /-- Nothing the laws of the column read is changed, and temperatures are kept in range. -/
  | same {s t : State} (column : t.column = s.column) (heat : s.Temperate → t.Temperate) : Move free s t
  /-- The exit record is rewritten in its place, and its verdict reported (R22 to R24). -/
  | judged {s : State} (f : BilletRecord → BilletRecord)
      (place : ∀ r, s.tracker.exitRecord = some r → (f r).slot = r.slot ∧ (f r).position = r.position)
      (heat : s.Temperate → ∀ r, s.tracker.exitRecord = some r → (f r).Temperate s.settings.ambient) :
      Move free s ((s.updateExit f).reportExit)
  /-- A DIVERT, an EXTRACT or a gap push starts (R98, R100, R111, R112). -/
  | started {s : State} (o : Operation) (idle : free → s.cadence.operation = none)
      (gap : ∀ loaded, o = .push loaded → loaded = none ∧ s.cadence.exitVerdict = none) :
      Move free s (s.startOperation o)
  /-- A push starts in RUN, with its load decision (R94, R96). -/
  | pushStarted {s : State} (idle : s.cadence.operation = none) (empty : s.cadence.exitVerdict = none) :
      Move free s s.startPush
  /-- An operation that is no push ends (R89). -/
  | ended {s : State} (other : ∀ loaded, s.cadence.operation ≠ some (.push loaded)) : Move free s s.endOperation
  /-- A push ends and the column is taken as pushed (R15, R97, R105). -/
  | pushed {s : State} (loaded : Option (Fin 64)) (inFlight : s.cadence.operation = some (.push loaded)) :
      Move free s ((s.endOperation.columnPushed loaded).reportExit)
  /-- The exit record leaves and its order is retired (R16). -/
  | removed {s : State} (v : BilletRecord → OrderVerdict) (idle : s.cadence.operation = none) :
      Move free s (s.removeExit v)
  /-- An order is posted (R124). -/
  | queued {s : State} (order : BilletOrder) (room : s.ring.occupied < 64) : Move free s (s.queueOrder order)
  /-- The newest QUEUED orders are withdrawn (R126). -/
  | withdrawn {s : State} (n : Nat) : Move free s (s.withdrawNewest n).1
  /-- The oldest DONE orders are reclaimed (R128). -/
  | reclaimed {s : State} (n : Nat) : Move free s (s.reclaimOldest n).1
  /-- QUEUED orders are marked NO_RECIPE (R130). -/
  | marked {s : State} (i : Fin 32) : Move free s (s.markNoRecipe i)
  /-- A RESTART takes effect (R207). -/
  | restarted {s : State} : Move free s s.restartBlocks
  /-- Power-on. -/
  | reset {s : State} : Move free s s.powerOnBlocks

/-- A chain of moves. -/
abbrev Chain (free : Prop) : State → State → Prop := Relation.ReflTransGen (Move free)

theorem Move.chain {free : Prop} {s t : State} (h : Move free s t) : Chain free s t := .single h

/-- A state that shows the same column and the same temperatures is one move away. -/
theorem Chain.same {free : Prop} {s t : State} (column : t.column = s.column) (heats : t.heats = s.heats) :
    Chain free s t :=
  (Move.same column (fun h => by rwa [State.temperate_iff_heats, heats, ← State.temperate_iff_heats])).chain

/-- A chain from a state that shows the same column and the same temperatures. -/
theorem Chain.ofSame {free : Prop} {s t u : State} (rest : Chain free t u) (column : t.column = s.column)
    (heats : t.heats = s.heats) : Chain free s u :=
  (Chain.same column heats).trans rest

/-! ### Temperatures of one record -/

/-- A thermal update lowers the temperatures, Tm no further than AMBIENT (R7). -/
theorem thermalUpdate_tm (ambient : Nat) (line : LineState) (body : Body) (now : Clock) (r : BilletRecord)
    (h : ambient ≤ r.tm) :
    ambient ≤ (thermalUpdate ambient line body now r).tm ∧ (thermalUpdate ambient line body now r).tm ≤ r.tm ∧
    (thermalUpdate ambient line body now r).sx ≤ r.sx := by
  simp only [thermalUpdate]; omega

theorem State.updated_temperate {s : State} {r : BilletRecord} (h : r.Temperate s.settings.ambient) :
    (s.updated r).Temperate s.settings.ambient := by
  obtain ⟨lo, hi, sx⟩ := h
  have := thermalUpdate_tm s.settings.ambient s.tracker.line (s.bodyOf r) s.tracker.clock r lo
  exact ⟨this.1, this.2.1.trans hi, this.2.2.trans sx⟩

theorem heat_temperate {ambient : Nat} (body : Body) (trim : Int) (e : Nat) {r : BilletRecord}
    (h : r.Temperate ambient) : (heat body trim e r).Temperate ambient := by
  obtain ⟨lo, hi, sx⟩ := h
  simp only [heat, BilletRecord.Temperate]
  omega

theorem State.heatStep_temperate {s : State} (e : Nat) {r : BilletRecord}
    (h : r.Temperate s.settings.ambient) : (s.heatStep e r).Temperate s.settings.ambient :=
  heat_temperate _ _ e (State.updated_temperate h)

theorem State.credited_temperate {s : State} (z : Fin 6) (e : Nat) {r : BilletRecord}
    (h : r.Temperate s.settings.ambient) :
    (s.credited z e r).Temperate s.settings.ambient := by
  unfold State.credited
  split
  · exact State.heatStep_temperate _ h
  · split
    · exact State.heatStep_temperate _ h
    · exact h

/-! ### Places of updated records -/

/-- The fields a thermal update writes (R7, R8). -/
theorem State.updated_shape (s : State) (r : BilletRecord) :
    ∃ tm sx holdTime aged, s.updated r =
      { r with tm := tm, sx := sx, holdTime := holdTime, aged := aged, lastUpdate := s.tracker.clock } :=
  ⟨_, _, _, _, rfl⟩

/-- The fields the heat of a share writes (R12). -/
theorem heat_shape (body : Body) (trim : Int) (e : Nat) (r : BilletRecord) :
    ∃ tm sx energy, heat body trim e r = { r with tm := tm, sx := sx, energy := energy } :=
  ⟨_, _, _, rfl⟩

@[simp] theorem State.updated_place (s : State) (r : BilletRecord) : (s.updated r).place = r.place := by
  obtain ⟨tm, sx, holdTime, aged, h⟩ := s.updated_shape r
  rw [h]; rfl

theorem State.updated_position (s : State) (r : BilletRecord) : (s.updated r).position = r.position :=
  (congrArg Place.position (s.updated_place r) :)

theorem heat_place (body : Body) (trim : Int) (e : Nat) (r : BilletRecord) :
    (heat body trim e r).place = r.place := by
  obtain ⟨tm, sx, energy, h⟩ := heat_shape body trim e r
  rw [h]; rfl

@[simp] theorem State.heatStep_place (s : State) (e : Nat) (r : BilletRecord) :
    (s.heatStep e r).place = r.place :=
  (heat_place _ _ _ _).trans (s.updated_place r)

@[simp] theorem State.credited_place (s : State) (z : Fin 6) (e : Nat) (r : BilletRecord) :
    (s.credited z e r).place = r.place := by
  unfold State.credited
  split
  · exact s.heatStep_place _ r
  · split
    · exact s.heatStep_place _ r
    · rfl

/-- The exit record is one of the train, at position 12. -/
theorem Tracker.exitRecord_eq_some_iff {t : Tracker} {r : BilletRecord} :
    t.exitRecord = some r ↔ t.train = r :: t.train.tail ∧ r.position = 12 := by
  unfold Tracker.exitRecord
  cases t.train with
  | nil => simp
  | cons x rest =>
    by_cases h : x.position = 12
    · simp only [h, if_true, Option.some.injEq, List.tail_cons, List.cons.injEq, and_true]
      exact ⟨fun e => ⟨e, e ▸ h⟩, And.left⟩
    · simp only [h, if_false, List.tail_cons, List.cons.injEq, and_true]
      exact ⟨nofun, fun e => absurd (e.1 ▸ e.2) h⟩

theorem Tracker.exitRecord_mem {t : Tracker} {r : BilletRecord} (h : t.exitRecord = some r) : r ∈ t.train := by
  rw [(Tracker.exitRecord_eq_some_iff.1 h).1]; exact List.mem_cons_self

/-! ### Chains of the shared operations -/

variable {free : Prop} (s : State)

theorem updateTrain_move : Move free s s.updateTrain := by
  refine .same (by simp [State.column]) fun ⟨top, h⟩ => ⟨top, ?_⟩
  simp only [State.updateTrain_tracker, State.updateTrain_frame, List.forall_mem_map]
  exact fun r hr => State.updated_temperate (h r hr)

theorem creditZone_move (z : Fin 6) (e : Nat) : Move free s (s.creditZone z e) := by
  refine .same (by simp [State.column, State.creditZone]) fun ⟨top, h⟩ => ⟨top, ?_⟩
  simp only [State.creditZone, List.forall_mem_map]
  exact fun r hr => State.credited_temperate z e (h r hr)

theorem evaluateAll_chain : Chain free s s.evaluateAll :=
  .same (by simp [State.column]) (by simp [State.heats])

theorem grant_chain : Chain free s s.grant :=
  .same (by simp [State.column]) (by simp [State.heats])

theorem settle_chain : Chain free s s.settle :=
  .same (by simp [State.column]) (by simp [State.heats])

theorem raiseIf_chain (b : Bool) (x : Source) : Chain free s (s.raiseIf b x) :=
  .same (by simp [State.column]) (by simp [State.heats])

theorem accept_chain (data : List Byte) : Chain free s (s.accept data) :=
  .same (by simp [State.column]) (by simp [State.heats])

theorem refuse_chain (code : ResultCode) : Chain free s (s.refuse code) :=
  .same (by simp [State.column]) (by simp [State.heats])

theorem decline_chain : Chain free s s.decline :=
  .same (by simp [State.column]) (by simp [State.heats])

theorem reportReadiness_chain : Chain free s s.reportReadiness :=
  .same (by simp [State.column, State.reportReadiness]) (by simp [State.heats])

theorem setWaits_chain (w : ColdWait) : Chain free s { s with cadence.coldWait := w } :=
  .same rfl rfl

/-- The re-check at exit changes the verdict of the exit record at most (R24). -/
theorem recheckExit_move : Move free s s.recheckExit := by
  have shape : ∀ r, ∃ v, s.rechecked r = { r with verdict := v } := by
    intro r
    unfold State.rechecked
    split
    · exact ⟨_, rfl⟩
    · exact ⟨r.verdict, rfl⟩
  refine .judged s.rechecked (fun r _ => ?_) (fun h r e => ?_) <;> obtain ⟨v, hv⟩ := shape r <;> rw [hv]
  · exact ⟨rfl, rfl⟩
  · exact h.2 r (Tracker.exitRecord_mem e)

theorem notice_chain (new : LineState) : Chain free s (s.notice new) := by
  let s1 := s.updateTrain
  let s2 := { s1 with
    tracker.line := new
    tracker.readingTimer := if new = LineState.purging then none else s1.tracker.readingTimer }
  have taken : Chain free s1 s2 := .same rfl rfl
  exact (updateTrain_move s).chain |>.trans taken |>.trans (evaluateAll_chain _)
    |>.trans (recheckExit_move _).chain |>.trans (reportReadiness_chain _) |>.trans (grant_chain _)

theorem declinePending_chain : Chain free s s.declinePending := by
  unfold State.declinePending
  split
  · exact .same (by simp [State.column]) (by simp [State.heats])
  · exact .refl

theorem moveLine_chain (new : LineState) : Chain free s (s.moveLine new) := by
  let s1 : State := { s with cadence.line := new }
  have entered : Chain free s (s1.notice new) :=
    (notice_chain s1 new).ofSame rfl rfl
  unfold State.moveLine
  dsimp only
  refine .trans ?_ (raiseIf_chain _ _ _)
  refine .trans ?_ (settle_chain _)
  split
  · exact entered.trans (declinePending_chain _) |>.trans (Chain.same rfl rfl)
  · exact entered

/-- An extraction mark changes nothing that the column or the range of temperatures reads. -/
theorem markExtracting_chain (mark : Bool) :
    Chain free s (s.updateExit (fun r => { r with extracting := mark })) := by
  unfold State.updateExit
  split
  · rename_i h
    split
    · exact .same (by simp [State.column, h, BilletRecord.place]) (by simp [State.heats, h])
    · exact .refl
  · exact .refl

theorem startExtract_chain (idle : free → s.cadence.operation = none) : Chain free s s.startExtract := by
  refine .tail ?_ (.started .extract (by simpa using idle) (fun _ h => by cases h))
  exact (markExtracting_chain _ true).ofSame rfl rfl

theorem startColdWait_chain (idle : s.cadence.operation = none) (empty : s.cadence.exitVerdict = none) :
    Chain free s s.startColdWait := by
  unfold State.startColdWait
  split
  · exact .tail (setWaits_chain s .expired) (.pushStarted idle empty)
  · exact setWaits_chain s _

theorem choose_chain : Chain free s s.choose := by
  rcases s.choose_cases with h | ⟨-, idle, ⟨v, -, -, h⟩ | ⟨-, -, h⟩ | ⟨empty, -, -, h⟩ | ⟨empty, -, -, h⟩⟩ <;> rw [h]
  · exact (Move.started .divert (fun _ => idle) (fun _ h => by cases h)).chain
  · exact startExtract_chain s (fun _ => idle)
  · exact (Move.pushStarted idle empty).chain
  · exact startColdWait_chain s idle empty

theorem chooseIfReported_chain (before : State) : Chain free s (s.chooseIfReported before) := by
  unfold State.chooseIfReported
  split
  · exact .refl
  · exact choose_chain s

theorem stopIfDrained_chain : Chain free s s.stopIfDrained := by
  unfold State.stopIfDrained
  split
  · exact moveLine_chain s _
  · exact .refl

theorem changeLine_chain (new : LineState) : Chain free s (s.changeLine new) := by
  unfold State.changeLine
  dsimp only
  split
  · exact (moveLine_chain s new).trans (stopIfDrained_chain _) |>.trans (choose_chain _)
  · exact moveLine_chain s new

theorem afterCauseAdded_chain : Chain free s s.afterCauseAdded := by
  unfold State.afterCauseAdded
  split
  · exact changeLine_chain s _
  · exact .refl

theorem afterCauseRemoved_chain (held : Bool) : Chain free s (s.afterCauseRemoved held) := by
  unfold State.afterCauseRemoved
  split
  · exact changeLine_chain s _
  · exact .refl

theorem addSupply_chain : Chain free s s.addSupply := by
  unfold State.addSupply
  split
  · exact .refl
  · exact (afterCauseAdded_chain _).ofSame rfl rfl

theorem addPressStop_chain : Chain free s s.addPressStop := by
  unfold State.addPressStop
  split
  · exact .refl
  · exact (afterCauseAdded_chain _).ofSame rfl rfl

theorem pressStopAsserts_chain : Chain free s s.pressStopAsserts := by
  unfold State.pressStopAsserts
  split
  · exact addPressStop_chain s
  · exact .same rfl rfl

theorem takePressStop_chain : Chain free s s.takePressStop := by
  unfold State.takePressStop
  split
  · exact pressStopAsserts_chain s
  · exact .refl

theorem restart_chain : Chain free s s.restart := Move.restarted.chain.trans (takePressStop_chain _)

theorem powerOnReset_chain : Chain free s (powerOnReset s) := Move.reset.chain.trans (takePressStop_chain _)

theorem afterCompletion_chain : Chain free s s.afterCompletion :=
  (stopIfDrained_chain s).trans (choose_chain _) |>.trans (settle_chain _)

end Sys2Proof.Machine
end

section
/-! SUPPORT. The operations that move the column, as chains of moves (O58, O60). -/

namespace Sys2Proof.Machine

/-! ### Frames of the shared operations that move the column -/

@[simp] theorem State.bindOrder_frame (s : State) (slot : Fin 64) :
    (s.bindOrder slot).port = s.port ∧ (s.bindOrder slot).recipes = s.recipes ∧
    (s.bindOrder slot).arbiter = s.arbiter ∧ (s.bindOrder slot).cadence = s.cadence ∧
    (s.bindOrder slot).settings = s.settings ∧ (s.bindOrder slot).pins = s.pins ∧
    (s.bindOrder slot).tracker.surveyTimer = s.tracker.surveyTimer ∧
    (s.bindOrder slot).tracker.clock = s.tracker.clock := by
  unfold State.bindOrder
  split
  · dsimp only
    split <;> simp
  · simp

@[simp] theorem State.startSurvey_frame (s : State) (wasEmpty : Bool) :
    (s.startSurvey wasEmpty).port = s.port ∧ (s.startSurvey wasEmpty).ring = s.ring ∧
    (s.startSurvey wasEmpty).recipes = s.recipes ∧ (s.startSurvey wasEmpty).arbiter = s.arbiter ∧
    (s.startSurvey wasEmpty).cadence = s.cadence ∧ (s.startSurvey wasEmpty).settings = s.settings ∧
    (s.startSurvey wasEmpty).pins = s.pins ∧
    (s.startSurvey wasEmpty).tracker.train = s.tracker.train := by
  unfold State.startSurvey
  split <;> simp

/-- The column taken as pushed: the train, the timers that depend on it, and the slot of the loaded order (R15). -/
@[simp] theorem State.columnPushed_frame (s : State) (loaded : Option (Fin 64)) :
    (s.columnPushed loaded).port = s.port ∧ (s.columnPushed loaded).recipes = s.recipes ∧
    (s.columnPushed loaded).arbiter = s.arbiter ∧ (s.columnPushed loaded).cadence = s.cadence ∧
    (s.columnPushed loaded).settings = s.settings ∧ (s.columnPushed loaded).pins = s.pins := by
  unfold State.columnPushed
  cases loaded <;> simp

@[simp] theorem State.pushCompleted_operation (s : State) (loaded : Option (Fin 64)) :
    (s.pushCompleted loaded).cadence.operation = s.cadence.operation := by
  unfold State.pushCompleted
  dsimp only
  split <;> simp [State.reportExit, State.reportReadiness]

/-- A learning step leaves the tracker's timers (R167). -/
@[simp] theorem State.learn_timers (s : State) (i : Fin 32) (residual : Int) (width : Nat) :
    (s.learn i residual width).tracker.surveyTimer = s.tracker.surveyTimer ∧
    (s.learn i residual width).tracker.readingTimer = s.tracker.readingTimer := by
  unfold State.learn
  split
  · simp
  · dsimp only
    split <;> simp

/-- A supply loss's credit, flags and stops change no operation and no exit verdict. -/
theorem State.creditExchange_cadence (s : State) (z : Fin 6) (e : Nat) :
    (s.creditExchange z e).cadence.operation = s.cadence.operation ∧
    (s.creditExchange z e).cadence.exitVerdict = s.cadence.exitVerdict ∧
    (s.creditExchange z e).tracker.train = (s.creditZone z e).tracker.train ∧
    (s.creditExchange z e).tracker.surveyTimer = s.tracker.surveyTimer := by
  unfold State.creditExchange
  dsimp only
  split <;> simp [State.reportReadiness, State.creditZone]

/-! ### Chains of the operations that move the column -/

section
variable {free : Prop} (s : State)

theorem closeSlice_chain (x : SliceRecord) (e : Nat) : Chain free s (s.closeSlice x e) := by
  have counted : Chain free s (s.updateZone x.zone (Zone.countSlice e)) := .same rfl rfl
  refine (counted.trans (creditZone_move _ x.zone e).chain).trans (Chain.same ?_ ?_)
  · have h := State.creditExchange_cadence (s.updateZone x.zone (Zone.countSlice e)) x.zone e
    simp [State.column, State.closeSlice, h]; rfl
  · have h := State.creditExchange_cadence (s.updateZone x.zone (Zone.countSlice e)) x.zone e
    simp [State.heats, State.closeSlice, h]

theorem loseSupply_chain (energy : SliceRecord → Nat) : Chain free s (s.loseSupply energy) := by
  unfold State.loseSupply
  cases s.arbiter.slice with
  | none => exact .same (by simp [State.column]) (by simp [State.heats])
  | some x =>
    exact (closeSlice_chain s x (energy x)).trans
      (Chain.same (by simp [State.column]) (by simp [State.heats]))

theorem supplyLoss_chain (energy : SliceRecord → Nat) : Chain free s (s.supplyLoss energy) :=
  (loseSupply_chain s energy).trans (addSupply_chain _) |>.trans (settle_chain _)

/-- The exit verdict reported depends on the train alone. -/
theorem reportExit_column_congr {s t : State} (train : t.tracker.train = s.tracker.train)
    (rest : t.column = s.column) : t.reportExit.column = s.reportExit.column := by
  have exit : t.tracker.exitRecord = s.tracker.exitRecord := by unfold Tracker.exitRecord; rw [train]
  have places := congrArg Column.places rest
  have survey := congrArg Column.survey rest
  have ring := congrArg Column.ring rest
  have operation := congrArg Column.operation rest
  simp only [State.column] at places survey ring operation
  simp [State.column, State.reportExit, exit, places, survey, ring, operation]

theorem pushCompleted_chain (loaded : Option (Fin 64)) (inFlight : s.cadence.operation = some (.push loaded)) :
    Chain free s (s.endOperation.pushCompleted loaded) := by
  let s1 := s.endOperation.columnPushed loaded
  let s2 := (s1.updateZones Zone.reloaded).evaluateAll
  have moved : Chain free s s1.reportExit := (Move.pushed loaded inFlight).chain
  have reported : Chain free s1.reportExit s2.reportExit :=
    .same (reportExit_column_congr (by simp [s2]) (by simp [s2, State.column])) (by simp [s2, State.heats])
  refine (moved.trans reported).trans (reportReadiness_chain _) |>.trans (grant_chain _) |>.trans (Chain.same ?_ ?_)
  · unfold State.pushCompleted
    dsimp only
    split <;> simp [State.column, s2, s1]
  · unfold State.pushCompleted
    dsimp only
    split <;> simp [State.heats, s2, s1]

theorem startPurgeDivert_chain (idle : s.cadence.operation = none) : Chain free s s.startPurgeDivert :=
  (Move.started .divert (fun _ => idle) (fun _ h => by cases h)).chain

theorem purgeNext_chain (idle : s.cadence.operation = none) : Chain free s s.purgeNext := by
  unfold State.purgeNext
  split
  · exact (startPurgeDivert_chain _ (by exact idle)).ofSame rfl rfl
  · exact (changeLine_chain _ _).ofSame rfl rfl

theorem suspectAll_chain : Chain free s s.suspectAll :=
  .same (by simp [State.column, State.suspectAll, BilletRecord.place]) (by simp [State.heats, State.suspectAll])

theorem timedOut_chain (o : Operation) (inFlight : s.cadence.operation = some o) :
    Chain free s (s.endOperation.timedOut o) := by
  cases o with
  | push loaded => exact (Move.pushed loaded inFlight).chain.trans (reportReadiness_chain _)
  | extract =>
    refine .trans (Move.ended (by simp [inFlight])).chain ?_
    exact (markExtracting_chain _ false).trans (decline_chain _)
  | divert => exact (Move.ended (by simp [inFlight])).chain

theorem handlingTimeout_chain (o : Operation) (inFlight : s.cadence.operation = some o) :
    Chain free s (s.handlingTimeout o) := by
  refine .trans ?_ (settle_chain _)
  refine (timedOut_chain s o inFlight).trans (suspectAll_chain _) |>.trans ?_
  exact (changeLine_chain _ _).ofSame rfl rfl

theorem endRemove_chain (v : BilletRecord → OrderVerdict)
    (other : ∀ loaded, s.cadence.operation ≠ some (.push loaded)) :
    Chain free s (s.endOperation.removeExit v) :=
  (Move.ended other).chain.trans (Move.removed v rfl).chain

theorem giveUp_chain (i : Fin 32) (cause : Cause) : Chain free s (s.giveUp i cause) :=
  .same (by simp [State.column]) (by simp [State.heats])

theorem learnFrom_chain (r : BilletRecord) (residual : Int) (width : Nat) :
    Chain free s (s.learnFrom r residual width) := by
  unfold State.learnFrom
  split
  · split
    · exact .refl
    · exact .same (by simp [State.column]) (by simp [State.heats])
  · exact .refl

/-- A hand-over of records and entries given up one after another (R161). -/
theorem sweep_chain : Chain free s s.sweep.1 := by
  have one : ∀ (x : State × Nat × Nat) (i : Fin 32), Chain free s x.1 → Chain free s (sweepEntry x i).1 := by
    intro x i h
    unfold sweepEntry
    dsimp only
    split
    · exact h
    · split
      · exact h
      · split
        · exact h
        · exact h.trans (giveUp_chain _ _ _)
  have fold : ∀ (entries : List (Fin 32)) (x : State × Nat × Nat), Chain free s x.1 →
      Chain free s (entries.foldl sweepEntry x).1 := by
    intro entries
    induction entries with
    | nil => exact fun x h => h
    | cons i rest ih => exact fun x h => ih _ (one x i h)
  exact fold _ _ .refl

theorem lookup_chain {k : Key} {found : Lookup} (h : s.lookup k = some found) : Chain free s found.after := by
  have used : ∀ r, Chain free s (s.addUse r) := fun r =>
    .same (by simp [State.column]) (by simp [State.heats])
  unfold State.lookup at h
  split at h
  · cases h; exact used _
  split at h
  · cases h; exact used _
  split at h
  · cases h; exact used _
  split at h
  · cases h
  split at h
  · cases h; exact .same (by simp [State.column]) (by simp [State.heats])
  · cases h

/-- A lookup leaves the ring to the order that is posted (R146). -/
theorem lookup_ring {k : Key} {found : Lookup} (h : s.lookup k = some found) : found.after.ring = s.ring := by
  unfold State.lookup at h
  split at h
  · cases h; rfl
  split at h
  · cases h; rfl
  split at h
  · cases h; rfl
  split at h
  · cases h
  split at h
  · cases h; simp
  · cases h

theorem afterLoad_chain (before : State) : Chain free s (s.afterLoad before) := by
  refine .trans ?_ (settle_chain _)
  refine .trans ?_ (chooseIfReported_chain _ _)
  refine .trans ?_ (grant_chain _)
  refine .trans ?_ (reportReadiness_chain _)
  exact (evaluateAll_chain _).ofSame rfl rfl

end
end Sys2Proof.Machine
end

section
/-! SUPPORT. The requests as chains of moves (O58, O60). -/

namespace Sys2Proof.Machine

section
variable {free : Prop} (s : State)

/-! ### Chains of the requests -/

/-- An accepted request: what its block does, then the reply. -/
theorem Chain.accepted {s t : State} {data : List Byte} (h : Chain free s t) : Chain free s (t.accept data) :=
  h.trans (accept_chain t data)

/-- An accepted request that settles PRESS_READY before its reply (R85). -/
theorem Chain.settled {s t : State} {data : List Byte} (h : Chain free s t) : Chain free s (t.settle.accept data) :=
  Chain.accepted (h.trans (settle_chain t))

/-- A request that names a zone: what its block does to the zone, or a refusal (R45). -/
theorem onZone_chain (zone : Nat) (f : Fin 6 → State) (h : ∀ z, Chain free s (f z)) :
    Chain free s (onZone zone s f) := by
  unfold onZone
  split
  · exact h _
  · exact refuse_chain s _

theorem onKey_chain (key : Key) (f : Fin 32 → Entry → State) (h : ∀ i e, Chain free s (f i e)) :
    Chain free s (onKey key s f) := by
  unfold onKey
  split
  · exact refuse_chain s _
  · split
    · exact h _ _
    · exact refuse_chain s _

theorem onSet_chain (set : BitVec 16) (f : BitVec 11 → Attention) : Chain free s (onSet set s f) := by
  unfold onSet
  split
  · exact Chain.accepted (.same (by simp [State.column]) (by simp [State.heats]))
  · exact refuse_chain s _

theorem startRequest_chain : Chain free s (startRequest s) := by
  unfold startRequest
  split
  · exact refuse_chain s _
  split
  · exact refuse_chain s _
  split
  · exact refuse_chain s _
  · exact Chain.settled ((changeLine_chain _ _).ofSame rfl rfl)

theorem stopRequest_chain : Chain free s (stopRequest s) := by
  unfold stopRequest
  split
  · exact Chain.settled (changeLine_chain s _)
  · exact refuse_chain s _

theorem holdRequest_chain : Chain free s (holdRequest s) := by
  unfold holdRequest
  split
  · refine Chain.settled ?_
    split
    · exact .refl
    · exact (afterCauseAdded_chain _).ofSame rfl rfl
  · exact refuse_chain s _

theorem resumeRequest_chain : Chain free s (resumeRequest s) := by
  unfold resumeRequest
  split
  · exact Chain.settled ((afterCauseRemoved_chain _ _).ofSame rfl rfl)
  · exact refuse_chain s _

theorem drainRequest_chain : Chain free s (drainRequest s) := by
  unfold drainRequest
  split
  · exact Chain.settled ((stopIfDrained_chain _).ofSame rfl rfl)
  · exact refuse_chain s _

/-- A change to a line state other than RUN starts no operation. -/
theorem State.changeLine_operation (s : State) {new : LineState} (other : new ≠ .run) :
    (s.changeLine new).cadence.operation = s.cadence.operation := by
  unfold State.changeLine
  dsimp only
  rw [if_neg other]
  obtain ⟨-, -, -, -, -, -, -, -, -, -, -, h, -⟩ := s.moveLine_frame new
  exact h

theorem purgeRequest_chain : Chain free s (purgeRequest s) := by
  unfold purgeRequest
  split
  · rename_i h
    refine Chain.settled (.trans ?_ (startPurgeDivert_chain _ ?_))
    · exact (changeLine_chain _ _).ofSame rfl rfl
    rw [State.changeLine_operation _ (by decide)]
    exact h.2
  · exact refuse_chain s _

theorem declareEmptyRequest_chain : Chain free s (declareEmptyRequest s) := by
  unfold declareEmptyRequest
  split
  · exact refuse_chain s _
  split
  · exact refuse_chain s _
  · exact Chain.accepted (.same rfl rfl)

theorem setZoneRequest_chain (zone mode blockSize setpoint budget : Nat) (options : BitVec 8) :
    Chain free s (setZoneRequest zone mode blockSize setpoint budget options s) := by
  refine onZone_chain s _ _ fun z => ?_
  split
  · exact refuse_chain s _
  · exact Chain.accepted (.same (by simp [State.column]) (by simp [State.heats]))

theorem enableZoneRequest_chain (zone : Nat) : Chain free s (enableZoneRequest zone s) := by
  refine onZone_chain s _ _ fun z => ?_
  dsimp only
  split
  · exact Chain.accepted (.same (by simp [State.column]) (by simp [State.heats]))
  · exact refuse_chain s _

theorem disableZoneRequest_chain (zone : Nat) : Chain free s (disableZoneRequest zone s) := by
  refine onZone_chain s _ _ fun z => ?_
  split
  · exact refuse_chain s _
  · exact Chain.accepted (.same rfl rfl)

theorem pauseZoneRequest_chain (zone : Nat) : Chain free s (pauseZoneRequest zone s) := by
  refine onZone_chain s _ _ fun z => ?_
  split
  · exact refuse_chain s _
  · exact Chain.accepted (.same rfl rfl)

theorem doseZoneRequest_chain (zone : Nat) : Chain free s (doseZoneRequest zone s) := by
  refine onZone_chain s _ _ fun z => ?_
  split
  iterate 3 exact refuse_chain s _
  all_goals
    split
    · exact refuse_chain s _
    · exact Chain.accepted ((grant_chain _).ofSame rfl rfl)

theorem powerOnRequest_chain : Chain free s (powerOnRequest s) := by
  unfold powerOnRequest
  split
  · exact Chain.accepted ((grant_chain _).ofSame rfl rfl)
  · exact refuse_chain s _

theorem postOrderRequest_chain (billetId : BitVec 32) (key : Key) (flags : BitVec 8)
    (entryTemp exitOverride : Nat) :
    Chain free s (postOrderRequest billetId key flags entryTemp exitOverride s) := by
  unfold postOrderRequest
  split
  · exact refuse_chain s _
  split
  · exact refuse_chain s _
  rename_i room
  split
  · exact refuse_chain s _
  · rename_i found h
    have same : found.after.ring = s.ring := lookup_ring s h
    have posted := fun o => Relation.ReflTransGen.tail (lookup_chain (free := free) s h)
      (.queued o (by rw [same]; omega))
    exact Chain.accepted ((posted _).trans (Chain.same rfl rfl))

theorem withdrawRequest_chain (n : Nat) : Chain free s (withdrawRequest n s) := by
  unfold withdrawRequest
  split
  · exact Chain.accepted ((Move.withdrawn n).chain.trans (Chain.same (by simp [State.column]) (by simp [State.heats])))
  · exact refuse_chain s _

theorem reclaimRequest_chain (n : Nat) : Chain free s (reclaimRequest n s) := by
  unfold reclaimRequest
  split
  · exact Chain.accepted (Move.reclaimed n).chain
  · exact refuse_chain s _

theorem readOrdersRequest_chain (first count : Nat) : Chain free s (readOrdersRequest first count s) := by
  unfold readOrdersRequest
  split
  · split
    · exact accept_chain s _
    · exact refuse_chain s _
  · exact refuse_chain s _

theorem loadRecipeRequest_chain (key : Key) (body : Body) (trim : Int) (policy : Nat) :
    Chain free s (loadRecipeRequest key body trim policy s) := by
  unfold loadRecipeRequest
  split
  · exact refuse_chain s _
  split
  · split
    · split
      · refine Chain.accepted ((afterLoad_chain _ s).ofSame ?_ ?_) <;> unfold State.loadPresent <;> dsimp only <;>
          split <;> rfl
      · exact refuse_chain s _
    · split
      · refine Chain.accepted ((afterLoad_chain _ s).ofSame ?_ ?_)
        · simp [State.column, State.loadAbsent]
        · simp [State.heats, State.loadAbsent]
      · exact refuse_chain s _
  · exact refuse_chain s _

theorem readRecipeRequest_chain (selector : RecipeSelector) : Chain free s (readRecipeRequest selector s) := by
  unfold readRecipeRequest
  split
  · exact onKey_chain s _ _ fun i e => accept_chain s _
  · split
    · exact accept_chain s _
    · exact refuse_chain s _

theorem flushRecipeRequest_chain (key : Key) : Chain free s (flushRecipeRequest key s) := by
  refine onKey_chain s _ _ fun i e => ?_
  split
  · exact refuse_chain s _
  split
  · exact refuse_chain s _
  · exact Chain.accepted (giveUp_chain s _ _)

theorem pinRecipeRequest_chain (key : Key) : Chain free s (pinRecipeRequest key s) := by
  refine onKey_chain s _ _ fun i e => ?_
  split
  · exact accept_chain s _
  split
  · exact refuse_chain s _
  · exact Chain.accepted (.same rfl rfl)

theorem setWindowRequest_chain (window enable : Nat) (base mask : BitVec 16) (body : Body) :
    Chain free s (setWindowRequest window enable base mask body s) := by
  unfold setWindowRequest
  split
  · exact refuse_chain s _
  split
  · split
    · exact refuse_chain s _
    · exact Chain.accepted (.same rfl rfl)
  · exact refuse_chain s _

theorem requestWritebackRequest_chain (key : Key) : Chain free s (requestWritebackRequest key s) := by
  refine onKey_chain s _ _ fun i e => ?_
  split
  · exact refuse_chain s _
  split
  · exact refuse_chain s _
  · exact Chain.accepted (.same (by simp [State.column]) (by simp [State.heats]))

theorem selectCounterRequest_chain (counter event : Nat) :
    Chain free s (selectCounterRequest counter event s) := by
  unfold selectCounterRequest
  split
  · split
    · exact Chain.accepted (.same rfl rfl)
    · exact refuse_chain s _
  · exact refuse_chain s _

theorem regrant_chain : Chain free s s.evaluateAll.grant := (evaluateAll_chain s).trans (grant_chain _)

theorem writeSettingOf_ambient {id : Nat} (value : Nat) (c : Settings) (h : id ≠ 1) :
    (writeSettingOf id value c).ambient = c.ambient := by
  unfold writeSettingOf
  split <;> simp_all

/-- AMBIENT is written within its range, and only under an empty train (R203). -/
theorem writeSetting_move {id value lo hi : Nat} (range : settingRange id = some (lo, hi))
    (fits : lo ≤ value ∧ value ≤ hi) (may : s.mayWrite id = true) :
    Move free s { s with settings := writeSettingOf id value s.settings } := by
  refine .same rfl fun ⟨top, h⟩ => ?_
  by_cases ambient : id = 1
  · subst ambient
    have empty : s.tracker.train = [] := by
      simp only [State.mayWrite, bne_self_eq_false, Bool.false_or, Bool.and_eq_true, List.isEmpty_iff] at may
      exact may.2
    cases range
    exact ⟨by simp only [writeSettingOf]; omega, by simp [empty]⟩
  · simp only [State.Temperate, writeSettingOf_ambient value s.settings ambient]
    exact ⟨top, h⟩

theorem writeSettingRequest_chain (id value : Nat) : Chain free s (writeSettingRequest id value s) := by
  unfold writeSettingRequest
  split
  · exact refuse_chain s _
  rename_i range
  split
  · rename_i fits
    split
    · rename_i may
      have written := (writeSetting_move (free := free) s range fits may).chain
      refine Chain.accepted ?_
      split
      · exact written.trans (regrant_chain _)
      · exact written
    · exact refuse_chain s _
  · exact refuse_chain s _

theorem writeProfileRequest_chain (profile : Vector Nat 12) :
    Chain free s (writeProfileRequest profile s) := by
  unfold writeProfileRequest
  split
  · exact Chain.accepted ((regrant_chain _).ofSame rfl rfl)
  · exact refuse_chain s _

/-- Every request is a chain of moves. -/
theorem takeRequest_chain (i : Instr) : Chain free s (takeRequest i s) := by
  cases i
  case start => exact startRequest_chain s
  case stop => exact stopRequest_chain s
  case hold => exact holdRequest_chain s
  case resume => exact resumeRequest_chain s
  case drain => exact drainRequest_chain s
  case purge => exact purgeRequest_chain s
  case declareEmpty => exact declareEmptyRequest_chain s
  case readLine => exact accept_chain s _
  case readTrain =>
    simp only [takeRequest, readTrainRequest]
    split
    · exact accept_chain s _
    · exact refuse_chain s _
  case setZone => exact setZoneRequest_chain s _ _ _ _ _ _
  case readZone => exact onZone_chain s _ _ fun z => accept_chain s _
  case enableZone => exact enableZoneRequest_chain s _
  case disableZone => exact disableZoneRequest_chain s _
  case pauseZone => exact pauseZoneRequest_chain s _
  case continueZone =>
    exact onZone_chain s _ _ fun z => Chain.accepted ((grant_chain _).ofSame rfl rfl)
  case doseZone => exact doseZoneRequest_chain s _
  case powerOn => exact powerOnRequest_chain s
  case powerOff => exact Chain.accepted (.same rfl rfl)
  case powerPause => exact Chain.accepted (.same rfl rfl)
  case powerContinue => exact Chain.accepted ((grant_chain _).ofSame rfl rfl)
  case postOrder => exact postOrderRequest_chain s _ _ _ _ _
  case withdraw => exact withdrawRequest_chain s _
  case readOrders => exact readOrdersRequest_chain s _ _
  case reclaim => exact reclaimRequest_chain s _
  case loadRecipe => exact loadRecipeRequest_chain s _ _ _ _
  case readRecipe => exact readRecipeRequest_chain s _
  case flushRecipe => exact flushRecipeRequest_chain s _
  case flushUnpinned => exact Chain.accepted (sweep_chain s)
  case pinRecipe => exact pinRecipeRequest_chain s _
  case unpinRecipe => exact onKey_chain s _ _ fun i e => Chain.accepted (.same rfl rfl)
  case setWindow => exact setWindowRequest_chain s _ _ _ _ _
  case readWants => exact accept_chain s _
  case takeWritebacks => exact Chain.accepted (.same rfl rfl)
  case requestWriteback => exact requestWritebackRequest_chain s _
  case readAttention => exact Chain.accepted (.same rfl rfl)
  case enableAttention => exact onSet_chain s _ _
  case disableAttention => exact onSet_chain s _ _
  case clearAttention => exact onSet_chain s _ _
  case selectCounter => exact selectCounterRequest_chain s _ _
  case readCounters => exact accept_chain s _
  case writeSetting => exact writeSettingRequest_chain s _ _
  case readSettings => exact accept_chain s _
  case writeProfile => exact writeProfileRequest_chain s _
  case identify => exact accept_chain s _
  case restart => exact Chain.accepted (.same rfl rfl)
  all_goals exact .refl

end
end Sys2Proof.Machine
end

section
/-! SUPPORT. The events, the link and a step as chains of moves (O58, O60). -/

namespace Sys2Proof.Machine

section
variable {free : Prop} (s : State)

/-! ### Chains of the events -/

theorem sliceDone_chain (sequence : BitVec 8) (energy : Nat) : Chain free s (sliceDone sequence energy s) := by
  unfold sliceDone
  split
  · rename_i x _
    refine .trans ?_ (settle_chain _)
    refine .trans ?_ (chooseIfReported_chain _ _)
    exact (closeSlice_chain s x (min energy x.eset)).trans (Chain.same (by simp [State.column]) (by simp [State.heats]))
  · exact .refl

theorem sliceFault_chain (sequence : BitVec 8) (energy : Nat) : Chain free s (sliceFault sequence energy s) := by
  unfold sliceFault
  split
  · exact supplyLoss_chain s _
  · exact .refl

theorem convReadyFall_chain : Chain free s (convReadyFall s) := by
  unfold convReadyFall
  dsimp only
  split
  · exact (supplyLoss_chain _ _).ofSame rfl rfl
  · exact .same rfl rfl

theorem sliceTimerExpiry_chain : Chain free s (sliceTimerExpiry s) := by
  unfold sliceTimerExpiry
  split
  · split
    · exact (supplyLoss_chain _ _).ofSame rfl rfl
    · exact .refl
  · exact .refl

theorem guardAsserted_chain (zone : Nat) : Chain free s (guardAsserted zone s) := by
  unfold guardAsserted
  split
  · exact .refl
  dsimp only
  split
  iterate 3 exact .same (by simp [State.column]) (by simp [State.heats])
  · unfold State.cancelForHalt
    split
    · exact .same rfl rfl
    · dsimp only
      split <;> exact .same rfl rfl
  iterate 2 exact .same rfl rfl

theorem guardNegated_chain (zone : Nat) : Chain free s (guardNegated zone s) := by
  unfold guardNegated
  split
  · exact .refl
  · exact .same rfl rfl

/-- The record that waits for a reading (R20). -/
theorem State.awaiting_eq_some_iff {s : State} {r : BilletRecord} :
    s.awaiting = some r ↔ s.tracker.exitRecord = some r ∧ r.verdict = .awaiting ∧ s.tracker.line ≠ .purging := by
  unfold State.awaiting
  cases s.tracker.exitRecord with
  | none => simp
  | some x => grind

/-- A correction leaves the record in its place. -/
theorem corrected_same (body : Body) (ambient ts : Nat) (r : BilletRecord) :
    (corrected body ambient ts r).slot = r.slot ∧ (corrected body ambient ts r).position = r.position :=
  ⟨rfl, rfl⟩

/-- A corrected record has its temperatures in range (R21). -/
theorem corrected_temperate (body : Body) {ambient : Nat} (value : Nat) {r : BilletRecord} (top : ambient ≤ 25600)
    (h : r.Temperate ambient) : (corrected body ambient (min value 25600) r).Temperate ambient := by
  obtain ⟨lo, hi, sx⟩ := h
  simp only [corrected, BilletRecord.Temperate]
  omega

theorem pyroTemperatureMessage_chain (value : Nat) : Chain free s (pyroTemperatureMessage value s) := by
  unfold pyroTemperatureMessage
  split
  · exact .refl
  rename_i r h
  obtain ⟨atExit, -, -⟩ := State.awaiting_eq_some_iff.1 h
  refine .trans ?_ (settle_chain _)
  refine .trans ?_ (choose_chain _)
  refine .trans ?_ (learnFrom_chain _ _ _ _)
  refine Chain.ofSame (Move.chain (.judged _ (fun x e => ?_) (fun ⟨top, t⟩ x e => ?_))) rfl rfl
  · have : x = r := Option.some.inj (e.symm.trans atExit)
    subst this
    have same := s.updated_place x
    simp only [BilletRecord.place, Place.mk.injEq] at same
    have moved := corrected_same (s.bodyOf x) s.settings.ambient (min value 25600) (s.updated x)
    exact ⟨moved.1.trans same.1, moved.2.trans same.2.1⟩
  · exact corrected_temperate _ _ top (State.updated_temperate (t r (Tracker.exitRecord_mem atExit)))

theorem readingTimerExpiry_chain : Chain free s (readingTimerExpiry s) := by
  unfold readingTimerExpiry
  split
  · dsimp only
    split
    · split
      · refine .trans ?_ (settle_chain _)
        refine .trans ?_ (choose_chain _)
        exact Chain.ofSame (Move.chain
          (.judged _ (fun _ _ => ⟨rfl, rfl⟩) (fun t x e => t.2 x (Tracker.exitRecord_mem e)))) rfl rfl
      · exact .same rfl rfl
    · exact .same rfl rfl
  · exact .refl

theorem surveyTimerExpiry_chain : Chain free s (surveyTimerExpiry s) := by
  unfold surveyTimerExpiry
  split
  · rename_i runs
    refine .trans ?_ (settle_chain _)
    refine .trans ?_ (chooseIfReported_chain _ _)
    refine .trans ?_ (grant_chain _)
    refine .trans ?_ (reportReadiness_chain _)
    refine .trans ?_ (evaluateAll_chain _)
    refine .trans ?_ (recheckExit_move _).chain
    exact (updateTrain_move _).chain.ofSame (by simp [State.column, runs]) rfl
  · exact .refl

theorem pressCall_chain (ready : free → PressReadyFollows s) : Chain free s (pressCall s) := by
  unfold pressCall
  dsimp only
  split
  · split
    · rename_i called
      refine .trans ?_ (settle_chain _)
      refine (startExtract_chain _ fun f => ?_).ofSame rfl rfl
      have level := (ready f).symm.trans called
      simp only [Cadence.pressReadyLevel, Bool.and_eq_true, Option.isNone_iff_eq_none] at level
      exact level.2
    · refine .trans ?_ (settle_chain _)
      exact (choose_chain _).ofSame rfl rfl
  · exact (decline_chain _).ofSame rfl rfl

theorem pressStopNegated_chain : Chain free s (pressStopNegated s) := by
  unfold pressStopNegated
  dsimp only
  split
  · refine .trans ?_ (settle_chain _)
    exact (afterCauseRemoved_chain _ _).ofSame rfl rfl
  · exact .same rfl rfl

theorem holdDelayExpiry_chain : Chain free s (holdDelayExpiry s) := by
  unfold holdDelayExpiry
  split
  · refine .trans ?_ (settle_chain _)
    exact (addPressStop_chain _).ofSame rfl rfl
  · exact .refl

theorem pushDone_chain : Chain free s (pushDone s) := by
  unfold pushDone
  split
  · rename_i loaded inFlight
    have done := pushCompleted_chain (free := free) s loaded inFlight
    dsimp only
    split
    · exact done.trans (purgeNext_chain _ (by simp)) |>.trans (settle_chain _)
    · exact done.trans (afterCompletion_chain _)
  all_goals exact .refl

theorem extractDone_chain : Chain free s (extractDone s) := by
  unfold extractDone
  split
  · rename_i inFlight
    exact (endRemove_chain s _ (by simp [inFlight])).trans (afterCompletion_chain _)
  all_goals exact .refl

/-- A removal from the exit leaves the exit empty for the cadence unit (R99), and no operation started. -/
theorem State.removeExit_cadence (s : State) (v : BilletRecord → OrderVerdict) :
    (s.removeExit v).cadence = { s.cadence with exitVerdict := none } := by
  unfold State.removeExit
  split <;> simp

theorem divertDone_chain : Chain free s (divertDone s) := by
  unfold divertDone
  split
  · rename_i inFlight
    have gone := fun v => endRemove_chain (free := free) s v (by simp [inFlight])
    split
    · refine .trans ?_ (settle_chain _)
      refine .tail (gone _) (.started _ (fun _ => ?_) (fun loaded h => ?_))
      · rw [State.removeExit_cadence]; rfl
      · cases h
        exact ⟨rfl, by rw [State.removeExit_cadence]⟩
    · exact (gone _).trans (afterCompletion_chain _)
  all_goals exact .refl

theorem handlingTimerExpiry_chain : Chain free s (handlingTimerExpiry s) := by
  unfold handlingTimerExpiry
  split
  · rename_i inFlight
    split
    · exact handlingTimeout_chain s _ inFlight
    · exact .refl
  · exact .refl

theorem minPushTimerExpiry_chain : Chain free s (minPushTimerExpiry s) := by
  unfold minPushTimerExpiry
  split
  · refine .trans ?_ (settle_chain _)
    exact (choose_chain _).ofSame rfl rfl
  · exact .refl

theorem coldWaitExpiry_chain : Chain free s (coldWaitExpiry s) := by
  unfold coldWaitExpiry
  split
  · refine .trans ?_ (settle_chain _)
    exact (choose_chain _).ofSame rfl rfl
  all_goals exact .refl

theorem batchDelayExpiry_chain : Chain free s (batchDelayExpiry s) := by
  unfold batchDelayExpiry
  split
  · dsimp only
    split <;> exact .same rfl rfl
  · exact .refl

theorem fetchTimeout_chain (key : Key) : Chain free s (fetchTimeout key s) := by
  unfold fetchTimeout
  split
  · rename_i w _
    have marked : Chain free s ((s.dropWant w.entry).markNoRecipe w.entry) :=
      (Move.marked w.entry).chain.ofSame rfl rfl
    exact marked.trans (Chain.same rfl rfl)
  · exact .refl

/-! ### Chains of the link -/

theorem formReply_chain (f : Frame) : Chain free s (s.formReply f) := by
  unfold State.formReply
  split
  · exact .same rfl rfl
  · exact .refl

theorem dispatch_chain (kind : Byte) (payload : List Byte) : Chain free s (s.dispatch kind payload) := by
  unfold State.dispatch
  split
  iterate 3 exact refuse_chain s _
  · exact takeRequest_chain s _

theorem frameReceived_chain (f : Frame) : Chain free s (frameReceived f s) := by
  unfold frameReceived
  split
  · exact .refl
  split
  · exact .same rfl rfl
  unfold State.checkFrame
  split
  · exact .same rfl rfl
  split
  · exact .same rfl rfl
  split
  · exact .same rfl rfl
  · refine .trans ?_ (formReply_chain _ f)
    exact (dispatch_chain _ _ _).ofSame rfl rfl

theorem abandonFrame_chain : Chain free s s.abandonFrame := by
  unfold State.abandonFrame
  split
  · exact .same rfl rfl
  · exact .refl

theorem lengthByteDiscard_chain (length : Nat) : Chain free s (lengthByteDiscard length s) := by
  unfold lengthByteDiscard
  split
  · exact abandonFrame_chain s
  · exact .refl

theorem syncByteBeginsFrame_chain : Chain free s (syncByteBeginsFrame s) := by
  unfold syncByteBeginsFrame
  split
  · exact .same rfl rfl
  · exact .refl

theorem replySent_chain : Chain free s (replySent s) := by
  rcases replySent_cases s with ⟨-, h⟩ | ⟨-, -, -, -, h⟩ | ⟨-, -, -, h⟩ <;> rw [h]
  · exact (restart_chain _).ofSame rfl rfl
  · exact .same rfl rfl

theorem restartTakesEffect_chain : Chain free s (restartTakesEffect s) := by
  unfold restartTakesEffect
  split
  · exact restart_chain s
  · exact .refl

end

/-! ### Chains of the commands and of a step -/

/-- A request row is the request as its block takes it. -/
theorem exec_request {i : Instr} (h : (encodeRequest i).isSome = true) (s : State) :
    exec i s = .next (takeRequest i s) := by
  cases i
  case readRecipe selector => rfl
  all_goals first
    | rfl
    | cases h

/-- Every command is a chain of moves: all that it can do to the column. -/
theorem exec_chain {free : Prop} {i : Instr} {s t : State} (ready : free → PressReadyFollows s)
    (h : exec i s = .next t) : Chain free s t := by
  by_cases request : (encodeRequest i).isSome = true
  · rw [exec_request request s] at h
    cases h
    exact takeRequest_chain s i
  cases i
  case frameReceived f => cases h; exact frameReceived_chain s f
  case idleGapAbandon => cases h; exact abandonFrame_chain s
  case framingErrorAbandon => cases h; exact abandonFrame_chain s
  case lengthByteDiscard n => cases h; exact lengthByteDiscard_chain s n
  case syncByteBeginsFrame => cases h; exact syncByteBeginsFrame_chain s
  case replySent => cases h; exact replySent_chain s
  case restartTakesEffect => cases h; exact restartTakesEffect_chain s
  case powerOnReset => cases h; exact powerOnReset_chain s
  case sliceDone sequence energy => cases h; exact sliceDone_chain s sequence energy
  case sliceFault sequence energy => cases h; exact sliceFault_chain s sequence energy
  case convReadyFall => cases h; exact convReadyFall_chain s
  case convReadyRise => cases h; exact .same rfl rfl
  case sliceTimerExpiry => cases h; exact sliceTimerExpiry_chain s
  case guardAsserted zone => cases h; exact guardAsserted_chain s zone
  case guardNegated zone => cases h; exact guardNegated_chain s zone
  case pyroTemperatureMessage value => cases h; exact pyroTemperatureMessage_chain s value
  case pyroNoTarget => cases h; exact .refl
  case readingTimerExpiry => cases h; exact readingTimerExpiry_chain s
  case surveyTimerExpiry => cases h; exact surveyTimerExpiry_chain s
  case pressCall => cases h; exact pressCall_chain s ready
  case pressCallNegated => cases h; exact .same rfl rfl
  case pressStopAsserted =>
    cases h
    refine .trans ?_ (settle_chain _)
    exact (pressStopAsserts_chain _).ofSame rfl rfl
  case pressStopNegated => cases h; exact pressStopNegated_chain s
  case holdDelayExpiry => cases h; exact holdDelayExpiry_chain s
  case pushDone => cases h; exact pushDone_chain s
  case extractDone => cases h; exact extractDone_chain s
  case divertDone => cases h; exact divertDone_chain s
  case handlingTimerExpiry => cases h; exact handlingTimerExpiry_chain s
  case minPushTimerExpiry => cases h; exact minPushTimerExpiry_chain s
  case coldWaitExpiry => cases h; exact coldWaitExpiry_chain s
  case batchDelayExpiry => cases h; exact batchDelayExpiry_chain s
  case fetchTimeout key => cases h; exact fetchTimeout_chain s key
  case readRecipe selector => cases selector <;> exact absurd rfl request
  all_goals exact absurd rfl request

/-- Every step is a chain of moves. -/
theorem step_chain {free : Prop} {s t : State} (ready : free → PressReadyFollows s) (h : step s = .next t) :
    Chain free s t := by
  unfold step stepQueue at h
  split at h
  · exact (exec_chain (by exact ready) h).ofSame rfl rfl
  unfold idleStep at h
  split at h
  · exact exec_chain ready h
  split at h
  · cases h; exact .same rfl rfl
  unfold State.passTime at h
  split at h
  · cases h; exact .same rfl rfl
  · exact exec_chain ready h

end Sys2Proof.Machine
end

section
/-! PROOF. Every move keeps the temperatures in range (O60). -/

namespace Sys2Proof.Machine

/-! ### The train after a push -/

/-- The record that binding a slot's LOADING order brings into the train (R4). -/
def State.boundRecords (s : State) (slot : Fin 64) : List BilletRecord :=
  match s.ring.slots[slot] with
  | .loading order => match order.resolution with
    | .recipe ref => [s.newRecord slot order ref]
    | .noRecipe => []
  | .free | .queued _ | .inLine _ | .done _ _ => []

theorem State.bindOrder_train (s : State) (slot : Fin 64) :
    (s.bindOrder slot).tracker.train = s.tracker.train ++ s.boundRecords slot := by
  unfold State.bindOrder State.boundRecords
  cases s.ring.slots[slot] with
  | loading order =>
    cases h : order.resolution with
    | recipe ref => simp only [h]; rfl
    | noRecipe => simp [h]
  | free | queued | inLine | done => simp

theorem State.advanceTrain_train (s : State) :
    s.advanceTrain.tracker.train = s.tracker.train.map (fun r => movedUp s.tracker.line (s.updated r)) := by
  simp [State.advanceTrain]

/-- The records a push brings into the train: the loaded order's, or none for a gap (R15 step 3). -/
def State.enteringRecords (s : State) : Option (Fin 64) → List BilletRecord
  | some slot => s.advanceTrain.boundRecords slot
  | none => []

theorem State.columnPushed_train (s : State) (loaded : Option (Fin 64)) :
    (s.columnPushed loaded).tracker.train =
      s.tracker.train.map (fun r => movedUp s.tracker.line (s.updated r)) ++ s.enteringRecords loaded := by
  cases loaded <;>
    simp [State.columnPushed, State.enteringRecords, State.bindOrder_train, State.advanceTrain_train]

theorem movedUp_temperate (line : LineState) {ambient : Nat} {r : BilletRecord} (h : r.Temperate ambient) :
    (movedUp line r).Temperate ambient := h

/-- A record that enters has its temperatures in range (R4). -/
theorem State.enteringRecords_temperate {s : State} (loaded : Option (Fin 64)) (top : s.settings.ambient ≤ 25600) :
    ∀ r ∈ s.enteringRecords loaded, r.Temperate s.settings.ambient := by
  cases loaded with
  | none => simp [State.enteringRecords]
  | some slot =>
    simp only [State.enteringRecords, State.boundRecords]
    split
    · split
      · simp only [List.mem_singleton, forall_eq, BilletRecord.Temperate, State.newRecord, clampTo,
          State.advanceTrain_frame]
        omega
      · simp
    all_goals simp

/-! ### Settings through a restart -/

theorem State.loseRecords_settings (s : State) : s.loseRecords.settings = s.settings :=
  List.foldlRecOn (motive := fun t : State => t.settings = s.settings) s.tracker.train _ rfl
    (fun t h r _ => by simpa using h)

theorem State.loseLoading_settings (s : State) : s.loseLoading.settings = s.settings := by
  unfold State.loseLoading
  refine List.foldlRecOn (motive := fun t : State => t.settings = s.settings) (List.finRange 64) _ rfl
    (fun t h i _ => ?_)
  unfold State.loseLoadingAt
  split <;> simpa using h

theorem State.restartRecipes_settings (s : State) : s.restartRecipes.settings = s.settings := by
  unfold State.restartRecipes
  dsimp only
  refine List.foldlRecOn (motive := fun t : State => t.settings = s.settings) (List.finRange 32) _ rfl
    (fun t h i _ => ?_)
  unfold State.dropPendingAt
  split
  · split <;> exact h
  · exact h

theorem State.restartArbiter_ring_settings (s : State) :
    s.restartArbiter.ring = s.ring ∧ s.restartArbiter.settings = s.settings := by
  unfold State.restartArbiter
  dsimp only
  split <;> exact ⟨rfl, rfl⟩

/-- A RESTART's blocks before PRESS_STOP keep AMBIENT: retirements and dropped entries touch no setting. -/
theorem State.restartBlocks_ambient (s : State) : s.restartBlocks.settings.ambient = s.settings.ambient := by
  have kept : s.loseRecords.loseLoading.restartRecipes.settings = s.settings := by
    rw [State.restartRecipes_settings, State.loseLoading_settings, State.loseRecords_settings]
  rw [← kept]
  simp [State.restartBlocks, State.restartLine, State.restartTracker, State.restartArbiter_ring_settings,
    State.clearBatch]

/-- Every move keeps the temperatures in range. -/
theorem Move.temperate {free : Prop} {s t : State} (m : Move free s t) (h : s.Temperate) : t.Temperate := by
  cases m with
  | same _ heat => exact heat h
  | judged f place heat =>
    refine ⟨by simpa using h.1, ?_⟩
    have new := heat h
    simp only [State.reportExit_frame, State.updateExit_frame]
    unfold State.updateExit
    split
    · rename_i r rest train
      split
      · rename_i exit
        simp only [List.forall_mem_cons]
        refine ⟨new r (Tracker.exitRecord_eq_some_iff.2 ⟨by simp [train], exit⟩), fun x hx => h.2 x ?_⟩
        rw [train]; exact List.mem_cons_of_mem _ hx
      · exact h.2
    · exact h.2
  | started o => exact h
  | pushStarted =>
    obtain ⟨-, -, train, -, settings, -⟩ := s.startPush_frame
    simpa only [State.Temperate, train, settings] using h
  | ended => exact h
  | pushed loaded =>
    refine ⟨by simpa using h.1, ?_⟩
    simp only [State.reportExit_frame, State.columnPushed_frame, State.endOperation_frame,
      State.columnPushed_train, List.forall_mem_append, List.forall_mem_map]
    exact ⟨fun r hr => movedUp_temperate _ (State.updated_temperate (h.2 r hr)),
      State.enteringRecords_temperate loaded h.1⟩
  | removed v =>
    refine ⟨by simpa using h.1, ?_⟩
    simp only [State.removeExit_frame]
    unfold State.removeExit
    split
    · simp only [State.retire_frame]
      exact fun r hr => h.2 r (List.mem_of_mem_tail hr)
    · exact h.2
  | queued => exact h
  | withdrawn n =>
    obtain ⟨ring, recipes, e⟩ := s.withdrawNewest_frame n
    rw [e]; exact h
  | reclaimed n =>
    obtain ⟨ring, e⟩ := s.reclaimOldest_frame n
    rw [e]; exact h
  | marked => exact h
  | restarted =>
    exact ⟨by rw [State.restartBlocks_ambient]; exact h.1, fun r hr => by cases hr⟩
  | reset => exact ⟨show 400 ≤ 25600 by decide, fun r hr => by cases hr⟩

theorem Chain.temperate {free : Prop} {s t : State} (c : Chain free s t) (h : s.Temperate) : t.Temperate := by
  induction c with
  | refl => exact h
  | tail _ m ih => exact m.temperate ih

/-- With the settings in range AMBIENT leaves a range of temperatures (R203). -/
theorem temperate_of_inRange {s : State} (settings : SettingsInRange s) (h : TemperaturesInRange s) :
    s.Temperate := by
  refine ⟨?_, h⟩
  have := settings.1 0
  simp only [settingInRange, settingRange, settingValues] at this
  simp at this
  omega

theorem effectiveGain_eq (gain : Nat) (trim : Int) :
    effectiveGain gain trim = max 1 (min 65535 ((gain * (4096 + trim).toNat + 2048) / 4096)) := by
  unfold effectiveGain clampTo; omega

/-- The heat step of the model is the one the rules give (R11, R12). -/
theorem State.heatStep_eq_heated (s : State) (e : Nat) (r : BilletRecord) : s.heatStep e r = heated s e r := by
  unfold State.heatStep heat heated
  rw [effectiveGain_eq]
  rfl

/-- Settles O60: a step is a chain of moves, and every move keeps the temperatures in range. -/
theorem temperaturesStayInRange : Obligations.TemperaturesStayInRange := by
  refine ⟨fun s t settings h st => ?_, fun s e r lo hi sx => ?_⟩
  · exact ((step_chain (free := False) False.elim st).temperate (temperate_of_inRange settings h)).2
  · exact ⟨thermalUpdate_tm _ _ _ _ r lo, State.heatStep_temperate e ⟨lo, hi, sx⟩, s.heatStep_eq_heated e r⟩

end Sys2Proof.Machine
end

section
/-! SUPPORT. The ring's run of slots and the changes that keep it in order (O58). -/

namespace Sys2Proof.Machine

/-! ### The ring's run of slots -/

theorem Slot.eq_free_iff (x : Slot) : x = .free ↔ x.pastQueue = false ∧ x.isQueued = false := by
  cases x <;> simp [Slot.pastQueue, Slot.isQueued]

theorem Ring.ahead_val (r : Ring) (i : Fin 64) : r.ahead i = (64 - r.reclaim.val + i.val) % 64 := by
  simp [Ring.ahead, Fin.sub_def]

/-- The order of the ring reads its pointers and the stages of its slots alone. -/
theorem Ring.InOrder.of_stages {r r' : Ring} (h : r.InOrder) (reclaim : r'.reclaim = r.reclaim)
    (load : r'.load = r.load) (tail : r'.tail = r.tail) (occupied : r'.occupied = r.occupied)
    (queued : r'.queued = r.queued)
    (stage : ∀ i : Fin 64, r'.slots[i].pastQueue = r.slots[i].pastQueue ∧
      r'.slots[i].isQueued = r.slots[i].isQueued) : r'.InOrder := by
  have ahead : ∀ i, r'.ahead i = r.ahead i := fun i => by rw [Ring.ahead, Ring.ahead, reclaim]
  obtain ⟨h1, h2, h3, h4, h5⟩ := h
  refine ⟨by omega, by omega, by rw [tail, reclaim, occupied, h3], by rw [load, reclaim, occupied, queued, h4], ?_⟩
  intro i
  rw [ahead, occupied, queued, Slot.eq_free_iff, (stage i).1, (stage i).2, ← Slot.eq_free_iff]
  exact h5 i

/-- A QUEUED order stands in the queued part of the run. -/
theorem Ring.InOrder.queued_place {r : Ring} (h : r.InOrder) {i : Fin 64} (q : r.slots[i].isQueued = true) :
    r.occupied - r.queued ≤ r.ahead i ∧ r.ahead i < r.occupied := by
  obtain ⟨-, -, -, -, at_⟩ := h
  obtain ⟨past, -, free⟩ := at_ i
  by_contra out
  have : r.ahead i < r.occupied - r.queued ∨ r.occupied ≤ r.ahead i := by omega
  rcases this with a | a
  · have := past a; revert this q; cases r.slots[i] <;> simp [Slot.pastQueue, Slot.isQueued]
  · rw [free a] at q; cases q

/-- An order past QUEUED stands in the first part of the run. -/
theorem Ring.InOrder.past_place {r : Ring} (h : r.InOrder) {i : Fin 64} (p : r.slots[i].pastQueue = true) :
    r.ahead i < r.occupied - r.queued := by
  obtain ⟨-, -, -, -, at_⟩ := h
  obtain ⟨-, queued, free⟩ := at_ i
  by_contra out
  have : (r.occupied - r.queued ≤ r.ahead i ∧ r.ahead i < r.occupied) ∨ r.occupied ≤ r.ahead i := by omega
  rcases this with a | a
  · have := queued a; revert this p; cases r.slots[i] <;> simp [Slot.pastQueue, Slot.isQueued]
  · rw [free a] at p; cases p

/-- The ring after its head has left QUEUED. -/
def Ring.passHead (r : Ring) (x : Slot) : Ring :=
  { r with slots := r.slots.set r.load x, load := r.load + 1, queued := r.queued - 1 }

/-- The ring after an order has been posted (R124). -/
def Ring.post (r : Ring) (order : BilletOrder) : Ring :=
  { r with
    slots := r.slots.set r.tail (.queued order)
    load := if r.queued = 0 then r.tail else r.load
    tail := r.tail + 1
    occupied := r.occupied + 1
    queued := r.queued + 1 }

/-- The ring after its newest order has been withdrawn (R126). -/
def Ring.unpost (r : Ring) : Ring :=
  { r with
    slots := r.slots.set (r.tail - 1 : Fin 64) .free
    tail := r.tail - 1
    occupied := r.occupied - 1
    queued := r.queued - 1 }

/-- The ring after its oldest order has been reclaimed (R128). -/
def Ring.reclaimOne (r : Ring) : Ring :=
  { r with
    slots := r.slots.set r.reclaim .free
    reclaim := r.reclaim + 1
    occupied := r.occupied - 1 }

theorem Ring.InOrder.passHead {r : Ring} (h : r.InOrder) {x : Slot} (head : r.slots[r.load].isQueued = true)
    (past : x.pastQueue = true) : (r.passHead x).InOrder := by
  have place := h.queued_place head
  obtain ⟨h1, h2, h3, h4, at_⟩ := h
  rw [Ring.ahead_val] at place
  refine ⟨?_, ?_, ?_, ?_, fun i => ?_⟩
  · simp only [Ring.passHead]; omega
  · simp only [Ring.passHead]; omega
  · simp only [Ring.passHead]; omega
  · simp only [Ring.passHead, Fin.val_add]; omega
  · obtain ⟨a, b, c⟩ := at_ i
    simp only [Ring.ahead_val] at a b c
    simp only [Ring.passHead, Ring.ahead_val, Fin.getElem_fin, Vector.getElem_set]
    split
    · exact ⟨fun _ => past, fun _ => by omega, fun _ => by omega⟩
    · exact ⟨fun _ => a (by omega), fun _ => b (by omega), fun _ => c (by omega)⟩

theorem Ring.InOrder.post {r : Ring} (h : r.InOrder) (order : BilletOrder) (room : r.occupied < 64) :
    (r.post order).InOrder := by
  obtain ⟨h1, h2, h3, h4, at_⟩ := h
  refine ⟨?_, ?_, ?_, ?_, fun i => ?_⟩
  · simp only [Ring.post]; omega
  · simp only [Ring.post]; omega
  · simp only [Ring.post, Fin.val_add]; omega
  · simp only [Ring.post]; split <;> omega
  · obtain ⟨a, b, c⟩ := at_ i
    simp only [Ring.ahead_val] at a b c
    simp only [Ring.post, Ring.ahead_val, Fin.getElem_fin, Vector.getElem_set]
    split
    · exact ⟨fun _ => by omega, fun _ => rfl, fun _ => by omega⟩
    · exact ⟨fun _ => a (by omega), fun _ => b (by omega), fun _ => c (by omega)⟩

/-- The newest slot of a run is the one before the tail. -/
theorem newest_iff {reclaim occupied tail i : Nat} (hr : reclaim < 64) (hi : i < 64)
    (ht : tail = (reclaim + occupied) % 64) (some : 1 ≤ occupied) (most : occupied ≤ 64) :
    (63 + tail) % 64 = i ↔ (64 - reclaim + i) % 64 = occupied - 1 := by
  omega

theorem Ring.InOrder.unpost {r : Ring} (h : r.InOrder) (newest : r.slots[r.tail - 1].isQueued = true) :
    r.unpost.InOrder := by
  have place := h.queued_place newest
  obtain ⟨h1, h2, h3, h4, at_⟩ := h
  have tail : (r.tail - 1).val = (63 + r.tail.val) % 64 := by simp [Fin.sub_def]
  have at_tail := fun i : Fin 64 => newest_iff r.reclaim.isLt i.isLt h3 (by omega) h2
  rw [Ring.ahead_val, (at_tail _).1 tail.symm] at place
  refine ⟨?_, ?_, ?_, ?_, fun i => ?_⟩
  · simp only [Ring.unpost]; omega
  · simp only [Ring.unpost]; omega
  · simp only [Ring.unpost, tail]; omega
  · simp only [Ring.unpost]; omega
  · obtain ⟨a, b, c⟩ := at_ i
    simp only [Ring.unpost, Ring.ahead_val, Fin.getElem_fin, Vector.getElem_set]
    simp only [Ring.ahead_val] at a b c
    split <;> rename_i same <;> rw [tail, at_tail i] at same <;> clear h3 h4 tail at_tail
    · exact ⟨fun _ => by omega, fun _ => by omega, fun _ => rfl⟩
    · exact ⟨fun _ => a (by omega), fun _ => b (by omega), fun _ => c (by omega)⟩

theorem Ring.InOrder.reclaimOne {r : Ring} (h : r.InOrder) (oldest : r.slots[r.reclaim].pastQueue = true) :
    r.reclaimOne.InOrder := by
  have place := h.past_place oldest
  obtain ⟨h1, h2, h3, h4, at_⟩ := h
  rw [Ring.ahead_val] at place
  refine ⟨?_, ?_, ?_, ?_, fun i => ?_⟩
  · simp only [Ring.reclaimOne]; omega
  · simp only [Ring.reclaimOne]; omega
  · simp only [Ring.reclaimOne, Fin.val_add]; omega
  · simp only [Ring.reclaimOne, Fin.val_add]; omega
  · obtain ⟨a, b, c⟩ := at_ i
    simp only [Ring.ahead_val] at a b c
    simp only [Ring.reclaimOne, Ring.ahead_val, Fin.val_add, Fin.getElem_fin, Vector.getElem_set]
    split
    · exact ⟨fun _ => by omega, fun _ => by omega, fun _ => rfl⟩
    · exact ⟨fun _ => a (by omega), fun _ => b (by omega), fun _ => c (by omega)⟩

end Sys2Proof.Machine
end

section
/-! SUPPORT. The changes of a column that keep its laws (O58). -/

namespace Sys2Proof.Machine

/-! ### Slots and the laws of the column -/

theorem Slot.pastQueue_of_isLoading {x : Slot} (h : x.isLoading = true) : x.pastQueue = true := by
  cases x <;> simp_all [Slot.isLoading, Slot.pastQueue]

theorem Slot.pastQueue_of_isInLine {x : Slot} (h : x.isInLine = true) : x.pastQueue = true := by
  cases x <;> simp_all [Slot.isInLine, Slot.pastQueue]

theorem Slot.isQueued_of_isInLine {x : Slot} (h : x.isInLine = true) : x.isQueued = false := by
  cases x <;> simp_all [Slot.isInLine, Slot.isQueued]

/-- A slot that is not LOADING loads nothing. -/
theorem Slot.loadsNothing_of_not_isLoading {x : Slot} (h : x.isLoading = false) : x.loadsNothing = false := by
  cases x <;> simp_all [Slot.isLoading, Slot.loadsNothing]

/-- Slots that change between FREE, QUEUED and DONE touch no record and no push in flight. -/
theorem Column.Lawful.ofSlots {c : Column} (h : c.Lawful) {ring : Ring} (order : ring.InOrder)
    (same : ∀ i : Fin 64, ring.slots[i].isInLine = c.ring.slots[i].isInLine ∧
      ring.slots[i].isLoading = c.ring.slots[i].isLoading ∧
      ring.slots[i].loadsNothing = c.ring.slots[i].loadsNothing) : Column.Lawful { c with ring := ring } :=
  { h with
    ring := order
    records := fun i => by rw [(same i).1]; exact h.records i
    loading := fun i => by rw [(same i).2.1]; exact h.loading i
    resolved := fun i => by rw [(same i).2.2]; exact h.resolved i }

theorem slots_set (slots : Vector Slot 64) (j i : Fin 64) (x : Slot) :
    (slots.set j x)[i] = if j = i then x else slots[i] := by
  simp only [Fin.getElem_fin, Vector.getElem_set, Fin.ext_iff]

/-- A slot set to a stage without a record or a push leaves the three marks the laws read. -/
theorem slots_set_marks {slots : Vector Slot 64} {j : Fin 64} {x : Slot}
    (x1 : x.isInLine = false) (x2 : x.isLoading = false)
    (old1 : slots[j].isInLine = false) (old2 : slots[j].isLoading = false) (i : Fin 64) :
    (slots.set j x)[i].isInLine = slots[i].isInLine ∧ (slots.set j x)[i].isLoading = slots[i].isLoading ∧
    (slots.set j x)[i].loadsNothing = slots[i].loadsNothing := by
  rw [slots_set]
  split
  · rename_i e
    subst e
    exact ⟨x1.trans old1.symm, x2.trans old2.symm,
      (Slot.loadsNothing_of_not_isLoading x2).trans (Slot.loadsNothing_of_not_isLoading old2).symm⟩
  · exact ⟨rfl, rfl, rfl⟩

/-- An operation that is no load of an order starts while none is in flight; a push only under an empty exit. -/
theorem Column.Lawful.start {c : Column} (h : c.Lawful) (idle : c.operation = none) (o : Operation)
    (gap : ∀ loaded, o = .push loaded → loaded = none ∧ c.exit = none) :
    Column.Lawful { c with operation := some o } :=
  { h with
    pushUnder := fun loaded e => by
      obtain ⟨-, empty⟩ := gap loaded (Option.some.inj e)
      exact h.exitKnown.symm.trans empty
    loading := fun i => by
      constructor
      · intro l
        rw [h.loading i, idle] at l
        cases l
      · intro e
        obtain ⟨none_, -⟩ := gap _ (Option.some.inj e)
        cases none_ }

/-- An operation that is no push ends. -/
theorem Column.Lawful.stop {c : Column} (h : c.Lawful) (other : ∀ loaded, c.operation ≠ some (.push loaded)) :
    Column.Lawful { c with operation := none } :=
  { h with
    pushUnder := fun loaded e => by cases e
    loading := fun i => by
      rw [h.loading i]
      exact ⟨fun e => absurd e (other _), fun e => by cases e⟩ }

/-- The exit record takes a verdict. -/
theorem Column.Lawful.judge {c : Column} (h : c.Lawful) {p : Place} {rest : List Place} (places : c.places = p :: rest)
    (exit : p.position = 12) (v : Verdict) :
    Column.Lawful { c with places := ⟨p.slot, p.position, v⟩ :: rest, exit := some v } := by
  have now : exitOf c.places = some p.verdict := by simp [exitOf, places, exit]
  obtain ⟨descending, bounded, unjudged, ring, pushUnder, exitKnown, records, loading, resolved, surveyed⟩ := h
  rw [places] at descending bounded unjudged records surveyed
  refine ⟨?_, ?_, ?_, ring, fun l e => ?_, ?_, ?_, loading, resolved, surveyed⟩
  · simpa using descending
  · simpa using bounded
  · simp only [List.forall_mem_cons] at unjudged ⊢
    exact ⟨fun n => absurd exit n, unjudged.2⟩
  · rw [pushUnder l e] at now; cases now
  · simp [exitOf, exit]
  · simpa [List.countP_cons] using records

/-- The head of the ring is skipped (R129 step 1). -/
theorem Column.Lawful.skip {c : Column} (h : c.Lawful) (head : c.ring.slots[c.ring.load].isQueued = true)
    (order : BilletOrder) (status : StatusRecord) :
    Column.Lawful { c with ring := c.ring.passHead (.done order status) } := by
  refine h.ofSlots (h.ring.passHead head rfl) (slots_set_marks rfl rfl ?_ ?_)
  all_goals revert head; cases c.ring.slots[c.ring.load] <;> simp [Slot.isQueued, Slot.isInLine, Slot.isLoading]

/-- The head of the ring is loaded by the push that starts (R129 step 2, R94). -/
theorem Column.Lawful.load {c : Column} (h : c.Lawful) (idle : c.operation = none) (empty : c.exit = none)
    {order : BilletOrder} (head : c.ring.slots[c.ring.load] = .queued order) (resolved : order.resolution ≠ .noRecipe) :
    Column.Lawful { c with
      ring := c.ring.passHead (.loading order)
      operation := some (.push (some c.ring.load)) } := by
  have slot : ∀ i : Fin 64, (c.ring.passHead (.loading order)).slots[i] =
      if c.ring.load = i then .loading order else c.ring.slots[i] := fun i => slots_set _ _ i _
  refine { h with
    ring := h.ring.passHead (by rw [head]; rfl) rfl
    pushUnder := fun _ _ => h.exitKnown.symm.trans empty
    records := fun i => ?_
    loading := fun i => ?_
    resolved := fun i => ?_ }
  · rw [h.records i, slot]
    by_cases e : c.ring.load = i
    · rw [if_pos e, ← e, head]; rfl
    · rw [if_neg e]
  · rw [slot]
    split
    · rename_i e; simp [Slot.isLoading, e]
    · rename_i ne; rw [h.loading i, idle]; simp [ne]
  · rw [slot]
    split
    · simpa [Slot.loadsNothing] using resolved
    · exact h.resolved i

/-- A record in the train has its order IN_LINE (R121). -/
theorem Column.Lawful.inLine {c : Column} (h : c.Lawful) {p : Place} (mem : p ∈ c.places) :
    c.ring.slots[p.slot].isInLine = true := by
  have count := h.records p.slot
  have some_ : 0 < c.places.countP (fun q => q.slot == p.slot) :=
    List.countP_pos_iff.2 ⟨p, mem, beq_self_eq_true _⟩
  by_contra no
  rw [if_neg no] at count
  omega

theorem Slot.exists_of_isInLine {x : Slot} (h : x.isInLine = true) : ∃ order, x = .inLine order := by
  cases x <;> simp_all [Slot.isInLine]

/-- With the exit empty, every place is below it. -/
theorem Column.Lawful.below {c : Column} (h : c.Lawful) (empty : exitOf c.places = none) :
    ∀ p ∈ c.places, p.position ≤ 11 := by
  have bounded := h.bounded
  have descending := h.descending
  cases places : c.places with
  | nil => simp
  | cons head rest =>
    rw [places] at bounded descending empty
    have first : head.position ≤ 11 := by
      have := bounded head List.mem_cons_self
      by_contra no
      have at12 : head.position = 12 := by omega
      simp [exitOf, at12] at empty
    simp only [List.forall_mem_cons]
    refine ⟨first, fun p hp => ?_⟩
    have := List.rel_of_pairwise_cons descending hp
    omega

/-- The slots after the exit's order has been retired: the ring keeps its order. -/
theorem Ring.InOrder.setPast {r : Ring} (h : r.InOrder) {j : Fin 64} {x : Slot} (old : r.slots[j].pastQueue = true)
    (past : x.pastQueue = true) : Ring.InOrder { r with slots := r.slots.set j x } := by
  have plain : ∀ y : Slot, y.pastQueue = true → y.isQueued = false := by
    intro y; cases y <;> simp [Slot.pastQueue, Slot.isQueued]
  refine h.of_stages rfl rfl rfl rfl rfl fun i => ?_
  rw [slots_set]
  split
  · rename_i e
    subst e
    rw [past, old, plain _ past, plain _ old]
    exact ⟨rfl, rfl⟩
  · exact ⟨rfl, rfl⟩

/-- The exit record leaves and its order is DONE (R16). -/
theorem Column.Lawful.remove {c : Column} (h : c.Lawful) (idle : c.operation = none) {p : Place} {rest : List Place}
    (places : c.places = p :: rest) (exit : p.position = 12) (order : BilletOrder) (status : StatusRecord) :
    exitOf rest = none ∧ (Column.settled rest
      { c.ring with slots := c.ring.slots.set p.slot (.done order status) }).Lawful := by
  have inLine := h.inLine (p := p) (by rw [places]; exact List.mem_cons_self)
  have ring := h.ring.setPast (x := .done order status) (Slot.pastQueue_of_isInLine inLine) rfl
  obtain ⟨descending, bounded, unjudged, -, -, -, records, loading, resolved, -⟩ := h
  rw [places] at descending bounded unjudged records
  have lower : ∀ q ∈ rest, q.position < 12 := fun q hq => exit ▸ List.rel_of_pairwise_cons descending hq
  refine ⟨?_, descending.of_cons, fun q hq => (lower q hq).le, fun q hq => unjudged q (List.mem_cons_of_mem _ hq),
    ring, nofun, rfl, fun i => ?_, fun i => ?_, fun i => ?_, rfl⟩
  · cases rest with
    | nil => rfl
    | cons q _ => exact if_neg (lower q List.mem_cons_self).ne
  · have count := records i
    simp only [List.countP_cons] at count
    show rest.countP _ = if (c.ring.slots.set p.slot (.done order status))[i].isInLine then 1 else 0
    rw [slots_set]
    by_cases e : p.slot = i
    · subst e
      rw [if_pos inLine] at count
      simp only [beq_self_eq_true, if_true, Slot.isInLine, Bool.false_eq_true, if_false] at count ⊢
      omega
    · rw [if_neg e]
      simpa [e] using count
  · have slot := loading i
    rw [idle] at slot
    simp only [Column.settled]
    rw [slots_set]
    split
    · simp [Slot.isLoading]
    · exact slot
  · simp only [Column.settled]
    rw [slots_set]
    split
    · rfl
    · exact resolved i

/-- A place after a push: moved up one position; at 12 it waits for its reading, unless the line is in PURGING (R15,
R19). -/
def Place.advanced (line : LineState) (p : Place) : Place :=
  ⟨p.slot, p.position + 1, if p.position = 11 ∧ line ≠ .purging then .awaiting else p.verdict⟩

/-- A column that moves up keeps its order, leaves position 0 and stays within 12; what is below the exit is
unjudged. -/
theorem Column.Lawful.advanced {c : Column} (h : c.Lawful) (empty : exitOf c.places = none) (line : LineState) :
    (c.places.map (Place.advanced line)).Pairwise (fun a b => b.position < a.position) ∧
    (∀ p ∈ c.places.map (Place.advanced line), 0 < p.position ∧ p.position ≤ 12) ∧
    (∀ p ∈ c.places.map (Place.advanced line), p.position ≠ 12 → p.verdict = .none) := by
  have below := h.below empty
  refine ⟨?_, ?_, ?_⟩
  · simpa [List.pairwise_map, Place.advanced] using h.descending
  · simp only [List.forall_mem_map, Place.advanced]
    exact fun p hp => ⟨by omega, by have := below p hp; omega⟩
  · simp only [List.forall_mem_map, Place.advanced]
    intro p hp n
    rw [if_neg (by omega)]
    exact h.unjudged p hp (by have := below p hp; omega)

/-- A push that loads a gap ends: the column has moved up (R15, R94). -/
theorem Column.Lawful.pushGap {c : Column} (h : c.Lawful) (inFlight : c.operation = some (.push none))
    (line : LineState) :
    (Column.settled (c.places.map (Place.advanced line)) c.ring).Lawful := by
  obtain ⟨descending, bounds, unjudged⟩ := h.advanced (h.pushUnder _ inFlight) line
  refine ⟨descending, fun p hp => (bounds p hp).2, unjudged, h.ring, nofun, rfl, fun i => ?_, fun i => ?_,
    h.resolved, rfl⟩
  · simp only [Column.settled, List.countP_map]
    exact h.records i
  · have slot := h.loading i
    rw [inFlight] at slot
    simpa [Column.settled] using slot

/-- A push that loads an order ends: the column has moved up, and the order's record stands at position 0 (R15, R4). -/
theorem Column.Lawful.pushOrder {c : Column} (h : c.Lawful) {j : Fin 64}
    (inFlight : c.operation = some (.push (some j))) (line : LineState) (order : BilletOrder) :
    (Column.settled (c.places.map (Place.advanced line) ++ [⟨j, 0, .none⟩])
      { c.ring with slots := c.ring.slots.set j (.inLine order) }).Lawful := by
  obtain ⟨descending, bounds, unjudged⟩ := h.advanced (h.pushUnder _ inFlight) line
  have loading : c.ring.slots[j].isLoading = true := (h.loading j).2 inFlight
  have notInLine : c.ring.slots[j].isInLine = false := by
    revert loading; cases c.ring.slots[j] <;> simp [Slot.isLoading, Slot.isInLine]
  refine ⟨?_, ?_, ?_, h.ring.setPast (Slot.pastQueue_of_isLoading loading) rfl, nofun, rfl,
    fun i => ?_, fun i => ?_, fun i => ?_, rfl⟩
  · refine List.pairwise_append.2 ⟨descending, List.pairwise_singleton _ _, fun p hp q hq => ?_⟩
    rw [List.mem_singleton.1 hq]
    exact (bounds p hp).1
  · simp only [Column.settled, List.forall_mem_append, List.forall_mem_singleton]
    exact ⟨fun p hp => (bounds p hp).2, by omega⟩
  · simp only [Column.settled, List.forall_mem_append, List.forall_mem_singleton]
    exact ⟨unjudged, fun _ => trivial⟩
  · have count := h.records i
    show (_ ++ [_]).countP _ = if (c.ring.slots.set j (.inLine order))[i].isInLine then 1 else 0
    rw [slots_set, List.countP_append, List.countP_map, List.countP_singleton]
    have same : c.places.countP ((fun p => p.slot == i) ∘ Place.advanced line) =
        c.places.countP (fun p => p.slot == i) := rfl
    rw [same, count]
    by_cases e : j = i
    · subst e; rw [notInLine, if_pos rfl]; simp [Slot.isInLine]
    · simp [e]
  · have slot := h.loading i
    rw [inFlight] at slot
    simp only [Column.settled]
    rw [slots_set]
    by_cases e : j = i
    · simp [e, Slot.isLoading]
    · rw [if_neg e, slot]; simp [e]
  · simp only [Column.settled]
    rw [slots_set]
    split
    · rfl
    · exact h.resolved i

end Sys2Proof.Machine
end

section
/-! SUPPORT. Load decisions and pushes keep the laws of the column (O58). -/

namespace Sys2Proof.Machine

/-! ### Retirements and the load decision -/

/-- The order of a slot whose order can be retired: QUEUED, LOADING or IN_LINE (R132). -/
def Slot.live? : Slot → Option BilletOrder
  | .queued o | .loading o | .inLine o => some o
  | .free | .done _ _ => none

/-- A retirement makes its slot DONE, and touches nothing else of the column (R132). -/
theorem State.retire_column {s : State} {j : Fin 64} {order : BilletOrder} (status : StatusRecord)
    (live : s.ring.slots[j].live? = some order) :
    (s.retire j status).column =
      { s.column with ring := { s.ring.unbatched with slots := s.ring.slots.set j (.done order status) } } := by
  have slots : (s.retire j status).ring.slots = s.ring.slots.set j (.done order status) := by
    ext i hi
    have h := s.retire_slots j ⟨i, hi⟩ status
    have e := slots_set s.ring.slots j ⟨i, hi⟩ (.done order status)
    simp only [Fin.getElem_fin] at h e live ⊢
    rw [h, e]
    split
    · revert live
      cases s.ring.slots[j.val] <;> simp [Slot.live?]
    · rfl
  simp only [State.column, State.retire_frame, Ring.unbatched, slots]

theorem State.skipHeads_lawful (n : Nat) (s : State) (h : s.column.Lawful) : (s.skipHeads n).column.Lawful := by
  induction n generalizing s with
  | zero => exact h
  | succ n ih =>
    unfold State.skipHeads
    split
    · rename_i order head
      split
      · refine ih _ ?_
        have retired := State.retire_column (s := s) (order := order) (emptyStatus .noRecipe) (by rw [head]; rfl)
        have skipped := h.skip (by show s.ring.slots[s.ring.load].isQueued = true; rw [head]; rfl) order
          (emptyStatus .noRecipe)
        have ring := congrArg Column.ring retired
        simp only [State.column, Ring.unbatched, Ring.mk.injEq] at ring
        simpa [State.column, Ring.unbatched, Ring.passHead, ring] using skipped
      · exact h
    all_goals exact h

/-- The head that a push start loads is QUEUED and has a recipe (R129 step 2). -/
theorem State.loadableHead_eq_some {s : State} {i : Fin 64} (h : s.loadableHead = some i) :
    i = s.ring.load ∧ ∃ order, s.ring.slots[s.ring.load] = .queued order ∧ order.resolution ≠ .noRecipe := by
  unfold State.loadableHead at h
  split at h
  · cases h
  split at h
  · rename_i order head
    split at h
    · rename_i loadable
      refine ⟨(Option.some.inj h).symm, order, head, fun none_ => ?_⟩
      rw [none_] at loadable
      cases loadable
    · cases h
  all_goals cases h

/-- The load decision of a push start keeps the laws, with the push it answers in flight (R94, R129). -/
theorem State.loadDecision_lawful {s : State} (h : s.column.Lawful) (idle : s.cadence.operation = none)
    (empty : s.cadence.exitVerdict = none) :
    Column.Lawful { s.loadDecision.1.column with operation := some (.push s.loadDecision.2) } := by
  have gap : ∀ t : State, t.column.Lawful → t.cadence = s.cadence →
      Column.Lawful { t.column with operation := some (.push none) } := fun t ht same =>
    ht.start (by show t.cadence.operation = none; rw [same, idle]) _
      (fun loaded e => by
        cases e
        exact ⟨rfl, by show t.cadence.exitVerdict = none; rw [same, empty]⟩)
  have skipped := s.skipHeads_lawful s.ring.queued h
  obtain ⟨-, -, -, -, frame, -⟩ := s.skipHeads_frame s.ring.queued
  unfold State.loadDecision
  split
  · exact gap s h rfl
  dsimp only
  split
  · rename_i i head
    obtain ⟨rfl, order, queued, resolved⟩ := State.loadableHead_eq_some head
    have loaded := skipped.load (by show (s.skipHeads s.ring.queued).cadence.operation = none; rw [frame, idle])
      (by show (s.skipHeads s.ring.queued).cadence.exitVerdict = none; rw [frame, empty]) queued resolved
    simpa [State.column, Ring.unbatched, Ring.passHead, queued, Slot.toLoading, State.setSlot, State.advanceLoad]
      using loaded
  · simpa [State.column] using gap _ skipped frame

/-- The start of a push keeps the laws (R96). -/
theorem State.startPush_lawful {s : State} (h : s.column.Lawful) (idle : s.cadence.operation = none)
    (empty : s.cadence.exitVerdict = none) : s.startPush.column.Lawful :=
  State.loadDecision_lawful h idle empty

/-! ### Pushes -/

theorem State.columnPushed_survey (s : State) (loaded : Option (Fin 64)) :
    (s.columnPushed loaded).tracker.surveyTimer.isSome =
      (s.tracker.surveyTimer.isSome ||
        (s.tracker.train.isEmpty && !(s.columnPushed loaded).tracker.train.isEmpty)) := by
  have timer : ∀ t : State, (t.startSurvey s.tracker.train.isEmpty).tracker.surveyTimer.isSome =
      (t.tracker.surveyTimer.isSome || (s.tracker.train.isEmpty && !t.tracker.train.isEmpty)) := by
    intro t
    unfold State.startSurvey
    split
    · rename_i b; simp [b]
    · rename_i b; simp [Bool.eq_false_iff.2 b]
  cases loaded <;> simp [State.columnPushed, timer] <;> rfl

theorem State.columnPushed_ring_gap (s : State) : (s.columnPushed none).ring = s.ring := by
  simp [State.columnPushed]

theorem State.columnPushed_ring_order {s : State} {j : Fin 64} {order : BilletOrder}
    (loading : s.ring.slots[j] = .loading order) :
    (s.columnPushed (some j)).ring = { s.ring with slots := s.ring.slots.set j (.inLine order) } := by
  simp only [State.columnPushed, State.startSurvey_frame]
  unfold State.bindOrder
  rw [show s.advanceTrain.ring = s.ring from rfl, loading]
  dsimp only
  cases order.resolution <;> rfl

/-- A record moved up stands in its place moved up (R15). -/
theorem movedUp_place (line : LineState) (r : BilletRecord) : (movedUp line r).place = r.place.advanced line := rfl

theorem State.reportExit_column (s : State) :
    s.reportExit.column = { s.column with exit := exitOf s.column.places } := by
  rw [s.exitOf_column]; rfl

/-- A state with nothing in flight whose survey timer runs while there is a train reports a settled column. -/
theorem State.reportExit_settled {s : State} (idle : s.cadence.operation = none)
    (survey : s.tracker.surveyTimer.isSome = !s.tracker.train.isEmpty) :
    s.reportExit.column = Column.settled s.column.places s.column.ring := by
  rw [s.reportExit_column]
  simp only [Column.settled, State.column, idle, survey, List.isEmpty_map]

/-- The survey timer runs after a push exactly while there is a train (R17). -/
theorem State.columnPushed_surveyed {s : State} (survey : s.tracker.surveyTimer.isSome = !s.tracker.train.isEmpty)
    (loaded : Option (Fin 64)) :
    (s.columnPushed loaded).tracker.surveyTimer.isSome = !(s.columnPushed loaded).tracker.train.isEmpty := by
  rw [s.columnPushed_survey, survey, s.columnPushed_train]
  cases s.tracker.train <;> simp

/-- The places after a push: every place moved up, and the loaded order's at position 0 (R15). -/
theorem State.columnPushed_places (s : State) (loaded : Option (Fin 64)) :
    (s.columnPushed loaded).column.places = s.column.places.map (Place.advanced s.tracker.line) ++
      (s.enteringRecords loaded).map BilletRecord.place := by
  have moved : ∀ r, (movedUp s.tracker.line (s.updated r)).place = r.place.advanced s.tracker.line := fun r => by
    rw [movedUp_place, State.updated_place]
  simp only [State.column, s.columnPushed_train, List.map_append, List.map_map, Function.comp_def, moved]

/-- A loaded order enters as one record at position 0 (R4). -/
theorem State.enteringRecords_place {s : State} {j : Fin 64} {order : BilletOrder}
    (loading : s.ring.slots[j] = .loading order) (resolved : order.resolution ≠ .noRecipe) :
    (s.enteringRecords (some j)).map BilletRecord.place = [⟨j, 0, .none⟩] := by
  simp only [State.enteringRecords, State.boundRecords]
  rw [show s.advanceTrain.ring = s.ring from rfl, loading]
  cases h : order.resolution with
  | recipe ref => simp [h, State.newRecord, BilletRecord.place]
  | noRecipe => exact absurd h resolved

/-- The order of the push in flight is LOADING and has a recipe (R121, R129). -/
theorem Column.Lawful.loadingOrder {c : Column} (h : c.Lawful) {j : Fin 64}
    (inFlight : c.operation = some (.push (some j))) :
    ∃ order, c.ring.slots[j] = .loading order ∧ order.resolution ≠ .noRecipe := by
  have loading := (h.loading j).2 inFlight
  have resolved := h.resolved j
  cases slot : c.ring.slots[j] with
  | loading order =>
    refine ⟨order, rfl, fun none_ => ?_⟩
    rw [slot] at resolved
    simp [Slot.loadsNothing, none_] at resolved
  | free | queued | inLine | done => rw [slot] at loading; cases loading

/-- A push that ends keeps the laws (R15, R97, R105). -/
theorem State.pushed_lawful {s : State} (h : s.column.Lawful) {loaded : Option (Fin 64)}
    (inFlight : s.cadence.operation = some (.push loaded)) :
    ((s.endOperation.columnPushed loaded).reportExit).column.Lawful := by
  have surveyed : s.endOperation.tracker.surveyTimer.isSome = !s.endOperation.tracker.train.isEmpty := by
    simpa [State.column] using h.surveyed
  rw [State.reportExit_settled (by simp) (State.columnPushed_surveyed surveyed loaded),
    State.columnPushed_places]
  cases loaded with
  | none =>
    have gap := h.pushGap inFlight s.tracker.line
    have ring : (s.endOperation.columnPushed none).column.ring = s.column.ring :=
      congrArg Ring.unbatched s.endOperation.columnPushed_ring_gap
    rw [ring]
    simpa [State.enteringRecords, State.column] using gap
  | some j =>
    obtain ⟨order, loading, resolved⟩ := h.loadingOrder inFlight
    have pushed := h.pushOrder inFlight s.tracker.line order
    have ring : (s.endOperation.columnPushed (some j)).column.ring =
        { s.column.ring with slots := s.column.ring.slots.set j (.inLine order) } :=
      congrArg Ring.unbatched (State.columnPushed_ring_order (s := s.endOperation) loading)
    rw [ring, State.enteringRecords_place (s := s.endOperation) loading resolved]
    exact pushed

end Sys2Proof.Machine
end

section
/-! SUPPORT. A RESTART keeps the laws of the column (O58). -/

namespace Sys2Proof.Machine

/-! ### A RESTART -/

/-- What the retirements of a RESTART do to a ring: orders past QUEUED stay so, none comes IN_LINE or LOADING. -/
structure Ring.Lost (r t : Ring) : Prop where
  reclaim : t.reclaim = r.reclaim
  load : t.load = r.load
  tail : t.tail = r.tail
  occupied : t.occupied = r.occupied
  queued : t.queued = r.queued
  stage : ∀ i : Fin 64, t.slots[i].pastQueue = r.slots[i].pastQueue ∧ t.slots[i].isQueued = r.slots[i].isQueued
  inLine : ∀ i : Fin 64, r.slots[i].isInLine = false → t.slots[i].isInLine = false
  loading : ∀ i : Fin 64, r.slots[i].isLoading = false → t.slots[i].isLoading = false

theorem Ring.Lost.refl (r : Ring) : r.Lost r :=
  ⟨rfl, rfl, rfl, rfl, rfl, fun _ => ⟨rfl, rfl⟩, fun _ h => h, fun _ h => h⟩

theorem Ring.Lost.trans {r t u : Ring} (h : r.Lost t) (k : t.Lost u) : r.Lost u :=
  ⟨k.reclaim.trans h.reclaim, k.load.trans h.load, k.tail.trans h.tail, k.occupied.trans h.occupied,
    k.queued.trans h.queued, fun i => ⟨(k.stage i).1.trans (h.stage i).1, (k.stage i).2.trans (h.stage i).2⟩,
    fun i x => k.inLine i (h.inLine i x), fun i x => k.loading i (h.loading i x)⟩

/-- The retirement of an order past QUEUED, DONE in its slot. -/
theorem State.retire_lost (s : State) {j : Fin 64} (status : StatusRecord) (past : s.ring.slots[j].pastQueue = true) :
    s.ring.Lost (s.retire j status).ring ∧ (s.retire j status).ring.slots[j].isInLine = false ∧
      (s.retire j status).ring.slots[j].isLoading = false := by
  have slot : (s.retire j status).ring.slots[j].isInLine = false ∧
      (s.retire j status).ring.slots[j].isLoading = false ∧
      (s.retire j status).ring.slots[j].pastQueue = true ∧ (s.retire j status).ring.slots[j].isQueued = false := by
    rw [State.retire_slots, if_pos rfl]
    revert past
    cases s.ring.slots[j] <;> simp [Slot.isInLine, Slot.isLoading, Slot.pastQueue, Slot.isQueued]
  have other : ∀ i, j ≠ i → (s.retire j status).ring.slots[i] = s.ring.slots[i] := fun i ne => by
    rw [State.retire_slots, if_neg ne]
  obtain ⟨inLine, loading, past', notQueued⟩ := slot
  have plain : s.ring.slots[j].isQueued = false := by
    revert past; cases s.ring.slots[j] <;> simp [Slot.pastQueue, Slot.isQueued]
  refine ⟨⟨by simp, by simp, by simp, by simp, by simp, fun i => ?_, fun i h => ?_, fun i h => ?_⟩, inLine, loading⟩
  all_goals by_cases e : j = i
  · subst e; exact ⟨past'.trans past.symm, notQueued.trans plain.symm⟩
  · rw [other i e]; exact ⟨rfl, rfl⟩
  · subst e; exact inLine
  · rw [other i e]; exact h
  · subst e; exact loading
  · rw [other i e]; exact h

/-- The retirement of records whose orders are past QUEUED: none of them is IN_LINE afterwards (R141 step 1). -/
theorem lostRecords (now : Clock) (rs : List BilletRecord) (s : State)
    (past : ∀ r ∈ rs, s.ring.slots[r.slot].pastQueue = true) :
    s.ring.Lost (rs.foldl (fun x r => x.retire r.slot (recordStatus .restartLost now r)) s).ring ∧
      ∀ r ∈ rs, (rs.foldl (fun x r => x.retire r.slot (recordStatus .restartLost now r)) s).ring.slots[r.slot].isInLine
        = false := by
  induction rs generalizing s with
  | nil => exact ⟨.refl _, nofun⟩
  | cons r rest ih =>
    obtain ⟨lost, done, -⟩ := s.retire_lost (recordStatus .restartLost now r) (past r List.mem_cons_self)
    obtain ⟨lost', rest'⟩ := ih (s.retire r.slot (recordStatus .restartLost now r))
      fun q hq => ((lost.stage q.slot).1).trans (past q (List.mem_cons_of_mem _ hq))
    refine ⟨lost.trans lost', ?_⟩
    simp only [List.forall_mem_cons]
    exact ⟨lost'.inLine _ done, rest'⟩

theorem State.loseLoadingAt_lost (s : State) (i : Fin 64) :
    s.ring.Lost (s.loseLoadingAt i).ring ∧ (s.loseLoadingAt i).ring.slots[i].isLoading = false := by
  unfold State.loseLoadingAt
  cases slot : s.ring.slots[i] with
  | loading order =>
    have h := s.retire_lost (emptyStatus .restartLost) (j := i) (by rw [slot]; rfl)
    exact ⟨h.1, h.2.2⟩
  | free | queued | inLine | done => exact ⟨.refl _, by rw [slot]; rfl⟩

/-- No order is LOADING after the retirement of the LOADING ones (R141 step 2). -/
theorem State.loseLoading_lost (s : State) :
    s.ring.Lost s.loseLoading.ring ∧ ∀ i : Fin 64, s.loseLoading.ring.slots[i].isLoading = false := by
  have fold : ∀ (is : List (Fin 64)) (t : State), t.ring.Lost (is.foldl State.loseLoadingAt t).ring ∧
      ∀ i ∈ is, (is.foldl State.loseLoadingAt t).ring.slots[i].isLoading = false := by
    intro is
    induction is with
    | nil => exact fun t => ⟨.refl _, nofun⟩
    | cons i rest ih =>
      intro t
      obtain ⟨lost, done⟩ := t.loseLoadingAt_lost i
      obtain ⟨lost', rest'⟩ := ih (t.loseLoadingAt i)
      refine ⟨lost.trans lost', ?_⟩
      simp only [List.forall_mem_cons]
      exact ⟨lost'.loading _ done, rest'⟩
  unfold State.loseLoading
  exact ⟨(fold (List.finRange 64) s).1, fun i => (fold (List.finRange 64) s).2 i (List.mem_finRange i)⟩

/-- A mark NO_RECIPE keeps a slot's stage (R130). -/
theorem Slot.markNoRecipe_stage (i : Fin 32) (x : Slot) :
    (x.markNoRecipe i).pastQueue = x.pastQueue ∧ (x.markNoRecipe i).isQueued = x.isQueued ∧
    (x.markNoRecipe i).isInLine = x.isInLine ∧ (x.markNoRecipe i).isLoading = x.isLoading ∧
    (x.markNoRecipe i).loadsNothing = x.loadsNothing := by
  cases x with
  | queued order => unfold Slot.markNoRecipe; dsimp only; split <;> exact ⟨rfl, rfl, rfl, rfl, rfl⟩
  | free | loading | inLine | done => exact ⟨rfl, rfl, rfl, rfl, rfl⟩

theorem State.markNoRecipe_slots (s : State) (i : Fin 32) (j : Fin 64) :
    (s.markNoRecipe i).ring.slots[j] = s.ring.slots[j].markNoRecipe i := by
  simp [State.markNoRecipe]

theorem State.markNoRecipe_lost (s : State) (i : Fin 32) : s.ring.Lost (s.markNoRecipe i).ring := by
  refine ⟨rfl, rfl, rfl, rfl, rfl, fun j => ?_, fun j h => ?_, fun j h => ?_⟩ <;> rw [s.markNoRecipe_slots]
  all_goals obtain ⟨past, queued, inLine, loading, -⟩ := Slot.markNoRecipe_stage i s.ring.slots[j]
  · exact ⟨past, queued⟩
  · exact inLine.trans h
  · exact loading.trans h

theorem State.restartRecipes_lost (s : State) : s.ring.Lost s.restartRecipes.ring := by
  unfold State.restartRecipes
  dsimp only
  refine List.foldlRecOn (motive := fun t : State => s.ring.Lost t.ring) (List.finRange 32) _ (.refl _)
    (fun t h i _ => ?_)
  unfold State.dropPendingAt
  split
  · split
    · exact h.trans (t.markNoRecipe_lost i)
    · exact h
  · exact h

/-- With no order left IN_LINE or LOADING, the empty column is lawful. -/
theorem Ring.Lost.settled_lawful {r t : Ring} (lost : r.Lost t) (order : r.unbatched.InOrder)
    (inLine : ∀ i : Fin 64, t.slots[i].isInLine = false) (loading : ∀ i : Fin 64, t.slots[i].isLoading = false) :
    (Column.settled [] t.unbatched).Lawful := by
  refine ⟨.nil, nofun, nofun, ?_, nofun, rfl, fun i => ?_, fun i => ?_,
    fun i => Slot.loadsNothing_of_not_isLoading (loading i), rfl⟩
  · exact order.of_stages lost.reclaim lost.load lost.tail lost.occupied lost.queued lost.stage
  · show 0 = if t.slots[i].isInLine then 1 else 0
    rw [inLine]; rfl
  · show t.slots[i].isLoading = true ↔ none = _
    rw [loading]; simp

theorem Ring.unbatched_unbatched (r : Ring) : r.unbatched.unbatched = r.unbatched := rfl

theorem State.restartBlocks_ring (s : State) :
    s.restartBlocks.ring = ((s.loseRecords.loseLoading).restartRecipes).ring.unbatched := by
  simp [State.restartBlocks, State.restartLine, State.restartTracker, State.restartArbiter_ring_settings,
    State.clearBatch, Ring.unbatched]

/-- The blocks of a RESTART are an empty column (R28, R73, R141). -/
theorem State.restartBlocks_column (s : State) :
    s.restartBlocks.column = Column.settled [] s.restartBlocks.ring.unbatched :=
  rfl

/-- A RESTART keeps the laws of the column (R207, R141). -/
theorem State.restartBlocks_lawful {s : State} (h : s.column.Lawful) : s.restartBlocks.column.Lawful := by
  have past : ∀ r ∈ s.tracker.train, s.ring.slots[r.slot].isInLine = true := fun r hr =>
    h.inLine (List.mem_map_of_mem hr)
  obtain ⟨lost, out⟩ : s.ring.Lost s.loseRecords.ring ∧ ∀ r ∈ s.tracker.train,
      s.loseRecords.ring.slots[r.slot].isInLine = false :=
    lostRecords _ _ s fun r hr => Slot.pastQueue_of_isInLine (past r hr)
  obtain ⟨lost', unloaded⟩ := s.loseRecords.loseLoading_lost
  have lost'' := s.loseRecords.loseLoading.restartRecipes_lost
  have inLine : ∀ i : Fin 64, s.loseRecords.ring.slots[i].isInLine = false := fun i => by
    by_cases at_ : s.ring.slots[i].isInLine = true
    · have count := h.records i
      rw [show s.column.ring.slots[i] = s.ring.slots[i] from rfl, if_pos at_] at count
      obtain ⟨p, mem, e⟩ := List.countP_pos_iff.1 (by omega : 0 < s.column.places.countP (fun p => p.slot == i))
      obtain ⟨r, hr, rfl⟩ := List.mem_map.1 mem
      rw [← eq_of_beq e]
      exact out r hr
    · exact lost.inLine i (by simpa using at_)
  rw [s.restartBlocks_column, s.restartBlocks_ring, Ring.unbatched_unbatched]
  exact ((lost.trans lost').trans lost'').settled_lawful h.ring
    (fun i => (lost'.trans lost'').inLine i (inLine i)) (fun i => lost''.loading i (unloaded i))

end Sys2Proof.Machine
end

section
/-! PROOF. Every move keeps the laws of the column (O58). -/

namespace Sys2Proof.Machine

/-! ### Every move keeps the laws of the column -/

theorem State.updateExit_column (s : State) (f : BilletRecord → BilletRecord) :
    s.tracker.exitRecord = none ∧ (s.updateExit f).column = s.column ∨
    ∃ r rest, s.tracker.exitRecord = some r ∧ s.tracker.train = r :: rest ∧ (s.updateExit f).column =
      { s.column with places := (f r).place :: rest.map BilletRecord.place } := by
  unfold State.updateExit Tracker.exitRecord State.column
  cases train : s.tracker.train with
  | nil => simp [train]
  | cons r rest =>
    by_cases exit : r.position = 12
    · exact .inr ⟨r, rest, by simp [exit], rfl, by simp [exit]⟩
    · exact .inl (by simp [exit, train])

theorem State.judged_lawful {s : State} (h : s.column.Lawful) {f : BilletRecord → BilletRecord}
    (place : ∀ r, s.tracker.exitRecord = some r → (f r).slot = r.slot ∧ (f r).position = r.position) :
    ((s.updateExit f).reportExit).column.Lawful := by
  rw [State.reportExit_column]
  rcases s.updateExit_column f with ⟨-, e⟩ | ⟨r, rest, exit, train, e⟩ <;> rw [e]
  · rw [← h.exitKnown]; exact h
  · obtain ⟨slot, position⟩ := place r exit
    have at12 := (Tracker.exitRecord_eq_some_iff.1 exit).2
    have judged := h.judge (p := r.place) (rest := rest.map BilletRecord.place) (by simp [State.column, train]) at12
      (f r).verdict
    have shape : (f r).place = ⟨r.place.slot, r.place.position, (f r).verdict⟩ := by
      simp [BilletRecord.place, slot, position]
    rw [shape]
    have now : exitOf (⟨r.place.slot, r.place.position, (f r).verdict⟩ :: rest.map BilletRecord.place) =
        some (f r).verdict := if_pos at12
    rw [now]
    exact judged

theorem State.removed_lawful {s : State} (h : s.column.Lawful) (idle : s.cadence.operation = none)
    (v : BilletRecord → OrderVerdict) : (s.removeExit v).column.Lawful := by
  unfold State.removeExit
  split
  · rename_i r exit
    obtain ⟨train, at12⟩ := Tracker.exitRecord_eq_some_iff.1 exit
    have places : s.column.places = r.place :: s.tracker.train.tail.map BilletRecord.place := by
      show s.tracker.train.map _ = _
      rw [train]; rfl
    have inLine := h.inLine (p := r.place) (by rw [places]; exact List.mem_cons_self)
    obtain ⟨order, slot⟩ := Slot.exists_of_isInLine inLine
    obtain ⟨empty, lawful⟩ := h.remove idle places at12 order (recordStatus (v r) s.tracker.clock r)
    have live : s.dropExit.ring.slots[r.slot].live? = some order := by
      rw [show s.dropExit.ring.slots[r.slot] = .inLine order from slot]; rfl
    have running : s.tracker.surveyTimer.isSome = true := by
      have surveyed := h.surveyed
      rw [places] at surveyed
      exact surveyed
    have survey : s.dropExit.tracker.surveyTimer.isSome = !(s.tracker.train.tail.map BilletRecord.place).isEmpty := by
      unfold State.dropExit
      cases s.tracker.train.tail <;> simp [running]
    have left : Column.Lawful
        { (s.dropExit.retire r.slot (recordStatus (v r) s.tracker.clock r)).column with exit := none } := by
      rw [State.retire_column (recordStatus (v r) s.tracker.clock r) live]
      rw [Column.settled, empty, ← survey, ← idle] at lawful
      exact lawful
    exact left
  · rename_i none_
    have empty := h.exitKnown.trans (s.exitRecord_eq_none_iff.1 none_)
    have same : State.column { s with cadence.exitVerdict := none } = s.column := by
      show Column.mk _ _ _ _ _ = Column.mk _ _ _ _ _
      simpa [State.column] using empty.symm
    rw [same]; exact h

theorem State.queued_lawful {s : State} (h : s.column.Lawful) (order : BilletOrder) (room : s.ring.occupied < 64) :
    (s.queueOrder order).column.Lawful := by
  have free : s.column.ring.slots[s.column.ring.tail] = .free := by
    obtain ⟨h1, h2, h3, -, at_⟩ := h.ring
    refine (at_ _).2.2 ?_
    rw [Ring.ahead_val]
    have : s.column.ring.occupied < 64 := room
    omega
  have posted := h.ofSlots (h.ring.post order room)
    (slots_set_marks rfl rfl (by rw [free]; rfl) (by rw [free]; rfl))
  exact posted

theorem State.withdrawn_lawful (n : Nat) (s : State) (h : s.column.Lawful) : (s.withdrawNewest n).1.column.Lawful := by
  induction n generalizing s with
  | zero => exact h
  | succ n ih =>
    unfold State.withdrawNewest
    dsimp only
    split
    · rename_i order newest
      have slot : s.column.ring.slots[s.column.ring.tail - 1] = .queued order := newest
      refine ih _ ?_
      have freed := h.ofSlots (h.ring.unpost (by rw [slot]; rfl))
        (slots_set_marks rfl rfl (by rw [slot]; rfl) (by rw [slot]; rfl))
      exact freed
    all_goals exact h

theorem State.reclaimed_lawful (n : Nat) (s : State) (h : s.column.Lawful) : (s.reclaimOldest n).1.column.Lawful := by
  induction n generalizing s with
  | zero => exact h
  | succ n ih =>
    unfold State.reclaimOldest
    split
    · exact h
    · split
      · rename_i order status oldest
        have slot : s.column.ring.slots[s.column.ring.reclaim] = .done order status := oldest
        refine ih _ ?_
        have freed := h.ofSlots (h.ring.reclaimOne (by rw [slot]; rfl))
          (slots_set_marks rfl rfl (by rw [slot]; rfl) (by rw [slot]; rfl))
        exact freed
      all_goals exact h

theorem State.marked_lawful {s : State} (h : s.column.Lawful) (i : Fin 32) : (s.markNoRecipe i).column.Lawful := by
  have lost := s.markNoRecipe_lost i
  refine h.ofSlots (ring := (s.markNoRecipe i).ring.unbatched)
    (h.ring.of_stages lost.reclaim lost.load lost.tail lost.occupied lost.queued lost.stage) fun j => ?_
  have stage := Slot.markNoRecipe_stage i s.ring.slots[j]
  rw [← s.markNoRecipe_slots] at stage
  exact ⟨stage.2.2.1, stage.2.2.2.1, stage.2.2.2.2⟩

theorem State.powerOnBlocks_lawful (s : State) : s.powerOnBlocks.column.Lawful := by
  have reset : ColumnLaws State.reset := by decide +kernel
  exact (columnLaws_iff State.reset).1 reset

theorem Move.lawful {free : Prop} {s t : State} (m : Move free s t) (yes : free) (h : s.column.Lawful) :
    t.column.Lawful := by
  cases m with
  | same column => rw [column]; exact h
  | judged f place => exact State.judged_lawful h place
  | started o idle gap => exact h.start (idle yes) o gap
  | pushStarted idle empty => exact State.startPush_lawful h idle empty
  | ended other => exact h.stop other
  | pushed loaded inFlight => exact State.pushed_lawful h inFlight
  | removed v idle => exact State.removed_lawful h idle v
  | queued order room => exact State.queued_lawful h order room
  | withdrawn n => exact State.withdrawn_lawful n s h
  | reclaimed n => exact State.reclaimed_lawful n s h
  | marked i => exact State.marked_lawful h i
  | restarted => exact State.restartBlocks_lawful h
  | reset => exact State.powerOnBlocks_lawful s

theorem Chain.lawful {free : Prop} {s t : State} (c : Chain free s t) (yes : free) (h : s.column.Lawful) :
    t.column.Lawful := by
  induction c with
  | refl => exact h
  | tail _ m ih => exact m.lawful yes ih

/-- Settles O58: a step is a chain of moves of the column, and every move keeps its laws. -/
theorem columnLawsKept : Obligations.ColumnLawsKept := fun s _ ready laws st =>
  (columnLaws_iff _).2 ((step_chain (free := True) (fun _ => ready) st).lawful trivial ((columnLaws_iff s).1 laws))

end Sys2Proof.Machine
end

section
/-! PROOF. Idle steps, power-on and the reset state (O2, O37, O53). -/

namespace Sys2Proof.Machine

/-! ### Idle steps, power-on and the reset state -/

/-- A step with no command waiting is an idle step (log entry 1). -/
theorem step_of_idle {s : State} (h : s.pending = []) : step s = idleStep s := by
  unfold step stepQueue
  rw [h]

/-- Without a RESTART to take effect and without a reply to begin, an idle step lets time pass. -/
theorem idleStep_passTime {s : State} (still : s.restartMayTakeEffect = false)
    (quiet : s.port.replyFrame = none ∨ s.pins.linkDe = true) : idleStep s = s.passTime := by
  unfold idleStep
  rcases quiet with q | q <;> simp [still, q]

/-- While an expiry is due, one that is due is taken. -/
theorem State.passTime_due {s : State} (due : s.dueExpiries ≠ []) :
    ∃ i, i ∈ s.dueExpiries ∧ s.passTime = exec i s := by
  unfold State.passTime
  cases list : s.dueExpiries with
  | nil => exact absurd list due
  | cons i rest =>
    have bound : Config.dueChoice s.tracker.clock (i :: rest) % (rest.length + 1) < (i :: rest).length :=
      Nat.mod_lt _ (Nat.succ_pos _)
    refine ⟨_, List.getElem_mem bound, ?_⟩
    dsimp only
    rw [List.getD_eq_getElem _ _ bound]

/-- Settles O2, by the branches of an idle step. -/
theorem idleStepPassesTime : Obligations.IdleStepPassesTime := by
  intro s empty
  rw [step_of_idle empty]
  refine ⟨fun due => ?_, fun still formed silent => ?_, fun still quiet => ?_⟩
  · unfold idleStep; rw [if_pos due]
  · unfold idleStep; simp only [still, formed, silent]; rfl
  · rw [idleStep_passTime still quiet]
    refine ⟨fun none_ => ?_, State.passTime_due⟩
    unfold State.passTime; rw [none_]; rfl

/-- Settles O37: HOLD_DELAY is 20 s after power-on, so that PRESS_STOP asserted then loads the hold-delay timer. -/
theorem powerOnRestoresDefaults : Obligations.PowerOnRestoresDefaults := by
  intro s
  show Host.Outcome.next (powerOnReset s) = _
  rw [powerOnReset_eq]
  unfold State.takePressStop
  cases stop : s.pins.pressStop with
  | false => rw [if_neg (by simp [State.powerOnBlocks, State.reset, Pins.negated, stop])]; rfl
  | true => rw [if_pos (by simp [State.powerOnBlocks, State.reset, Pins.negated, stop])]; rfl

/-- Settles O53: each law is decided on the one state it is claimed of. -/
theorem resetIsSound : Obligations.ResetIsSound := by
  have line : LineLaws State.reset := by decide +kernel
  have converter : ConverterLaws State.reset := by decide +kernel
  have ranges : RangeLaws State.reset := by decide +kernel
  have column : ColumnLaws State.reset := by decide +kernel
  have table : TableLaws State.reset := by decide +kernel
  refine ⟨by decide, by decide, line, converter, ranges, by decide, column, table, ?_⟩
  intro r hr
  cases hr

end Sys2Proof.Machine
end

section
/-! PROOF. The expiry of the reading timer (O43). -/

namespace Sys2Proof.Machine

/-! ### The exit record and the choice that follows its verdict -/

theorem State.updateExit_of_exit {s : State} {r : BilletRecord} (exit : s.tracker.exitRecord = some r)
    (f : BilletRecord → BilletRecord) :
    s.updateExit f = { s with tracker.train := f r :: s.tracker.train.tail } := by
  obtain ⟨train, at12⟩ := Tracker.exitRecord_eq_some_iff.1 exit
  unfold State.updateExit
  rw [train]
  exact if_pos at12

/-- The exit record rewritten in its place, with its verdict reported (R22 to R24). -/
theorem State.judgeExit_eq {s : State} {r : BilletRecord} (exit : s.tracker.exitRecord = some r)
    {f : BilletRecord → BilletRecord} (place : (f r).position = r.position) :
    (s.updateExit f).reportExit =
      { s with
        tracker.train := f r :: s.tracker.train.tail
        cadence.exitVerdict := some (f r).verdict } := by
  have at12 := place.trans (Tracker.exitRecord_eq_some_iff.1 exit).2
  rw [State.updateExit_of_exit exit]
  unfold State.reportExit Tracker.exitRecord
  simp only [at12, if_true, Option.map_some]

/-- With a reject at the exit the choice starts a DIVERT, in RUN with nothing in flight (R91, R100). -/
theorem State.choose_of_reject {s : State} {v : Verdict} (exit : s.cadence.exitVerdict = some v)
    (reject : v.isReject = true) :
    s.choose = if s.cadence.line = .run ∧ s.cadence.operation = none then s.startOperation .divert else s := by
  unfold State.choose
  rw [exit]
  simp only [reject, if_true]

/-- With a verdict at the exit that is no reject the choice starts an EXTRACT at most (R91, R98). -/
theorem State.choose_of_accept {s : State} {v : Verdict} (exit : s.cadence.exitVerdict = some v)
    (reject : v.isReject = false) :
    s.choose = if s.cadence.line = .run ∧ s.cadence.operation = none ∧ v = .good ∧ s.cadence.pendingCall = true
      then s.startExtract else s := by
  unfold State.choose
  rw [exit]
  by_cases run : s.cadence.line = .run ∧ s.cadence.operation = none
  · simp [run, reject]
  · rw [if_neg run, if_neg (fun h => run ⟨h.1, h.2.1⟩)]

/-- With no GOOD record at the exit PRESS_READY is negated at the end of an event (R85). -/
theorem State.settle_of_not_good {s : State} (exit : s.cadence.exitVerdict ≠ some .good) :
    s.settle = { s with pins.pressReady := false } := by
  simp [State.settle, Cadence.pressReadyLevel, exit]

theorem State.startOperation_divert (s : State) : s.startOperation .divert = operationStarted s .divert := by
  simp [State.startOperation, operationStarted, State.timer]

/-- Settles O43: the exit record takes REJECT_UNMEASURED, which the choice answers with a DIVERT. -/
theorem readingTimeoutRejects : Obligations.ReadingTimeoutRejects := by
  intro s
  refine ⟨fun r runs exit awaits => ?_, fun runs final => ?_, fun stopped => ?_⟩
  all_goals show Host.Outcome.next (readingTimerExpiry s) = _; unfold readingTimerExpiry
  · rw [if_pos runs, exit]
    dsimp only
    rw [if_pos awaits, State.judgeExit_eq (s := { s with tracker.readingTimer := none }) exit rfl,
      State.choose_of_reject rfl rfl]
    congr 1
    dsimp only
    split
    · rw [State.startOperation_divert, State.settle_of_not_good (by simp [operationStarted])]
      rfl
    · rw [State.settle_of_not_good (by simp)]
  · rw [if_pos runs]
    split
    · rename_i r exit
      rw [if_neg (final r exit)]
    · rfl
  · rw [if_neg (by simp [stopped])]

end Sys2Proof.Machine
end

section
/-! SUPPORT. What readings, surveys and the choice leave alone: settings, port, inputs, the slice in flight, the train but
for extraction marks (O41, O44). -/

namespace Sys2Proof.Machine

/-! ### What an event of the plant leaves alone outside its units -/

/-- What `SameOutside` compares, as one value of the state. -/
def State.outside (s : State) :=
  (s.settings, s.port, s.pending, s.tracker.clock, s.attention.enabled,
    (s.pins.pressCall, s.pins.pressStop, s.pins.convReady, s.pins.guards, s.pins.address, s.pins.linkDe),
    (fun k : Fin 4 => s.counters[k].selection), (s.arbiter.enable, s.arbiter.pause),
    fun z : Fin 6 => s.arbiter.zones[z].settings)

theorem sameOutside_iff {s t : State} : SameOutside s t ↔ t.outside = s.outside := by
  simp only [SameOutside, State.outside, Prod.mk.injEq, funext_iff]

theorem sameOutside_of_outside {s t : State} (h : t.outside = s.outside) : SameOutside s t := sameOutside_iff.2 h

variable (s : State)

@[simp] theorem State.settle_outside : s.settle.outside = s.outside := rfl

@[simp] theorem State.reportExit_outside : s.reportExit.outside = s.outside := rfl

@[simp] theorem State.reportReadiness_outside : s.reportReadiness.outside = s.outside := rfl

@[simp] theorem State.updateTrain_outside : s.updateTrain.outside = s.outside := rfl

@[simp] theorem State.raise_outside (x : Source) : (s.raise x).outside = s.outside := rfl

@[simp] theorem State.raiseIf_outside (b : Bool) (x : Source) : (s.raiseIf b x).outside = s.outside := by
  unfold State.raiseIf; split <;> rfl

@[simp] theorem State.ringLow_outside (before : Nat) : (s.ringLow before).outside = s.outside :=
  s.raiseIf_outside _ _

@[simp] theorem State.count_outside (e : CountedEvent) : (s.count e).outside = s.outside := by
  have selection : ∀ k : Fin 4, (s.count e).counters[k].selection = s.counters[k].selection := fun k => by
    simp only [State.count, Fin.getElem_fin, Vector.getElem_mapIdx, Counter.tick]
    split <;> rfl
  simp only [State.outside, selection]
  rfl

@[simp] theorem State.updateExit_outside (f : BilletRecord → BilletRecord) :
    (s.updateExit f).outside = s.outside := by
  simp [State.outside]

@[simp] theorem State.recheckExit_outside : s.recheckExit.outside = s.outside := by
  simp [State.recheckExit]

@[simp] theorem State.evaluateAll_outside : s.evaluateAll.outside = s.outside := by
  simp [State.outside]

@[simp] theorem State.grant_outside : s.grant.outside = s.outside := by
  simp [State.outside, s.grant_zones 0]

@[simp] theorem State.startOperation_outside (o : Operation) : (s.startOperation o).outside = s.outside := rfl

@[simp] theorem State.batch_outside (order : BilletOrder) : (s.batch order).outside = s.outside := by
  unfold State.batch State.raiseOrderDone
  dsimp only
  split <;> split <;> split <;> rfl

@[simp] theorem State.afterRetirement_outside (order : BilletOrder) (v : OrderVerdict) :
    (s.afterRetirement order v).outside = s.outside := by
  have counted : (s.countRetirement v).outside = s.outside := by
    unfold State.countRetirement
    split
    · exact s.count_outside _
    · rfl
  unfold State.afterRetirement
  dsimp only
  split
  · exact counted
  · rw [State.batch_outside, counted]

@[simp] theorem State.retire_outside (slot : Fin 64) (status : StatusRecord) :
    (s.retire slot status).outside = s.outside := by
  unfold State.retire
  split
  iterate 3 rw [State.afterRetirement_outside]; rfl
  all_goals rfl

theorem State.skipHeads_outside (n : Nat) : (s.skipHeads n).outside = s.outside := by
  induction n generalizing s with
  | zero => rfl
  | succ n ih =>
    unfold State.skipHeads
    split
    · split
      · rw [ih]
        exact s.retire_outside _ _
      · rfl
    all_goals rfl

theorem State.loadDecision_outside : s.loadDecision.1.outside = s.outside := by
  have skipped := s.skipHeads_outside s.ring.queued
  unfold State.loadDecision
  split
  · rfl
  dsimp only
  split
  · rw [State.ringLow_outside]; exact skipped
  · rw [State.ringLow_outside]; exact skipped

@[simp] theorem State.startPush_outside : s.startPush.outside = s.outside := s.loadDecision_outside

@[simp] theorem State.startExtract_outside : s.startExtract.outside = s.outside := by
  unfold State.startExtract
  rw [State.startOperation_outside, State.updateExit_outside]
  rfl

@[simp] theorem State.choose_outside : s.choose.outside = s.outside := by
  rcases s.choose_cases with h | ⟨-, -, ⟨v, -, -, h⟩ | ⟨-, -, h⟩ | ⟨-, -, -, h⟩ | ⟨-, -, -, h⟩⟩ <;> rw [h]
  · rfl
  · exact s.startExtract_outside
  · exact s.startPush_outside
  · unfold State.startColdWait
    split
    · exact State.startPush_outside _
    · rfl

@[simp] theorem State.chooseIfReported_outside (before : State) :
    (s.chooseIfReported before).outside = s.outside := by
  unfold State.chooseIfReported
  split
  · rfl
  · exact s.choose_outside

@[simp] theorem State.setEntry_outside (i : Fin 32) (e : Option Entry) : (s.setEntry i e).outside = s.outside := rfl

@[simp] theorem State.handOver_outside (x : WritebackRecord) : (s.handOver x).outside = s.outside := by
  simp only [State.handOver, State.count_outside, State.raise_outside]
  rfl

@[simp] theorem State.handOnTrim_outside (i : Fin 32) (e : Entry) : (s.handOnTrim i e).outside = s.outside := by
  unfold State.handOnTrim
  split
  · rfl
  · split <;> simp

@[simp] theorem State.learn_outside (i : Fin 32) (residual : Int) (width : Nat) :
    (s.learn i residual width).outside = s.outside := by
  unfold State.learn
  split
  · rfl
  · dsimp only
    split <;> simp

@[simp] theorem State.learnFrom_outside (r : BilletRecord) (residual : Int) (width : Nat) :
    (s.learnFrom r residual width).outside = s.outside := by
  unfold State.learnFrom
  split
  · split
    · rfl
    · exact s.learn_outside _ _ _
  · rfl

/-! ### The slice in flight -/

/-- A grant leaves a slice in flight (R56). -/
theorem State.grant_sliceKept : SliceKept s s.grant := fun inFlight => by
  rw [s.grant_closed (by simp [Arbiter.mayGrant, Option.isNone_eq_false_iff.2 inFlight])]
  exact ⟨rfl, rfl⟩

/-- A learning step leaves a slice in flight (R168). -/
theorem State.learn_sliceKept (i : Fin 32) (residual : Int) (width : Nat) :
    SliceKept s (s.learn i residual width) := by
  unfold State.learn
  split
  · exact fun _ => ⟨rfl, rfl⟩
  · dsimp only
    split
    · exact fun _ => ⟨rfl, rfl⟩
    · rename_i e _ _
      have kept := (s.handOnTrim i (e.learn residual width)).evaluateAll.grant_sliceKept
      intro inFlight
      simpa using kept (by simpa using inFlight)

theorem State.learnFrom_sliceKept (r : BilletRecord) (residual : Int) (width : Nat) :
    SliceKept s (s.learnFrom r residual width) := by
  unfold State.learnFrom
  split
  · split
    · exact fun _ => ⟨rfl, rfl⟩
    · exact s.learn_sliceKept _ _ _
  · exact fun _ => ⟨rfl, rfl⟩

/-! ### Extraction marks -/

theorem State.updateExit_unmarked {f : BilletRecord → BilletRecord} (same : ∀ r, unmarked (f r) = unmarked r) :
    (s.updateExit f).tracker.train.map unmarked = s.tracker.train.map unmarked := by
  unfold State.updateExit
  split
  · rename_i r rest train
    split
    · simp [train, same]
    · rfl
  · rfl

/-- The choice changes an extraction mark of the train at most (R98). -/
theorem State.choose_trainIs : TrainIs s.choose s.tracker.train := by
  rcases s.choose_cases with h | ⟨-, -, ⟨v, -, -, h⟩ | ⟨-, -, h⟩ | ⟨-, -, -, h⟩ | ⟨-, -, -, h⟩⟩ <;>
    rw [TrainIs, h]
  · rfl
  · exact State.updateExit_unmarked _ fun r => rfl
  · rw [s.startPush_frame.2.2.1]
  · unfold State.startColdWait
    split
    · rw [(State.startPush_frame _).2.2.1]
    · rfl

/-- The choice touches no timer of the tracker. -/
theorem State.choose_timers :
    s.choose.tracker.readingTimer = s.tracker.readingTimer ∧ s.choose.tracker.surveyTimer = s.tracker.surveyTimer := by
  rcases s.choose_cases with h | ⟨-, -, ⟨v, -, -, h⟩ | ⟨-, -, h⟩ | ⟨-, -, -, h⟩ | ⟨-, -, -, h⟩⟩ <;> rw [h]
  · exact ⟨rfl, rfl⟩
  · exact ⟨rfl, rfl⟩
  · simp [State.startExtract]
  · rw [s.startPush_frame.2.2.1]; exact ⟨rfl, rfl⟩
  · unfold State.startColdWait
    split
    · rw [(State.startPush_frame _).2.2.1]; exact ⟨rfl, rfl⟩
    · exact ⟨rfl, rfl⟩

end Sys2Proof.Machine
end

section
/-! PROOF. A reading decides the verdict at the exit (O41). -/

namespace Sys2Proof.Machine

/-! ### A reading at the exit -/

/-- A choice made with a verdict at the exit touches no order and no attention set, and starts what
Table 4-2 says of that verdict (R91). -/
theorem State.choose_of_exit {s : State} {v : Verdict} (exit : s.cadence.exitVerdict = some v) :
    s.choose.ring = s.ring ∧ s.choose.attention = s.attention ∧
    (s.cadence.line = .run → s.cadence.operation = none → s.choose.cadence.operation =
      if v.isReject then some .divert
      else if v = .good ∧ s.cadence.pendingCall = true then some .extract
      else none) ∧
    (s.cadence.line ≠ .run ∨ s.cadence.operation.isSome = true →
      s.choose.cadence.operation = s.cadence.operation) := by
  have busy : s.cadence.line ≠ .run ∨ s.cadence.operation.isSome = true →
      ¬ (s.cadence.line = .run ∧ s.cadence.operation = none) := by
    rintro (line | inFlight) ⟨run, idle⟩
    · exact line run
    · rw [idle] at inFlight; cases inFlight
  by_cases reject : v.isReject = true
  · rw [State.choose_of_reject exit reject, if_pos reject]
    refine ⟨?_, ?_, fun run idle => ?_, fun not => ?_⟩
    · split <;> rfl
    · split <;> rfl
    · rw [if_pos ⟨run, idle⟩]; rfl
    · rw [if_neg (busy not)]
  · rw [State.choose_of_accept exit (Bool.eq_false_iff.2 reject), if_neg reject]
    refine ⟨?_, ?_, fun run idle => ?_, fun not => ?_⟩
    · split
      · simp [State.startExtract]
      · rfl
    · split
      · simp [State.startExtract]
      · rfl
    · simp only [run, idle, true_and]
      split <;> [rfl; exact idle]
    · rw [if_neg (fun h => busy not ⟨h.1, h.2.1⟩)]

/-- The state in which the exit record has taken its reading, before the learning step (R21, R22). -/
def State.afterReading (s : State) (x : BilletRecord) : State :=
  { s with
    tracker.readingTimer := none
    tracker.train := x :: s.tracker.train.tail
    cadence.exitVerdict := some x.verdict }

/-- The corrected exit record is the one Table 1-2 and R21 give. -/
theorem corrected_eq_readRecord (s : State) (value : Nat) (r : BilletRecord) :
    corrected (s.bodyOf r) s.settings.ambient (min value 25600) (s.updated r) = readRecord s value r := by
  obtain ⟨tm, sx, holdTime, aged, h⟩ := s.updated_shape r
  simp only [readRecord, h, corrected, readingVerdict]

theorem readRecord_position (s : State) (value : Nat) (r : BilletRecord) :
    (readRecord s value r).position = r.position := by
  obtain ⟨tm, sx, holdTime, aged, h⟩ := s.updated_shape r
  simp only [readRecord, h]

/-- What a reading is: the corrected record, the learning step, the choice (R21, R22, R26, R91). -/
theorem pyroTemperatureMessage_eq {s : State} {r : BilletRecord} (value : Nat)
    (exit : s.tracker.exitRecord = some r) (awaits : r.verdict = .awaiting) (line : s.tracker.line ≠ .purging) :
    pyroTemperatureMessage value s =
      (((s.afterReading (readRecord s value r)).learnFrom (readRecord s value r)
        (((readRecord s value r).tm : Int) - (s.updated r).tm) (s.bodyOf r).width).choose).settle := by
  unfold pyroTemperatureMessage
  rw [State.awaiting_eq_some_iff.2 ⟨exit, awaits, line⟩]
  dsimp only
  rw [corrected_eq_readRecord, State.judgeExit_eq (s := { s with tracker.readingTimer := none }) exit]
  · rfl
  · exact readRecord_position s value r

@[simp] theorem State.learnFrom_frame (s : State) (r : BilletRecord) (residual : Int) (width : Nat) :
    (s.learnFrom r residual width).ring = s.ring ∧ (s.learnFrom r residual width).cadence = s.cadence ∧
    (s.learnFrom r residual width).tracker.train = s.tracker.train ∧
    (s.learnFrom r residual width).tracker.line = s.tracker.line ∧
    (s.learnFrom r residual width).tracker.readingTimer = s.tracker.readingTimer := by
  unfold State.learnFrom
  split
  · split
    · simp
    · simp
  · simp

theorem State.awaiting_eq_none {s : State}
    (h : (∀ r, s.tracker.exitRecord = some r → r.verdict ≠ .awaiting) ∨ s.tracker.line = .purging) :
    s.awaiting = none := by
  rw [Option.eq_none_iff_forall_ne_some]
  intro r e
  obtain ⟨exit, awaits, line⟩ := State.awaiting_eq_some_iff.1 e
  rcases h with final | purging
  · exact final r exit awaits
  · exact line purging

/-- What the choice leaves of a reading, once the learning step has been made. -/
theorem readingLeaves_of_learnt {s u : State} {r : BilletRecord} {value : Nat}
    (outside : u.outside = s.outside) (slice : SliceKept s u) (ring : u.ring = s.ring)
    (cadence : u.cadence = { s.cadence with exitVerdict := some (readRecord s value r).verdict })
    (train : u.tracker.train = readRecord s value r :: s.tracker.train.tail)
    (timer : u.tracker.readingTimer = none) : ReadingLeaves r value s u.choose.settle := by
  obtain ⟨-, -, arbiter, -, -, -, -, line, -, verdict, -⟩ := u.choose_frame
  obtain ⟨ring', -, starts, waits⟩ := State.choose_of_exit (s := u) (by rw [cadence])
  rw [cadence] at line verdict starts waits
  refine ⟨?_, ?_, verdict, line, ring'.trans ring, ?_, ?_, starts, waits⟩
  · rw [← train]; exact u.choose_trainIs
  · exact u.choose_timers.1.trans timer
  · exact sameOutside_of_outside ((State.choose_outside u).trans outside)
  · show s.arbiter.slice.isSome = true → u.choose.arbiter.slice = _ ∧ u.choose.arbiter.sliceTimer = _
    rw [arbiter]
    exact slice

/-- Settles O41: the learning step and the choice leave the corrected record at the exit, and the choice follows its
verdict. -/
theorem readingDecidesVerdict : Obligations.ReadingDecidesVerdict := by
  intro s value
  refine ⟨fun r exit awaits line => ⟨_, rfl, ?_⟩, fun ignored => ?_⟩
  · rw [pyroTemperatureMessage_eq value exit awaits line]
    obtain ⟨ring, cadence, train, -, timer⟩ := (s.afterReading (readRecord s value r)).learnFrom_frame
      (readRecord s value r) (((readRecord s value r).tm : Int) - (s.updated r).tm) (s.bodyOf r).width
    exact readingLeaves_of_learnt (State.learnFrom_outside _ _ _ _)
      (State.learnFrom_sliceKept (s.afterReading (readRecord s value r)) _ _ _) ring cadence train timer
  · show Host.Outcome.next (pyroTemperatureMessage value s) = _
    unfold pyroTemperatureMessage
    rw [State.awaiting_eq_none ignored]

end Sys2Proof.Machine
end

section
/-! PROOF. A reading teaches the record's entry (O42). -/

namespace Sys2Proof.Machine

/-! ### Demand and readiness do not read extraction marks -/

/-- The state with every extraction mark of the train cleared. -/
def State.unmarkTrain (s : State) : State := { s with tracker.train := s.tracker.train.map unmarked }

theorem State.unmarkTrain_demandNow (s : State) (z : Fin 6) : s.unmarkTrain.demandNow z = s.demandNow z := by
  have occupants : s.unmarkTrain.tracker.occupants z = (s.tracker.occupants z).map unmarked := by
    simp only [Tracker.occupants, State.unmarkTrain, List.filter_map]
    rfl
  simp only [State.demandNow, State.guardQuery, occupants, List.any_map]
  rfl

theorem State.unmarkTrain_readinessNow (s : State) : s.unmarkTrain.readinessNow = s.readinessNow := by
  have at11 : s.unmarkTrain.tracker.recordAt 11 = (s.tracker.recordAt 11).map unmarked := by
    simp only [Tracker.recordAt, State.unmarkTrain, List.find?_map]
    rfl
  unfold State.readinessNow
  rw [at11]
  cases s.tracker.recordAt 11 <;> rfl

/-- Demand is the same in two states whose trains differ in extraction marks alone. -/
theorem State.demandNow_of_trainIs {s t : State} (z : Fin 6) (train : TrainIs t s.tracker.train)
    (line : t.tracker.line = s.tracker.line) (recipes : t.recipes = s.recipes) (settings : t.settings = s.settings)
    (zone : t.arbiter.zones[z].settings = s.arbiter.zones[z].settings) : t.demandNow z = s.demandNow z := by
  rw [← s.unmarkTrain_demandNow, ← t.unmarkTrain_demandNow]
  exact State.demandNow_congr z train line recipes settings zone

theorem State.readinessNow_of_trainIs {s t : State} (train : TrainIs t s.tracker.train)
    (recipes : t.recipes = s.recipes) : t.readinessNow = s.readinessNow := by
  rw [← s.unmarkTrain_readinessNow, ← t.unmarkTrain_readinessNow]
  have same : t.unmarkTrain.tracker.train = s.unmarkTrain.tracker.train := train
  have body : t.unmarkTrain.bodyOf = s.unmarkTrain.bodyOf := by
    funext r; simp [State.bodyOf, State.unmarkTrain, recipes]
  simp only [State.readinessNow, Tracker.recordAt, same, body]

/-- The choice leaves demand flags that were up to date so. -/
theorem State.choose_demandEvaluated {s : State} (h : DemandEvaluated s) : DemandEvaluated s.choose := by
  obtain ⟨-, recipes, arbiter, settings, -, -, -, -, -, -, -, -, line, -, demand⟩ := s.choose_frame
  intro z
  rw [State.demandNow_of_trainIs z s.choose_trainIs line recipes settings (by rw [arbiter]), demand]
  exact h z

/-- After an evaluation of all zones every demand flag is up to date (R37). -/
theorem State.evaluateAll_demandEvaluated (s : State) : DemandEvaluated s.evaluateAll := fun z => by
  rw [State.demandNow_congr (s := s) z (by simp) (by simp) (by simp) (by simp) (by simp)]
  exact s.evaluateAll_demand z

/-- A grant leaves demand flags that were up to date so. -/
theorem State.grant_demandEvaluated {s : State} (h : DemandEvaluated s) : DemandEvaluated s.grant := fun z => by
  rw [State.demandNow_congr (s := s) z (by simp) (by simp) (by simp) (by simp) (by simp),
    show s.grant.tracker = s.tracker by simp]
  exact h z

/-! ### The learning step -/

theorem learnedEntry_eq (residual : Int) (width : Nat) (e : Entry) :
    learnedEntry residual width e = e.learn residual width := by
  have clamp : ∀ x : Int, (if x > 2047 then 2047 else if x < -2048 then -2048 else x) = max (-2048) (min x 2047) :=
    fun x => by split <;> [skip; split] <;> omega
  simp only [learnedEntry, Entry.learn, learnedTrim, clamp]
  rfl

theorem listAfter_eq (list : List WritebackRecord) (x : WritebackRecord) : listAfter list x = handInto list x := by
  simp [listAfter, handInto]

theorem canTake_iff (list : List WritebackRecord) (k : Key) : canTake list k = true ↔ ListHasRoom list k := by
  simp [canTake, ListHasRoom]

/-- With the write-through policy and room in the list a trim change hands a record over (R170). -/
theorem State.handOnTrim_through {s : State} {i : Fin 32} {e : Entry} (policy : e.policy = .writeThrough)
    (room : ListHasRoom s.recipes.writebacks e.key) :
    s.handOnTrim i e = (s.setEntry i (some { e with state := .valid })).handOver (e.record .through) := by
  unfold State.handOnTrim
  rw [policy]
  exact if_pos ((canTake_iff _ _).2 room)

/-- With the write-back policy, or without room in the list, a trim change makes the entry LEARNED (R169, R170). -/
theorem State.handOnTrim_learned {s : State} {i : Fin 32} {e : Entry}
    (kept : e.policy = .writeBack ∨ ¬ ListHasRoom s.recipes.writebacks e.key) :
    s.handOnTrim i e = s.setEntry i (some { e with state := .learned }) := by
  unfold State.handOnTrim
  split
  · rfl
  · rename_i through
    rcases kept with back | full
    · rw [through] at back; cases back
    · rw [if_neg (fun room => full ((canTake_iff _ _).1 room))]

/-- What a learning step leaves (R167 to R170). -/
theorem State.learn_leaves {s : State} {i : Fin 32} {e : Entry} (entry : s.recipes.entries[i] = some e)
    (residual : Int) (width : Nat) :
    LearningLeaves i e (e.learn residual width) s (s.learn i residual width) := by
  have changed : (e.learn residual width).trim ≠ e.trim → s.learn i residual width =
      (s.handOnTrim i (e.learn residual width)).evaluateAll.grant := fun ne => by
    unfold State.learn; rw [entry]; exact if_neg ne
  have learned : (e.learn residual width).trim ≠ e.trim →
      e.policy = .writeBack ∨ ¬ ListHasRoom s.recipes.writebacks e.key →
      (s.learn i residual width).recipes =
        (entrySet s i (some { e.learn residual width with state := .learned })).recipes ∧
      DemandEvaluated (s.learn i residual width) := fun ne kept => by
    rw [changed ne, State.handOnTrim_learned (e := e.learn residual width) kept]
    exact ⟨by simp only [State.grant_frame, State.evaluateAll_frame]; rfl,
      State.grant_demandEvaluated (State.evaluateAll_demandEvaluated _)⟩
  refine ⟨fun same => ?_, fun ne policy => learned ne (.inl policy), fun ne policy room => ?_,
    fun ne _ full => learned ne (.inr full)⟩
  · unfold State.learn
    rw [entry]
    dsimp only
    rw [if_pos same]
    exact ⟨rfl, rfl⟩
  · rw [changed ne, State.handOnTrim_through (e := e.learn residual width) policy room, listAfter_eq]
    refine ⟨?_, ?_, State.grant_demandEvaluated (State.evaluateAll_demandEvaluated _)⟩
    · simp only [State.grant_frame, State.evaluateAll_frame]
      rfl
    · simp only [State.isPending, State.grant_frame, State.evaluateAll_frame]
      show (s.attention.pending ||| Source.writeback.bit).getLsbD Source.writeback.number = true
      simp [Source.bit, Source.number]

/-- An update that is not aged leads to a verdict other than REJECT_AGED (R22). -/
theorem readRecord_aged (s : State) (value : Nat) (r : BilletRecord) :
    (readRecord s value r).verdict = .rejectAged ↔ (s.updated r).aged = true := by
  simp only [readRecord]
  split
  · simp [*]
  · rename_i young
    refine ⟨fun h => ?_, fun h => absurd h young⟩
    split at h <;> [cases h; split at h] <;> [cases h; split at h] <;> cases h

/-- A learning step's effect is still there after the choice that follows the verdict. -/
theorem LearningLeaves.choose {i : Fin 32} {e x : Entry} {s u : State} {v : Verdict}
    (exit : u.cadence.exitVerdict = some v) (h : LearningLeaves i e x s u) :
    LearningLeaves i e x s u.choose.settle := by
  obtain ⟨-, recipes, -, -, -, -, -, -, -, -, -, -, -, -, demand⟩ := u.choose_frame
  obtain ⟨-, attention, -⟩ := State.choose_of_exit exit
  have evaluated : DemandEvaluated u → DemandEvaluated u.choose.settle := State.choose_demandEvaluated
  obtain ⟨same, back, through, full⟩ := h
  refine ⟨fun eq => ?_, fun ne p => ?_, fun ne p room => ?_, fun ne p no => ?_⟩
  · exact ⟨recipes.trans (same eq).1, demand.trans (same eq).2⟩
  · exact ⟨recipes.trans (back ne p).1, evaluated (back ne p).2⟩
  · obtain ⟨list, raised, flags⟩ := through ne p room
    refine ⟨recipes.trans list, ?_, evaluated flags⟩
    show u.choose.attention.pending.getLsbD _ = true
    rw [attention]
    exact raised
  · exact ⟨recipes.trans (full ne p no).1, evaluated (full ne p no).2⟩

theorem readRecord_ref (s : State) (value : Nat) (r : BilletRecord) : (readRecord s value r).ref = r.ref := by
  obtain ⟨tm, sx, holdTime, aged, h⟩ := s.updated_shape r
  simp only [readRecord, h]

/-- A record resolved to an entry teaches it, unless it is REJECT_AGED (R26). -/
theorem State.learnFrom_entry {s : State} {r : BilletRecord} {i : Fin 32} (ref : r.ref = .entry i)
    (young : r.verdict ≠ .rejectAged) (residual : Int) (width : Nat) :
    s.learnFrom r residual width = s.learn i residual width := by
  unfold State.learnFrom
  rw [ref]
  exact if_neg young

/-- A REJECT_AGED record and one resolved to a window teach nothing (R26). -/
theorem State.learnFrom_nothing {s : State} {r : BilletRecord}
    (none_ : r.verdict = .rejectAged ∨ ∃ w, r.ref = .window w) (residual : Int) (width : Nat) :
    s.learnFrom r residual width = s := by
  unfold State.learnFrom
  split
  · rename_i i entry
    rcases none_ with aged | ⟨w, window⟩
    · rw [if_pos aged]
    · rw [entry] at window; cases window
  · rfl

/-- Settles O42: the reading's learning step is `State.learn` at the record's entry, and the choice keeps its effect. -/
theorem readingTeachesEntry : Obligations.ReadingTeachesEntry := by
  intro s value r exit awaits line
  refine ⟨_, rfl, fun i e ref entry young => ?_, fun none_ => ?_⟩
  all_goals rw [pyroTemperatureMessage_eq value exit awaits line]
  · have young' : (readRecord s value r).verdict ≠ .rejectAged := fun aged => by
      rw [readRecord_aged, young] at aged; cases aged
    rw [State.learnFrom_entry ((readRecord_ref s value r).trans ref) young', learnedEntry_eq]
    have taught := State.learn_leaves (s := s.afterReading (readRecord s value r)) entry
      (((readRecord s value r).tm : Int) - (s.updated r).tm) (s.bodyOf r).width
    exact LearningLeaves.choose (v := (readRecord s value r).verdict) (by simp [State.afterReading]) taught
  · rw [State.learnFrom_nothing (by rwa [readRecord_aged, readRecord_ref])]
    exact (State.choose_frame _).2.1

end Sys2Proof.Machine
end

section
/-! PROOF. A survey (O44). -/

namespace Sys2Proof.Machine

/-! ### No grant is left due after a grant -/

theorem Zone.dropDose_eligible (c : Zone) (silent : c.request = false) : c.dropDose.eligible = false := by
  simp [Zone.dropDose, Zone.eligible, silent]

/-- A grant among zones orders a slice, or leaves none of them eligible (R56, R58). -/
theorem State.grantAmong_settled (s : State) (zones : List (Fin 6)) :
    (s.grantAmong zones).arbiter.slice.isSome = true ∨
    ∀ z : Fin 6, z ∈ zones ∨ s.arbiter.zones[z].eligible = false →
      (s.grantAmong zones).arbiter.zones[z].eligible = false := by
  induction zones generalizing s with
  | nil => exact .inr fun z h => h.resolve_left (List.not_mem_nil)
  | cons z rest ih =>
    unfold State.grantAmong
    split
    · split
      · split
        · dsimp only
          split
          · exact .inl rfl
          · rename_i silent
            have dropped : ∀ y : Fin 6, y = z ∨ s.arbiter.zones[y].eligible = false →
                (s.updateZone z Zone.dropDose).arbiter.zones[y].eligible = false := by
              intro y h
              rw [State.updateZone_zones]
              split
              · exact Zone.dropDose_eligible _ (Bool.eq_false_iff.2 silent)
              · rename_i ne
                exact h.resolve_left (fun e => ne e.symm)
            refine (ih (s.updateZone z Zone.dropDose)).imp id fun settled y h => settled y ?_
            rcases h with mem | out
            · rcases List.mem_cons.1 mem with rfl | mem
              · exact .inr (dropped _ (.inl rfl))
              · exact .inl mem
            · exact .inr (dropped y (.inr out))
        · exact .inl rfl
      · exact .inl rfl
    · rename_i fit
      refine (ih s).imp id fun settled y h => settled y ?_
      rcases h with mem | out
      · rcases List.mem_cons.1 mem with rfl | mem
        · exact .inr (Bool.eq_false_iff.2 fit)
        · exact .inl mem
      · exact .inr out

theorem mem_rankOrder (pairAlternation : Nat) (favour : Favour) (z : Fin 6) :
    z ∈ rankOrder pairAlternation favour := by
  unfold rankOrder
  split <;> revert z <;> decide

/-- After a grant none is due (R56). -/
theorem State.grant_noGrantDue (s : State) : NoGrantDue s.grant := by
  unfold State.grant
  split
  · rcases s.grantAmong_settled (rankOrder s.settings.pairAlternation s.arbiter.favour) with slice | settled
    · intro may
      simp [Arbiter.mayGrant, Option.isNone_eq_false_iff.2 slice] at may
    · exact fun _ z => settled z (.inl (mem_rankOrder _ _ z))
  · rename_i closed
    exact fun may => absurd may closed

/-! ### A survey -/

/-- A survey updates a record below the exit and does no more to it (R17). -/
theorem surveyed_below (s : State) {r : BilletRecord} (below : r.position ≠ 12) : surveyed s r = s.updated r :=
  if_neg fun h => below h.1

/-- The re-check of an updated exit record is what a survey does to it (R17, R24). -/
theorem rechecked_updated (s : State) {r : BilletRecord} (exit : r.position = 12) :
    s.updateTrain.rechecked (s.updated r) = surveyed s r := by
  obtain ⟨tm, sx, holdTime, aged, h⟩ := s.updated_shape r
  simp only [State.rechecked, surveyed, h, exit, true_and, recheckVerdict]
  rfl

/-- The train of a survey: every record updated, a GOOD exit record re-checked (R17, R24). -/
theorem State.surveyed_train {s : State} (ordered : TrainOrdered s) :
    s.updateTrain.recheckExit.tracker.train = s.tracker.train.map (surveyed s) := by
  obtain ⟨descending, bounded⟩ := ordered
  show (s.updateTrain.updateExit s.updateTrain.rechecked).tracker.train = _
  unfold State.updateExit
  rw [s.updateTrain_tracker]
  cases train : s.tracker.train with
  | nil => simp [train]
  | cons r rest =>
    rw [train] at descending bounded
    have head := s.updated_position r
    have top := bounded r List.mem_cons_self
    have rest' : rest.map (surveyed s) = rest.map s.updated := List.map_congr_left fun q hq =>
      surveyed_below s (by have := List.rel_of_pairwise_cons descending hq; omega)
    simp only [List.map_cons, head, rest']
    split
    · rename_i exit
      rw [rechecked_updated s exit]
    · rename_i below
      simp [surveyed_below s below, train]

theorem State.exitVerdict_of_trainIs {s t : State} (train : TrainIs t s.tracker.train) :
    t.tracker.exitRecord.map BilletRecord.verdict = s.tracker.exitRecord.map BilletRecord.verdict := by
  have marks : ∀ u : State, u.tracker.exitRecord.map BilletRecord.verdict =
      u.unmarkTrain.tracker.exitRecord.map BilletRecord.verdict := by
    intro u
    unfold Tracker.exitRecord State.unmarkTrain
    cases u.tracker.train with
    | nil => rfl
    | cons r rest => by_cases at12 : r.position = 12 <;> simp [unmarked, at12]
  have same : t.unmarkTrain.tracker.train = s.unmarkTrain.tracker.train := train
  rw [marks s, marks t]
  unfold Tracker.exitRecord
  rw [same]

/-- With an operation in flight the choice does nothing (R91). -/
theorem State.choose_busy {s : State} (busy : s.cadence.operation.isSome = true) : s.choose = s := by
  unfold State.choose
  exact if_neg fun h => by rw [h.2] at busy; cases busy

/-- What a survey leaves, the choice leaves so. -/
theorem SurveyLeaves.choose {s u : State} (h : SurveyLeaves s u) : SurveyLeaves s u.choose := by
  obtain ⟨train, survey, reading, line, readiness, exit, demand, noGrant, outside, slice, recipes, state, busy⟩ := h
  obtain ⟨-, recipes', arbiter, -, -, -, -, state', -, exit', readiness', -, line', -, -⟩ := u.choose_frame
  obtain ⟨reading', survey'⟩ := u.choose_timers
  refine ⟨u.choose_trainIs.trans train, survey'.trans survey, reading'.trans reading, line'.trans line, ?_, ?_,
    State.choose_demandEvaluated demand, ?_, ?_, ?_, recipes'.trans recipes, state'.trans state, fun inFlight => ?_⟩
  · exact readiness'.trans (readiness.trans (State.readinessNow_of_trainIs u.choose_trainIs recipes').symm)
  · exact exit'.trans (exit.trans (State.exitVerdict_of_trainIs u.choose_trainIs).symm)
  · rw [NoGrantDue, arbiter]; exact noGrant
  · exact sameOutside_of_outside (u.choose_outside.trans (sameOutside_iff.1 outside))
  · rw [SliceKept, arbiter]; exact slice
  · rw [State.choose_busy (by rw [(busy inFlight).1]; exact inFlight)]
    exact busy inFlight

/-- The train's part of a survey: the timer loaded again, every record updated, the exit re-checked (R17, R24). -/
def State.surveyTrain (s : State) : State :=
  ({ s with tracker.surveyTimer := some (s.timer s.settings.surveyPeriod) }).updateTrain.recheckExit

/-- A survey before the choice: the train's part, demand and readiness evaluated, and one grant (R17, R25, R37). -/
def State.afterSurvey (s : State) : State := s.surveyTrain.evaluateAll.reportReadiness.grant

@[simp] theorem State.surveyTrain_frame (s : State) :
    s.surveyTrain.arbiter = s.arbiter ∧ s.surveyTrain.recipes = s.recipes ∧ s.surveyTrain.ring = s.ring ∧
    s.surveyTrain.cadence.line = s.cadence.line ∧ s.surveyTrain.cadence.operation = s.cadence.operation ∧
    s.surveyTrain.tracker.line = s.tracker.line ∧ s.surveyTrain.tracker.readingTimer = s.tracker.readingTimer ∧
    s.surveyTrain.tracker.surveyTimer = some ⟨s.tracker.clock, s.settings.surveyPeriod⟩ ∧
    s.surveyTrain.outside = s.outside := by
  refine ⟨?_, ?_, ?_, ?_, ?_, ?_, ?_, ?_, ?_⟩
  case refine_9 => simp only [State.surveyTrain, State.recheckExit_outside, State.updateTrain_outside]; rfl
  all_goals simp [State.surveyTrain, State.recheckExit, State.reportExit, State.timer]

theorem State.surveyTrain_train {s : State} (ordered : TrainOrdered s) :
    s.surveyTrain.tracker.train = s.tracker.train.map (surveyed s) :=
  State.surveyed_train (s := { s with tracker.surveyTimer := some (s.timer s.settings.surveyPeriod) }) ordered

theorem State.afterSurvey_leaves {s : State} (ordered : TrainOrdered s) : SurveyLeaves s s.afterSurvey := by
  have tracker : s.afterSurvey.tracker = s.surveyTrain.evaluateAll.tracker := by simp [State.afterSurvey]
  have train : s.afterSurvey.tracker.train = s.surveyTrain.tracker.train := by simp [tracker]
  have recipes : s.afterSurvey.recipes = s.surveyTrain.evaluateAll.recipes := by simp [State.afterSurvey]
  have cadence : s.afterSurvey.cadence = { s.surveyTrain.cadence with
      readiness := s.surveyTrain.evaluateAll.readinessNow } := by
    simp [State.afterSurvey, State.reportReadiness]
  refine ⟨?_, ?_, ?_, ?_, ?_, ?_, ?_, State.grant_noGrantDue _, ?_, ?_, ?_, ?_, ?_⟩
  · rw [TrainIs, train, State.surveyTrain_train ordered]
  · simp [tracker]
  · simp [tracker]
  · simp [tracker]
  · rw [ReadinessKnown, cadence, State.readinessNow_of_trainIs (by rw [TrainIs, tracker]) recipes]
  · rw [ExitKnown, cadence, Tracker.exitRecord, train]; rfl
  · exact State.grant_demandEvaluated (s.surveyTrain.evaluateAll_demandEvaluated)
  · exact sameOutside_of_outside (by simp [State.afterSurvey])
  · have kept := s.surveyTrain.evaluateAll.reportReadiness.grant_sliceKept
    simpa [SliceKept, State.afterSurvey] using kept
  · simp [recipes]
  · simp [cadence]
  · refine fun _ => ⟨by simp [cadence], by simp [State.afterSurvey]⟩

/-- Settles O44: what a survey leaves before the choice, the choice that may follow keeps. -/
theorem surveyUpdatesTrain : Obligations.SurveyUpdatesTrain := by
  refine fun s => ⟨fun runs ordered => ⟨_, rfl, ?_⟩, fun stopped => ?_⟩
  · have before := State.afterSurvey_leaves ordered
    unfold surveyTimerExpiry
    rw [if_pos runs]
    show SurveyLeaves s (s.afterSurvey.chooseIfReported s).settle
    unfold State.chooseIfReported
    split
    · exact before
    · exact before.choose
  · show Host.Outcome.next (surveyTimerExpiry s) = _
    unfold surveyTimerExpiry
    rw [if_neg (by simp [stopped])]

end Sys2Proof.Machine
end

section
/-! PROOF. The requests that read (O17). -/

namespace Sys2Proof.Machine

/-! ### Lengths of the views -/

@[simp] theorem length_put8 (n : Nat) : (put8 n).length = 1 := rfl
@[simp] theorem length_put16 (n : Nat) : (put16 n).length = 2 := rfl
@[simp] theorem length_put32 (n : Nat) : (put32 n).length = 4 := rfl
@[simp] theorem length_putClock (c : Clock) : (putClock c).length = 4 := rfl
@[simp] theorem length_putSigned (t : Int) : (putSigned t).length = 2 := rfl
@[simp] theorem length_putKey (k : Key) : (putKey k).length = 2 := rfl
@[simp] theorem length_putBody (b : Body) : (putBody b).length = 17 := rfl

theorem length_recordView (r : BilletRecord) : (recordView r).length = 35 := by
  simp only [recordView, List.length_append, length_put8, length_put16, length_put32, length_putClock]

theorem length_wantView (w : Want) : (wantView w).length = 9 := by
  simp only [wantView, List.length_append, length_put8, length_put16, length_putClock, length_putKey]

theorem length_entryView (i : Fin 32) (e : Entry) : (entryView i e).length = 31 := by
  simp only [entryView, List.length_append, length_put8, length_put16, length_putKey, length_putBody,
    length_putSigned]

theorem State.length_zoneView (s : State) (z : Fin 6) : (s.zoneView z).length = 29 := by
  simp only [State.zoneView, List.length_append, length_put8, length_put16, length_put32]

theorem length_flatMap_of_const {α : Type} (f : α → List Byte) {n : Nat} (const : ∀ a, (f a).length = n)
    (l : List α) : (l.flatMap f).length = n * l.length := by
  simp [List.length_flatMap, const, Nat.mul_comm]

theorem State.length_trainView (s : State) (first count : Nat) :
    (s.trainView first count).length =
      6 + 35 * (List.range count).countP (fun k => (s.tracker.recordAt (first + k)).isSome) := by
  simp only [State.trainView, List.length_append, length_putClock, length_put8,
    length_flatMap_of_const recordView length_recordView, Tracker.recordsFrom, List.length_filterMap_eq_countP]

theorem State.length_wantsView (s : State) : s.wantsView.length = 7 + 9 * s.recipes.wants.length := by
  simp only [State.wantsView, List.length_append, length_putClock, length_put8,
    length_flatMap_of_const wantView length_wantView]

theorem State.length_countersView (s : State) : s.countersView.length = 20 := by
  rw [State.countersView, length_flatMap_of_const _ (n := 5) (fun c => rfl), Vector.length_toList]

theorem State.length_settingsView (s : State) : s.settingsView.length = 84 := by
  rw [State.settingsView, List.length_append, length_flatMap_of_const put32 length_put32,
    length_flatMap_of_const put16 length_put16, Vector.length_toList]
  rfl

/-! ### Order summaries -/

theorem length_statusBytes (x : Option StatusRecord) : (statusBytes x).length = 17 := by
  cases x <;> rfl

theorem length_orderSummary (t : RecipeTable) (i : Fin 64) (x : Slot) (o : BilletOrder) :
    (orderSummary t i x o).length = 32 := by
  simp only [orderSummary, List.length_append, length_put8, length_put16, length_put32, length_putKey,
    length_statusBytes]

/-- READ ORDERS lists no more summaries than it has room for, each of 32 bytes (R127, R200). -/
theorem State.coverSlots_room (s : State) (at_ : Fin 64) (count room : Nat) :
    (s.coverSlots at_ count room).2.length ≤ room ∧
    ∀ bytes ∈ (s.coverSlots at_ count room).2, bytes.length = 32 := by
  induction count generalizing at_ room with
  | zero => exact ⟨Nat.zero_le _, nofun⟩
  | succ count ih =>
    unfold State.coverSlots
    split
    · exact ih (at_ + 1) room
    · split
      · exact ⟨Nat.zero_le _, nofun⟩
      · rename_i room
        obtain ⟨few, each⟩ := ih (at_ + 1) room
        refine ⟨Nat.succ_le_succ few, ?_⟩
        simp only [List.forall_mem_cons]
        exact ⟨length_orderSummary _ _ _ _, each⟩

theorem State.length_ordersView (s : State) (first : Fin 64) (count : Nat) :
    (s.ordersView first count).length ≤ 170 := by
  obtain ⟨few, each⟩ := s.coverSlots_room first count 5
  have listed : (s.coverSlots first count 5).2.flatten.length = 32 * (s.coverSlots first count 5).2.length := by
    rw [List.length_flatten, List.map_congr_left (g := fun _ => 32) each]
    simp [Nat.mul_comm]
  simp only [State.ordersView, List.length_append, length_put8, length_put16, listed]
  omega

/-! ### The requests that read -/

theorem State.lineView_eq (s : State) : s.lineView = lineBytes s := by
  simp [State.lineView, lineBytes, put8, flagBit]

theorem State.identity_eq (s : State) : s.identity =
    [0x10, 0x5E, 0x24, 0x06, 0x01, s.port.station.setWidth 8, BitVec.ofNat 8 s.settings.lastReset.code] ++
      putClock s.tracker.clock := by
  simp [State.identity, put8, put16, vendorCode, partCode, revision]

theorem zoneOf_names {zone : Nat} {z : Fin 6} (h : Names zone z) : zoneOf zone = some z := by
  unfold zoneOf
  rw [dif_pos (by omega)]
  exact congrArg some (Fin.ext (by simp [h]))

theorem zoneOf_unnamed {zone : Nat} (h : ∀ z, ¬ Names zone z) : zoneOf zone = none := by
  unfold zoneOf
  refine dif_neg fun range => h ⟨zone - 1, by omega⟩ ?_
  show zone = zone - 1 + 1
  omega

/-- Settles O17: each request is its block's reading function, whose reply is the view of Table 10-4. -/
theorem readsAnswerAndChangeNothing : Obligations.ReadsAnswerAndChangeNothing := by
  intro s
  refine ⟨?_, ?_, ?_, ?_, ?_, ?_, ?_, ?_, ?_, ?_, ?_, ?_, ?_, ?_, ?_⟩
  · rw [← s.lineView_eq]; rfl
  · refine fun first count low high last => ⟨?_, s.length_trainView first count⟩
    exact congrArg Host.Outcome.next (if_pos ⟨low, high, last⟩)
  · exact fun first count out => congrArg Host.Outcome.next (if_neg out)
  · refine fun zone z names => ⟨?_, s.length_zoneView z⟩
    show Host.Outcome.next (readZoneRequest zone s) = _
    rw [readZoneRequest, onZone, zoneOf_names names]
    rfl
  · intro zone unnamed
    show Host.Outcome.next (readZoneRequest zone s) = _
    rw [readZoneRequest, onZone, zoneOf_unnamed unnamed]
    rfl
  · refine fun first count low high => ⟨?_, s.length_ordersView first count⟩
    show Host.Outcome.next (readOrdersRequest first.val count s) = _
    rw [readOrdersRequest, dif_pos first.isLt, if_pos ⟨low, high⟩]
    rfl
  · intro first count out
    show Host.Outcome.next (readOrdersRequest first count s) = _
    unfold readOrdersRequest
    split
    · rw [if_neg (by omega)]; rfl
    · rfl
  · rintro key i e ⟨found, entry⟩
    refine ⟨?_, length_entryView i e⟩
    show Host.Outcome.next (onKey key s fun i e => s.accept (entryView i e)) = _
    unfold onKey
    rw [found]
    dsimp only
    rw [entry]
    rfl
  · intro key absent
    show Host.Outcome.next (onKey key s fun i e => s.accept (entryView i e)) = _
    unfold onKey
    rw [absent]
    rfl
  · intro w
    show Host.Outcome.next (readRecipeRequest (.window w.val) s) = _
    simp only [readRecipeRequest, windowOf, w.isLt, dif_pos]
    rfl
  · intro n out
    show Host.Outcome.next (readRecipeRequest (.window n) s) = _
    simp only [readRecipeRequest, windowOf]
    rw [dif_neg (by omega)]
    rfl
  · exact ⟨rfl, s.length_wantsView⟩
  · exact ⟨rfl, s.length_countersView⟩
  · exact ⟨rfl, s.length_settingsView⟩
  · rw [← s.identity_eq]; rfl

end Sys2Proof.Machine
end

section
/-! SUPPORT. The laws of the arbiter channel by channel, and the ranges with them: what a change of one channel, an
evaluation of demand and a grant keep (O56, O57). -/

namespace Sys2Proof.Machine

set_option Elab.async false

/-! ### One channel -/

/-- Neither a stop nor a count of slices waits at a channel (R62). -/
def Zone.Settled (c : Zone) : Prop := c.pendingEnd = .none ∧ c.blockCount = 0

/-- The laws of one channel by its state, where `own` says that the slice in flight is the channel's and `demand` is the
tracker's flag for its zone (R46, R48, R49, R54, R62). -/
def Zone.Coherent (own demand : Bool) (c : Zone) : Prop :=
  c.request = demand ∧
  match c.state with
  | .delivering => own = true
  | .idle => own = false ∧ c.Settled ∧ c.claims = false
  | .waiting => own = false ∧ c.Settled ∧ c.claims = true
  | .spent => own = false ∧ c.Settled
  | .off | .halted => own = false ∧ c.Settled ∧ c.paused = false ∧ c.forced = false

/-- A channel's settings, budget and block count lie in their ranges (Tables 3-1 and 3-2). -/
def Zone.InRange (c : Zone) : Prop :=
  c.settings.inRange = true ∧ c.remaining ≤ c.settings.budget ∧ c.blockCount ≤ 16

theorem Zone.coherent_iff (own demand : Bool) (c : Zone) : c.Coherent own demand ↔
    (c.state = .delivering ↔ own = true) ∧
    ((c.state = .idle → c.claims = false) ∧ (c.state = .waiting → c.claims = true)) ∧ c.request = demand ∧
    ((c.state ≠ .delivering → c.pendingEnd = .none) ∧ (c.state ≠ .delivering → c.blockCount = 0) ∧
      (c.state = .off ∨ c.state = .halted → c.paused = false ∧ c.forced = false)) := by
  cases state : c.state <;> simp [Zone.Coherent, Zone.Settled, state] <;> tauto

section
variable {own demand : Bool} {c : Zone}

/-- A channel that does not deliver is WAITING or IDLE by its claims (R48). -/
theorem Zone.Coherent.ofClaims (state : c.state = if c.claims then .waiting else .idle) (settled : c.Settled) :
    c.Coherent false c.request := by
  cases claims : c.claims <;> simp [Zone.Coherent, state, claims, settled]

theorem Zone.Coherent.turnOff (code : StopCode) (c : Zone) : (c.turnOff code).Coherent false c.request :=
  ⟨rfl, rfl, ⟨rfl, rfl⟩, rfl, rfl⟩

theorem Zone.Coherent.halted (c : Zone) : c.halted.Coherent false c.request := ⟨rfl, rfl, ⟨rfl, rfl⟩, rfl, rfl⟩

theorem Zone.Coherent.restarted (c : Zone) : c.restarted.Coherent false false := ⟨rfl, rfl, ⟨rfl, rfl⟩, rfl, rfl⟩

theorem Zone.Coherent.endGrant (noEnd : c.pendingEnd = .none) : c.endGrant.Coherent false c.request :=
  .ofClaims (c := c.endGrant) rfl ⟨noEnd, rfl⟩

theorem Zone.Coherent.spend (noEnd : c.pendingEnd = .none) : c.spend.Coherent false c.request := by
  unfold Zone.spend
  split
  · exact ⟨rfl, rfl, noEnd, rfl⟩
  · exact .turnOff _ c

/-- A channel that is not DELIVERING is no slice's, and settled. -/
theorem Zone.Coherent.rest (h : c.Coherent own demand) (other : c.state ≠ .delivering) :
    own = false ∧ c.Settled := by
  cases state : c.state <;> simp_all [Zone.Coherent]

theorem Zone.Coherent.enabled (h : c.Coherent own demand) (other : c.state ≠ .delivering) :
    c.enabled.Coherent own demand := by
  obtain ⟨rfl, -⟩ := h.rest other
  rw [← h.1]
  exact .ofClaims (c := c.enabled) (by simp [Zone.enabled, Zone.claims]) ⟨rfl, rfl⟩

theorem Zone.Coherent.dropDose (h : c.Coherent own demand) (other : c.state ≠ .delivering) :
    c.dropDose.Coherent own demand := by
  obtain ⟨rfl, settled⟩ := h.rest other
  rw [← h.1]
  exact .ofClaims (c := c.dropDose) (by simp [Zone.dropDose, Zone.claims]) settled

theorem Zone.Coherent.arrive (h : c.Coherent own demand) : c.arrive.Coherent own true := by
  cases state : c.state <;> simp_all [Zone.Coherent, Zone.arrive, Zone.claims, Zone.Settled]

theorem Zone.Coherent.withdraw (h : c.Coherent own demand) : c.withdraw.Coherent own false := by
  cases state : c.state <;> cases forced : c.forced <;>
    simp_all [Zone.Coherent, Zone.withdraw, Zone.claims, Zone.Settled]

theorem Zone.Coherent.reloaded (h : c.Coherent own demand) : c.reloaded.Coherent own demand := by
  cases state : c.state
  case spent =>
    obtain ⟨rfl, settled⟩ := h.rest (by simp [state])
    rw [← h.1, Zone.reloaded, state]
    exact .ofClaims (c := { c with
      remaining := c.settings.budget
      state := if c.claims then .waiting else .idle
      stopCode := if c.paused then .paused else .none }) rfl settled
  all_goals
    rw [Zone.reloaded, state]
    simpa [Zone.Coherent, Zone.Settled, Zone.claims, state] using h

theorem Zone.Coherent.configure (settings : ZoneSettings) (h : c.Coherent own demand) :
    (c.configure settings).Coherent own demand := h

theorem Zone.Coherent.dosed (h : c.Coherent own demand) (running : c.state ≠ .off ∧ c.state ≠ .halted) :
    c.dosed.Coherent own demand := by
  obtain ⟨rfl, h⟩ := h
  cases state : c.state <;> simp_all [Zone.Coherent, Zone.dosed, Zone.claims, Zone.Settled]

/-- A pause is no part of the laws but at a channel that is OFF or HALTED (R55). -/
theorem Zone.Coherent.repause (h : c.Coherent own demand) (paused : Bool) (code : StopCode)
    (stopped : c.state = .off ∨ c.state = .halted → paused = false) :
    ({ c with paused := paused, stopCode := code } : Zone).Coherent own demand := by
  obtain ⟨rfl, h⟩ := h
  cases state : c.state <;> simp_all [Zone.Coherent, Zone.claims, Zone.Settled]

theorem Zone.Coherent.pausing (h : c.Coherent own demand) (running : ¬ (c.state = .off ∨ c.state = .halted)) :
    c.pausing.Coherent own demand :=
  h.repause true .paused fun stopped => absurd stopped running

theorem Zone.Coherent.continuing (h : c.Coherent own demand) : c.continuing.Coherent own demand := by
  unfold Zone.continuing
  split
  · exact h.repause false _ fun _ => rfl
  · exact h

/-- A stop may wait at a DELIVERING channel (R54, R68). -/
theorem Zone.Coherent.awaitEnd (h : c.Coherent own demand) (delivering : c.state = .delivering) (pending : PendingEnd) :
    ({ c with pendingEnd := pending } : Zone).Coherent own demand := by
  simpa [Zone.Coherent, delivering] using h

theorem Zone.Coherent.disable (h : c.Coherent own demand) : c.disable.Coherent own demand := by
  unfold Zone.disable
  split
  · exact h
  · rename_i state
    exact h.awaitEnd state _
  all_goals
    rename_i state
    obtain ⟨rfl, -⟩ := h.rest (by simp [state])
    exact h.1 ▸ .turnOff _ c

end

/-! ### Ranges of one channel -/

section
variable {c : Zone}

theorem Zone.InRange.spend (h : c.InRange) : c.spend.InRange := by
  unfold Zone.spend
  split <;> exact ⟨h.1, h.2.1, Nat.zero_le _⟩

theorem Zone.InRange.disable (h : c.InRange) : c.disable.InRange := by
  unfold Zone.disable
  split
  iterate 2 exact h
  all_goals exact ⟨h.1, h.2.1, Nat.zero_le _⟩

theorem Zone.InRange.reloaded (h : c.InRange) : c.reloaded.InRange := by
  unfold Zone.reloaded
  split
  iterate 2 exact h
  all_goals exact ⟨h.1, le_refl _, h.2.2⟩

theorem Zone.InRange.continuing (h : c.InRange) : c.continuing.InRange := by
  unfold Zone.continuing
  split <;> exact h

theorem Zone.InRange.countSlice (e : Nat) (h : c.InRange) : (c.countSlice e).InRange :=
  ⟨h.1, (Nat.sub_le _ _).trans h.2.1, h.2.2⟩

theorem Zone.InRange.configure {settings : ZoneSettings} (range : settings.inRange = true) (h : c.InRange) :
    (c.configure settings).InRange :=
  ⟨range, Nat.min_le_right _ _, h.2.2⟩

end
end Sys2Proof.Machine
end

section
/-! SUPPORT. The laws of the arbiter and the ranges on the state: what the parts of a command keep of them (O56, O57). -/

namespace Sys2Proof.Machine

set_option Elab.async false

/-! ### The laws on the state -/

/-- The slice in flight is a zone's own (R49). -/
def State.owns (s : State) (z : Fin 6) : Bool := s.arbiter.slice.map SliceRecord.zone == some z

/-- The laws of the arbiter but for the grant that may be due: every channel's own, and the slice timer's (R49). -/
structure State.Coherent (s : State) : Prop where
  channel : ∀ z : Fin 6, s.arbiter.zones[z].Coherent (s.owns z) s.tracker.demand[z]
  timer   : s.arbiter.sliceTimer.isSome = s.arbiter.slice.isSome

theorem converterLaws_iff (s : State) : ConverterLaws s ↔ s.Coherent ∧ NoGrantDue s := by
  have channels : (∀ z : Fin 6, s.arbiter.zones[z].Coherent (s.owns z) s.tracker.demand[z]) ↔
      (∀ z : Fin 6, s.arbiter.zones[z].state = .delivering ↔ s.arbiter.slice.map SliceRecord.zone = some z) ∧
      ClaimsDecideWaiting s ∧ RequestsKnown s ∧ StopsSettled s := by
    simp only [Zone.coherent_iff, State.owns, beq_iff_eq, forall_and]
  constructor
  · rintro ⟨⟨own, timer⟩, due, rest⟩
    exact ⟨⟨channels.2 ⟨own, rest⟩, timer⟩, due⟩
  · rintro ⟨⟨channel, timer⟩, due⟩
    obtain ⟨own, rest⟩ := channels.1 channel
    exact ⟨⟨own, timer⟩, due, rest⟩

/-- A part of a command keeps the channels' laws and the ranges, whether or not it leaves a grant due. -/
structure Coheres (s t : State) : Prop where
  coherent : s.Coherent → t.Coherent
  ranges   : RangeLaws s → RangeLaws t

/-- A part of a command keeps the laws of the arbiter and the ranges. -/
structure Keeps (s t : State) : Prop where
  laws   : ConverterLaws s → ConverterLaws t
  ranges : RangeLaws s → RangeLaws t

/-- A part of a command leaves alone all that the laws of the arbiter and the ranges read; the batch counter it may move
within its range. -/
structure Undisturbed (s t : State) : Prop where
  arbiter    : t.arbiter = s.arbiter
  demand     : t.tracker.demand = s.tracker.demand
  settings   : t.settings = s.settings
  selections : ∀ k : Fin 4, t.counters[k].selection = s.counters[k].selection
  batch      : BatchInRange s → BatchInRange t

section
variable {s t u : State}

theorem Coheres.refl (s : State) : Coheres s s := ⟨id, id⟩

theorem Coheres.trans (h : Coheres s t) (k : Coheres t u) : Coheres s u :=
  ⟨k.coherent ∘ h.coherent, k.ranges ∘ h.ranges⟩

theorem Keeps.refl (s : State) : Keeps s s := ⟨id, id⟩

theorem Keeps.trans (h : Keeps s t) (k : Keeps t u) : Keeps s u := ⟨k.laws ∘ h.laws, k.ranges ∘ h.ranges⟩

theorem Undisturbed.refl (s : State) : Undisturbed s s := ⟨rfl, rfl, rfl, fun _ => rfl, id⟩

theorem Undisturbed.trans (h : Undisturbed s t) (k : Undisturbed t u) : Undisturbed s u :=
  ⟨k.arbiter.trans h.arbiter, k.demand.trans h.demand, k.settings.trans h.settings,
    fun i => (k.selections i).trans (h.selections i), k.batch ∘ h.batch⟩

theorem Undisturbed.ranges (h : Undisturbed s t) (laws : RangeLaws s) : RangeLaws t := by
  obtain ⟨zones, settings, batch, selections⟩ := laws
  refine ⟨?_, ?_, h.batch batch, fun k => (h.selections k).symm ▸ selections k⟩
  · simpa only [ZonesInRange, h.arbiter] using zones
  · simpa only [SettingsInRange, h.settings] using settings

theorem Undisturbed.coheres (h : Undisturbed s t) : Coheres s t := by
  refine ⟨fun ⟨channel, timer⟩ => ⟨?_, ?_⟩, h.ranges⟩
  · simpa only [State.owns, h.arbiter, h.demand] using channel
  · simpa only [h.arbiter] using timer

theorem Undisturbed.keeps (h : Undisturbed s t) : Keeps s t := by
  refine ⟨fun laws => ?_, h.ranges⟩
  obtain ⟨coherent, due⟩ := (converterLaws_iff s).1 laws
  exact (converterLaws_iff t).2 ⟨h.coheres.coherent coherent, by simpa only [NoGrantDue, h.arbiter] using due⟩

theorem Keeps.after (k : Keeps t u) (h : Undisturbed s t) : Keeps s u := h.keeps.trans k

theorem Keeps.then (k : Keeps s t) (h : Undisturbed t u) : Keeps s u := k.trans h.keeps

/-- A grant that follows makes good what a part of a command left due (R56). -/
theorem Coheres.toKeeps (h : Coheres s t) (due : NoGrantDue s → NoGrantDue t) : Keeps s t :=
  ⟨fun laws => (converterLaws_iff t).2 (((converterLaws_iff s).1 laws).imp h.coherent due), h.ranges⟩

end

/-! ### One channel changed -/

section
variable {s : State} {z : Fin 6} {f : Zone → Zone}

theorem State.Coherent.updateZone (h : s.Coherent)
    (channel : (f s.arbiter.zones[z]).Coherent (s.owns z) s.tracker.demand[z]) : (s.updateZone z f).Coherent := by
  refine ⟨fun y => ?_, h.timer⟩
  rw [State.updateZone_zones]
  split
  · rename_i same; subst same; exact channel
  · exact h.channel y

theorem RangeLaws.updateZone (h : RangeLaws s) (channel : (f s.arbiter.zones[z]).InRange) :
    RangeLaws (s.updateZone z f) := by
  refine ⟨fun y => ?_, h.2⟩
  rw [State.updateZone_zones]
  split
  · exact channel
  · exact h.1 y

/-- A channel's change that keeps its laws, whatever slice is in flight, and its ranges. -/
theorem Coheres.updateZone
    (channel : ∀ own demand, s.arbiter.zones[z].Coherent own demand → (f s.arbiter.zones[z]).Coherent own demand)
    (range : s.arbiter.zones[z].InRange → (f s.arbiter.zones[z]).InRange) : Coheres s (s.updateZone z f) :=
  ⟨fun h => h.updateZone (channel _ _ (h.channel z)), fun h => h.updateZone (range (h.1 z))⟩

/-- A change of one channel that makes no zone eligible leaves no grant due. -/
theorem noGrantDue_updateZone (eligible : (f s.arbiter.zones[z]).eligible = true → s.arbiter.zones[z].eligible = true)
    (due : NoGrantDue s) : NoGrantDue (s.updateZone z f) := by
  intro may y
  rw [State.updateZone_zones]
  split
  · exact Bool.eq_false_iff.2 fun fit => Bool.eq_false_iff.1 (due may z) (eligible fit)
  · exact due may y

/-- With the converter off no grant is due (R56). -/
theorem noGrantDue_of_off (off : s.arbiter.enable = false) : NoGrantDue s :=
  fun may => by simp [Arbiter.mayGrant, off] at may

/-- An evaluation of a zone's demand keeps every channel's laws: its request follows its demand (R36, R48). -/
theorem State.evaluateZone_coheres (s : State) (z : Fin 6) : Coheres s (s.evaluateZone z) := by
  rcases s.evaluateZone_cases z with ⟨-, same⟩ | ⟨-, changed⟩
  · rw [same]; exact .refl s
  rw [changed]
  refine ⟨fun h => ⟨fun y => ?_, h.timer⟩, fun h => h.updateZone (by split <;> exact h.1 z)⟩
  rw [State.updateZone_zones]
  by_cases same : z = y
  · subst same
    have channel := h.channel z
    rw [if_pos rfl]
    simp only [State.updateZone_frame, State.setDemand_tracker, Fin.getElem_fin, Vector.getElem_set_self]
    split
    · rename_i d; rw [d]; exact channel.arrive
    · rename_i d; rw [Bool.eq_false_iff.2 d]; exact channel.withdraw
  · have ne : z.val ≠ y.val := fun e => same (Fin.ext e)
    rw [if_neg same]
    show Zone.Coherent (s.owns y) _ _
    simpa [Vector.getElem_set, ne] using h.channel y

theorem State.evaluateAll_coheres (s : State) : Coheres s s.evaluateAll :=
  State.evaluateAll_induction s (.refl s) fun t z h => h.trans (t.evaluateZone_coheres z)

end

/-! ### Slices ordered and ended -/

/-- The converter is free, and all but one channel's laws hold: that zone's next state is still to be decided (R62). -/
structure State.Deciding (s : State) (z : Fin 6) : Prop where
  slice   : s.arbiter.slice = none
  timer   : s.arbiter.sliceTimer = none
  request : s.arbiter.zones[z].request = s.tracker.demand[z]
  others  : ∀ y : Fin 6, z ≠ y → s.arbiter.zones[y].Coherent false s.tracker.demand[y]

section
variable {s : State} {z : Fin 6}

theorem State.owns_of_free (free : s.arbiter.slice = none) (z : Fin 6) : s.owns z = false := by
  simp [State.owns, free]

theorem State.Coherent.deciding (h : s.Coherent) (free : s.arbiter.slice = none) (z : Fin 6) : s.Deciding z := by
  refine ⟨free, ?_, (h.channel z).1, fun y _ => State.owns_of_free free y ▸ h.channel y⟩
  have timer := h.timer
  rwa [free, Option.isSome_none, Option.isSome_eq_false_iff, Option.isNone_iff_eq_none] at timer

theorem State.Deciding.updateZone (h : s.Deciding z) {f : Zone → Zone}
    (request : (f s.arbiter.zones[z]).request = s.arbiter.zones[z].request) : (s.updateZone z f).Deciding z := by
  refine ⟨h.slice, h.timer, ?_, fun y ne => ?_⟩
  · rw [State.updateZone_zones, if_pos rfl, request]; exact h.request
  · rw [State.updateZone_zones, if_neg ne]; exact h.others y ne

/-- The zone's next state decided, the converter is left free. -/
theorem State.Deciding.decided (h : s.Deciding z) {f : Zone → Zone}
    (channel : (f s.arbiter.zones[z]).Coherent false s.arbiter.zones[z].request) : (s.updateZone z f).Coherent := by
  refine ⟨fun y => ?_, by simp [h.slice, h.timer]⟩
  rw [State.owns_of_free (by exact h.slice), State.updateZone_zones]
  split
  · rename_i same; subst same; rw [h.request] at channel; exact channel
  · rename_i ne; exact h.others y ne

/-- A slice order makes the slice in flight its zone's own (R58). -/
theorem State.Deciding.ordered (h : s.Deciding z) (forced : Bool) (n : Nat) : (s.orderSlice z forced n).Coherent := by
  refine ⟨fun y => ?_, rfl⟩
  rw [State.orderSlice_zones]
  split
  · rename_i same; subst same
    exact ⟨h.request, by simp [State.owns]⟩
  · rename_i ne
    have own : (s.orderSlice z forced n).owns y = false := by simp [State.owns, ne]
    rw [own]
    exact h.others y ne

theorem RangeLaws.orderSlice (h : RangeLaws s) (forced : Bool) {n : Nat} (range : n ≤ 16) :
    RangeLaws (s.orderSlice z forced n) := by
  refine ⟨fun y => ?_, h.2⟩
  rw [State.orderSlice_zones]
  split
  · exact ⟨(h.1 z).1, (h.1 z).2.1, range⟩
  · exact h.1 y

theorem State.orderSlice_noGrantDue (s : State) (z : Fin 6) (forced : Bool) (n : Nat) :
    NoGrantDue (s.orderSlice z forced n) :=
  fun may => by simp [Arbiter.mayGrant] at may

theorem Zone.state_of_eligible {c : Zone} (h : c.eligible = true) : c.state = .waiting ∧ c.paused = false := by
  simpa [Zone.eligible] using h

/-- A grant on a free converter: doses dropped, and at most one slice ordered (R56, R58). -/
theorem State.grantAmong_coheres (s : State) (zones : List (Fin 6)) (free : s.arbiter.slice = none) :
    Coheres s (s.grantAmong zones) := by
  induction zones generalizing s with
  | nil => exact .refl s
  | cons z rest ih =>
    have order : ∀ t : State, t.arbiter.slice = none → ∀ forced,
        Coheres t (t.orderSlice z forced 1) := fun t free forced =>
      ⟨fun h => (h.deciding free z).ordered forced 1, fun h => h.orderSlice forced (by decide)⟩
    unfold State.grantAmong
    split
    · rename_i eligible
      split
      · split
        · have drop : Coheres s (s.updateZone z Zone.dropDose) :=
            .updateZone (fun _ _ h => h.dropDose (by rw [(Zone.state_of_eligible eligible).1]; decide)) id
          dsimp only
          split
          · exact drop.trans (order _ (by exact free) false)
          · exact drop.trans (ih _ (by exact free))
        · exact ⟨fun h => ((h.deciding free z).updateZone (f := fun c => { c with forced := false }) rfl).ordered true 1,
            fun h => (h.updateZone (f := fun c => { c with forced := false }) (h.1 z)).orderSlice true (by decide)⟩
      · exact order s free false
    · exact ih s free

theorem State.grant_coheres (s : State) : Coheres s s.grant := by
  unfold State.grant
  split
  · rename_i may
    simp only [Arbiter.mayGrant, Bool.and_eq_true, Option.isNone_iff_eq_none] at may
    exact s.grantAmong_coheres _ may.1.1
  · exact .refl s

/-- A grant makes good whatever a part of a command has left due (R56). -/
theorem Coheres.grant {s t : State} (h : Coheres s t) : Keeps s t.grant :=
  (h.trans t.grant_coheres).toKeeps fun _ => t.grant_noGrantDue

end
end Sys2Proof.Machine
end

section
/-! SUPPORT. The shared operations that leave the arbiter, the demand flags and the ranges alone (O56, O57). -/

namespace Sys2Proof.Machine

set_option Elab.async false

section
variable {s t u : State}

/-- Nothing is disturbed where all that is read stands as it was. -/
theorem Undisturbed.same
    (fields : (t.arbiter, t.tracker.demand, t.settings, t.counters, t.ring.batch) =
      (s.arbiter, s.tracker.demand, s.settings, s.counters, s.ring.batch) := by rfl) : Undisturbed s t := by
  simp only [Prod.mk.injEq] at fields
  obtain ⟨arbiter, demand, settings, counters, batch⟩ := fields
  exact ⟨arbiter, demand, settings, fun k => by rw [counters], fun h => by rwa [BatchInRange, batch]⟩

/-- What is left undisturbed from a state in which all that is read stands as it was. -/
theorem Undisturbed.after (rest : Undisturbed t u)
    (fields : (t.arbiter, t.tracker.demand, t.settings, t.counters, t.ring.batch) =
      (s.arbiter, s.tracker.demand, s.settings, s.counters, s.ring.batch) := by rfl) : Undisturbed s u :=
  (Undisturbed.same fields).trans rest

/-- Counting an event moves no selection (R185). -/
theorem Undisturbed.count (h : Undisturbed s t) (e : CountedEvent) : Undisturbed s (t.count e) :=
  h.trans ⟨rfl, rfl, rfl, fun k => t.count_selection e k k.isLt, id⟩

theorem Undisturbed.raise (h : Undisturbed s t) (x : Source) : Undisturbed s (t.raise x) := h.trans .same

theorem Undisturbed.raiseIf (h : Undisturbed s t) (b : Bool) (x : Source) : Undisturbed s (t.raiseIf b x) := by
  unfold State.raiseIf
  split
  · exact h.raise x
  · exact h

/-- What each element of a fold leaves undisturbed, the fold does. -/
theorem Undisturbed.foldl {α : Type} (f : State → α → State) (one : ∀ t a, Undisturbed t (f t a)) (l : List α)
    (s : State) : Undisturbed s (l.foldl f s) :=
  List.foldlRecOn (motive := Undisturbed s) l f (.refl s) fun t h a _ => h.trans (one t a)

end

variable (s : State)

/-! ### Orders -/

theorem State.batch_undisturbed (order : BilletOrder) : Undisturbed s (s.batch order) := by
  refine ⟨by simp, by simp, by simp, by simp, fun range => ?_⟩
  have top : addSaturating top16 s.ring.batch 1 ≤ top16 := Nat.min_le_right _ _
  unfold State.batch State.raiseOrderDone
  dsimp only
  split <;> split <;> split <;> first | exact Nat.zero_le _ | exact top | exact range

theorem State.afterRetirement_undisturbed (order : BilletOrder) (v : OrderVerdict) :
    Undisturbed s (s.afterRetirement order v) := by
  have counted : Undisturbed s (s.countRetirement v) := by
    unfold State.countRetirement
    split
    · exact (Undisturbed.refl s).count _
    · exact .refl s
  unfold State.afterRetirement
  dsimp only
  split
  · exact counted
  · exact counted.trans (State.batch_undisturbed _ order)

theorem State.retire_undisturbed (slot : Fin 64) (status : StatusRecord) : Undisturbed s (s.retire slot status) := by
  unfold State.retire
  split
  iterate 3 exact (State.afterRetirement_undisturbed _ _ _).after
  all_goals exact .refl s

theorem State.skipHeads_undisturbed (n : Nat) : Undisturbed s (s.skipHeads n) := by
  induction n generalizing s with
  | zero => exact .refl s
  | succ n ih =>
    unfold State.skipHeads
    split
    · split
      · exact (s.retire_undisturbed _ _).trans (ih _).after
      · exact .refl s
    all_goals exact .refl s

theorem State.loadDecision_undisturbed : Undisturbed s s.loadDecision.1 := by
  have skipped := s.skipHeads_undisturbed s.ring.queued
  unfold State.loadDecision
  split
  · exact .refl s
  dsimp only
  split
  · exact (skipped.trans .same).raiseIf _ _
  · exact skipped.raiseIf _ _

theorem State.removeExit_undisturbed (v : BilletRecord → OrderVerdict) : Undisturbed s (s.removeExit v) := by
  unfold State.removeExit
  split
  · exact ((s.dropExit.retire_undisturbed _ _).trans .same).after
  · exact .same

theorem State.withdrawNewest_undisturbed (n : Nat) : Undisturbed s (s.withdrawNewest n).1 := by
  induction n generalizing s with
  | zero => exact .refl s
  | succ n ih =>
    unfold State.withdrawNewest
    dsimp only
    split
    · exact (ih _).after
    all_goals exact .refl s

theorem State.reclaimOldest_undisturbed (n : Nat) : Undisturbed s (s.reclaimOldest n).1 := by
  induction n generalizing s with
  | zero => exact .refl s
  | succ n ih =>
    unfold State.reclaimOldest
    split
    · exact .refl s
    · split
      · exact (ih _).after
      all_goals exact .refl s

/-! ### Recipes -/

theorem State.handOver_undisturbed (x : WritebackRecord) : Undisturbed s (s.handOver x) :=
  ((Undisturbed.refl _).count .writebackRecord).after

theorem State.giveUp_undisturbed (i : Fin 32) (cause : Cause) : Undisturbed s (s.giveUp i cause) := by
  unfold State.giveUp
  split
  · split
    · exact (s.handOver_undisturbed _).trans .same
    · exact .same
  · exact .refl s

theorem State.handOnTrim_undisturbed (i : Fin 32) (e : Entry) : Undisturbed s (s.handOnTrim i e) := by
  unfold State.handOnTrim
  split
  · exact .same
  · split
    · exact (State.handOver_undisturbed _ _).after
    · exact .same

theorem State.lookup_undisturbed {k : Key} {found : Lookup} (h : s.lookup k = some found) :
    Undisturbed s found.after := by
  unfold State.lookup at h
  split at h
  · cases h; exact .same
  split at h
  · cases h; exact .same
  split at h
  · cases h; exact .same
  split at h
  · cases h
  split at h
  · cases h; exact (s.giveUp_undisturbed _ _).trans ((Undisturbed.refl _).count .missAllocation).after
  · cases h

theorem sweepEntry_undisturbed (x : State × Nat × Nat) (i : Fin 32) : Undisturbed x.1 (sweepEntry x i).1 := by
  unfold sweepEntry
  dsimp only
  split
  · exact .refl _
  split
  · exact .refl _
  split
  · exact .refl _
  · exact State.giveUp_undisturbed _ _ _

theorem State.sweep_undisturbed : Undisturbed s s.sweep.1 :=
  List.foldlRecOn (motive := fun x : State × Nat × Nat => Undisturbed s x.1) (List.finRange 32) sweepEntry
    (.refl s) fun x h i _ => h.trans (sweepEntry_undisturbed x i)

/-! ### The line and the train -/

theorem State.updateExit_undisturbed (f : BilletRecord → BilletRecord) : Undisturbed s (s.updateExit f) := by
  unfold State.updateExit
  split
  · split <;> exact .same
  · exact .refl s

theorem State.reportExit_undisturbed : Undisturbed s s.reportExit := .same

theorem State.reportReadiness_undisturbed : Undisturbed s s.reportReadiness := .same

theorem State.settle_undisturbed : Undisturbed s s.settle := .same

theorem State.recheckExit_undisturbed : Undisturbed s s.recheckExit :=
  (s.updateExit_undisturbed _).trans (State.reportExit_undisturbed _)

theorem State.decline_undisturbed : Undisturbed s s.decline :=
  ((Undisturbed.refl _).count .callDeclined).after

theorem State.declinePending_undisturbed : Undisturbed s s.declinePending := by
  unfold State.declinePending
  split
  · exact (State.decline_undisturbed _).after
  · exact .refl s

theorem State.startPush_undisturbed : Undisturbed s s.startPush := s.loadDecision_undisturbed.trans .same

theorem State.startExtract_undisturbed : Undisturbed s s.startExtract :=
  ((State.updateExit_undisturbed { s with cadence.pendingCall := false } _).trans .same).after

theorem State.choose_undisturbed : Undisturbed s s.choose := by
  rcases s.choose_cases with h | ⟨-, -, ⟨v, -, -, h⟩ | ⟨-, -, h⟩ | ⟨-, -, -, h⟩ | ⟨-, -, -, h⟩⟩
  · rw [h]; exact .refl s
  all_goals rw [h]
  · exact .same
  · exact s.startExtract_undisturbed
  · exact s.startPush_undisturbed
  · unfold State.startColdWait
    split
    · exact (State.startPush_undisturbed _).after
    · exact .same

theorem State.chooseIfReported_undisturbed (before : State) : Undisturbed s (s.chooseIfReported before) := by
  unfold State.chooseIfReported
  split
  · exact .refl s
  · exact s.choose_undisturbed

theorem State.columnPushed_undisturbed (loaded : Option (Fin 64)) : Undisturbed s (s.columnPushed loaded) := by
  have bound : ∀ (t : State) (slot : Fin 64), Undisturbed t (t.bindOrder slot) := by
    intro t slot
    unfold State.bindOrder
    split
    · dsimp only
      split <;> exact .same
    · exact .refl t
  have surveyed : ∀ (t : State) (b : Bool), Undisturbed t (t.startSurvey b) := by
    intro t b
    unfold State.startSurvey
    split
    · exact .same
    · exact .refl t
  cases loaded with
  | none => exact (surveyed s.advanceTrain _).after
  | some slot => exact ((bound s.advanceTrain slot).trans (surveyed _ _)).after

theorem State.timedOut_undisturbed (o : Operation) : Undisturbed s (s.timedOut o) := by
  cases o with
  | push loaded => exact (s.columnPushed_undisturbed loaded).trans .same
  | extract => exact (s.updateExit_undisturbed _).trans (State.decline_undisturbed _)
  | divert => exact .refl s

/-! ### A restart's retirements -/

theorem State.loseRecords_undisturbed : Undisturbed s s.loseRecords :=
  .foldl (fun (x : State) (r : BilletRecord) => x.retire r.slot (recordStatus .restartLost s.tracker.clock r))
    (fun t r => t.retire_undisturbed r.slot _) s.tracker.train s

theorem State.loseLoading_undisturbed : Undisturbed s s.loseLoading := by
  refine .foldl State.loseLoadingAt (fun t i => ?_) _ s
  unfold State.loseLoadingAt
  split
  · exact t.retire_undisturbed i _
  all_goals exact .refl t

theorem State.restartRecipes_undisturbed : Undisturbed s s.restartRecipes := by
  have dropped : Undisturbed s ((List.finRange 32).foldl State.dropPendingAt s) := by
    refine .foldl State.dropPendingAt (fun t i => ?_) _ s
    unfold State.dropPendingAt
    split
    · split <;> exact .same
    · exact .refl t
  unfold State.restartRecipes
  dsimp only
  generalize (List.finRange 32).foldl State.dropPendingAt s = t at *
  exact dropped.trans .same

end Sys2Proof.Machine
end

section
/-! SUPPORT. The end of a slice: the credit, and the decision on the zone's next state (O38, O39, O56, O57). -/

namespace Sys2Proof.Machine

set_option Elab.async false

/-! ### The credit of a slice -/

theorem Tracker.recordAt_isSome {t : Tracker} {r : BilletRecord} (mem : r ∈ t.train) :
    (t.recordAt r.position).isSome = true := by
  rw [Tracker.recordAt, List.find?_isSome]
  exact ⟨r, mem, by simp⟩

/-- The share a record of the train takes is the table's (R13). -/
theorem State.credited_eq (s : State) (z : Fin 6) (e : Nat) {r : BilletRecord} (mem : r ∈ s.tracker.train) :
    s.credited z e r = match shareOf s z e r with
      | some share => heated s share r
      | none => r := by
  have occupied := Tracker.recordAt_isSome mem
  simp only [State.credited, shareOf, downstream, upstream, State.shares, State.heatStep_eq_heated]
  by_cases down : r.position = 2 * z.val + 1
  · rw [down] at occupied
    cases (s.tracker.recordAt (2 * z.val)).isSome <;> simp [down, occupied, splitShares]
  · by_cases up : r.position = 2 * z.val
    · rw [up] at occupied
      cases (s.tracker.recordAt (2 * z.val + 1)).isSome <;> simp [up, occupied, splitShares]
    · simp [down, up]

/-- The credit of a slice heats the train as the table of R13 says. -/
theorem State.creditZone_train (s : State) (z : Fin 6) (e : Nat) :
    (s.creditZone z e).tracker.train = creditedTrain s z e :=
  List.map_congr_left fun _ mem => s.credited_eq z e mem

theorem State.shares_uncredited (s : State) (z : Fin 6) (e : Nat) :
    (s.shares z e).2.2 = uncreditedPart s z e := by
  unfold State.shares uncreditedPart downstream upstream
  cases (s.tracker.recordAt (2 * z.val)).isSome <;> cases (s.tracker.recordAt (2 * z.val + 1)).isSome <;>
    simp [splitShares]

/-- The end of a slice up to the decision is its credit, and the readiness that zone 6 reports (R61, R39). -/
theorem State.closeSlice_eq (s : State) (x : SliceRecord) (e : Nat) :
    s.closeSlice x e =
      if x.zone = 5 then (creditLeft s x e).reportReadiness else creditLeft s x e := by
  let s1 := s.updateZone x.zone (Zone.countSlice e)
  let credit : State := { s with tracker := { s.tracker with train := creditedTrain s x.zone e } }
  have train : (s1.creditZone x.zone e).tracker.train = creditedTrain s x.zone e :=
    s.creditZone_train x.zone e
  have demand : (s1.creditZone x.zone e).demandNow x.zone = credit.demandNow x.zone :=
    State.demandNow_congr x.zone train rfl rfl rfl (by simp [s1, credit, Zone.countSlice])
  have uncredited : (s1.shares x.zone e).2.2 = uncreditedPart s x.zone e := s.shares_uncredited x.zone e
  have exchange : (((s1.creditZone x.zone e).setDemand x.zone (credit.demandNow x.zone)).updateZone x.zone
      (Zone.takeAnswer (uncreditedPart s x.zone e) (credit.demandNow x.zone))).clearSlice = creditLeft s x e := by
    simp only [State.clearSlice, State.updateZone, State.setDemand, State.creditZone, creditLeft, credit, s1]
    congr 1
    · rw [← s.creditZone_train]; rfl
    · simp [Zone.takeAnswer, Zone.countSlice]
  unfold State.closeSlice State.creditExchange
  dsimp only
  rw [demand, uncredited, ← exchange]
  split <;> rfl

/-! ### The decision on the zone's next state -/

theorem creditLeft_zones (s : State) (x : SliceRecord) (e : Nat) (y : Fin 6) :
    (creditLeft s x e).arbiter.zones[y] =
      if x.zone = y then { s.arbiter.zones[x.zone] with
        remaining := s.arbiter.zones[x.zone].remaining - 1
        slicesCompleted := s.arbiter.zones[x.zone].slicesCompleted + 1
        energyDelivered := s.arbiter.zones[x.zone].energyDelivered + BitVec.ofNat 32 e
        energyUncredited := s.arbiter.zones[x.zone].energyUncredited + BitVec.ofNat 32 (uncreditedPart s x.zone e)
        request := (creditLeft s x e).tracker.demand[x.zone] }
      else s.arbiter.zones[y] := by
  simp only [creditLeft, Fin.getElem_fin, Vector.getElem_set, Fin.ext_iff, if_true]

theorem State.Coherent.creditLeft {s : State} (h : s.Coherent) {x : SliceRecord} (flight : s.arbiter.slice = some x)
    (e : Nat) : (creditLeft s x e).Deciding x.zone := by
  refine ⟨rfl, rfl, ?_, fun y ne => ?_⟩
  · rw [creditLeft_zones, if_pos rfl]
  · have channel := h.channel y
    have own : s.owns y = false := by simp [State.owns, flight, ne]
    have demand : (Machine.creditLeft s x e).tracker.demand[y] = s.tracker.demand[y] := by
      simp only [Machine.creditLeft, Fin.getElem_fin]
      exact Vector.getElem_set_ne _ _ fun same => ne (Fin.ext same)
    rw [creditLeft_zones, if_neg ne, demand, ← own]
    exact channel

theorem State.Coherent.delivering {s : State} (h : s.Coherent) {x : SliceRecord} (flight : s.arbiter.slice = some x) :
    s.arbiter.zones[x.zone].state = .delivering :=
  ((Zone.coherent_iff _ _ _).1 (h.channel x.zone)).1.2 (by simp [State.owns, flight])

theorem RangeLaws.creditLeft {s : State} (h : RangeLaws s) (x : SliceRecord) (e : Nat) :
    RangeLaws (creditLeft s x e) := by
  refine ⟨fun y => ?_, h.2⟩
  rw [creditLeft_zones]
  split
  · exact (show Zone.InRange _ from h.1 x.zone).countSlice e
  · exact h.1 y

/-- The decision after a slice gives its zone a lawful state, and the grant that follows is made (R62). -/
theorem State.Deciding.decideZone {s : State} {z : Fin 6} (h : s.Deciding z) (forced : Bool) :
    ConverterLaws (s.decideZone z forced) := by
  have granted : ∀ t : State, t.Coherent → ConverterLaws t.grant := fun t coherent =>
    (converterLaws_iff _).2 ⟨t.grant_coheres.coherent coherent, t.grant_noGrantDue⟩
  unfold State.decideZone
  dsimp only
  split
  · refine granted _ (Undisturbed.coheres ?_ |>.coherent (h.decided (.halted _)))
    exact ((Undisturbed.refl _).count _).raiseIf _ _
  split
  · exact granted _ (h.decided (.turnOff _ _))
  rename_i halt disable
  have noEnd : s.arbiter.zones[z].pendingEnd = .none := by
    cases pending : s.arbiter.zones[z].pendingEnd <;> simp_all
  split
  · refine granted _ (Undisturbed.coheres ?_ |>.coherent (h.decided (.spend noEnd)))
    exact (Undisturbed.refl _).raiseIf _ _
  split
  · exact granted _ (h.decided (.endGrant noEnd))
  split
  · exact (converterLaws_iff _).2 ⟨h.ordered false _, s.orderSlice_noGrantDue z false _⟩
  · exact granted _ (h.decided (.endGrant noEnd))

theorem State.nextBlockCount_le (s : State) (z : Fin 6) : s.nextBlockCount z ≤ 16 := by
  unfold State.nextBlockCount
  dsimp only
  split
  · omega
  · exact Nat.le_of_lt_succ (Fin.isLt _)

theorem RangeLaws.decideZone {s : State} (h : RangeLaws s) (z : Fin 6) (forced : Bool) :
    RangeLaws (s.decideZone z forced) := by
  have granted : ∀ t : State, RangeLaws t → RangeLaws t.grant := fun t => t.grant_coheres.ranges
  have channel : s.arbiter.zones[z].InRange := h.1 z
  have stopped : ∀ d : Zone, d.settings = s.arbiter.zones[z].settings → d.remaining = s.arbiter.zones[z].remaining →
      d.blockCount = 0 → d.InRange := by
    rintro d settings remaining count
    exact ⟨settings ▸ channel.1, by rw [remaining, settings]; exact channel.2.1, count ▸ Nat.zero_le _⟩
  unfold State.decideZone
  dsimp only
  split
  · refine granted _ (Undisturbed.ranges ?_ (h.updateZone (f := Zone.halted) (stopped _ rfl rfl rfl)))
    exact ((Undisturbed.refl _).count _).raiseIf _ _
  split
  · exact granted _ (h.updateZone (stopped _ rfl rfl rfl))
  split
  · refine granted _ (Undisturbed.ranges ?_ (h.updateZone channel.spend))
    exact (Undisturbed.refl _).raiseIf _ _
  split
  · exact granted _ (h.updateZone (stopped _ rfl rfl rfl))
  split
  · exact h.orderSlice false (s.nextBlockCount_le z)
  · exact granted _ (h.updateZone (stopped _ rfl rfl rfl))

theorem State.closeSlice_undisturbed (s : State) (x : SliceRecord) (e : Nat) :
    Undisturbed (creditLeft s x e) (s.closeSlice x e) := by
  rw [State.closeSlice_eq]
  split
  · exact .same
  · exact .refl _

theorem State.Deciding.undisturbed {s t : State} {z : Fin 6} (h : s.Deciding z) (same : Undisturbed s t) :
    t.Deciding z := by
  obtain ⟨slice, timer, request, others⟩ := h
  exact ⟨by rw [same.arbiter, slice], by rw [same.arbiter, timer], by rw [same.arbiter, same.demand, request],
    fun y ne => by rw [same.arbiter, same.demand]; exact others y ne⟩

/-- The end of a slice and the decision that follows keep the laws (R61, R62). -/
theorem State.sliceEnd_keeps (s : State) {x : SliceRecord} (flight : s.arbiter.slice = some x) (e : Nat)
    (counted : CountedEvent) : Keeps s (((s.closeSlice x e).count counted).decideZone x.zone x.forced) := by
  have closed := (s.closeSlice_undisturbed x e).count counted
  refine ⟨fun laws => ?_, fun ranges => ?_⟩
  · have coherent := ((converterLaws_iff s).1 laws).1
    exact ((coherent.creditLeft flight e).undisturbed closed).decideZone x.forced
  · exact (closed.ranges (ranges.creditLeft x e)).decideZone x.zone x.forced

/-! ### Supply loss -/

/-- The channel of a zone at a supply loss: turned OFF unless it is OFF (R71 step 3). -/
def Zone.lost (c : Zone) : Zone := if c.state = .off then c else c.turnOff .supplyLost

theorem Zone.InRange.lost {c : Zone} (h : c.InRange) : c.lost.InRange := by
  unfold Zone.lost
  split
  · exact h
  · exact ⟨h.1, h.2.1, Nat.zero_le _⟩

theorem RangeLaws.updateZones {s : State} (h : RangeLaws s) {f : Zone → Zone}
    (channel : ∀ c : Zone, c.InRange → (f c).InRange) : RangeLaws (s.updateZones f) := by
  refine ⟨fun y => ?_, h.2⟩
  rw [State.updateZones_zones]
  exact channel _ (h.1 y)

/-- Power off with every zone OFF, its request its demand and the converter free: all the laws. -/
theorem converterLaws_of_lost {s : State} (slice : s.arbiter.slice = none) (timer : s.arbiter.sliceTimer = none)
    (channel : ∀ z : Fin 6, s.arbiter.zones[z].lost.Coherent false s.tracker.demand[z]) :
    ConverterLaws (State.updateZones { s with arbiter.enable := false } Zone.lost) := by
  refine (converterLaws_iff _).2 ⟨⟨fun y => ?_, by simp [slice, timer]⟩, noGrantDue_of_off rfl⟩
  rw [State.owns_of_free (by exact slice), State.updateZones_zones]
  exact channel y

/-- A channel that stays or is turned OFF is lawful without a slice. -/
theorem Zone.Coherent.lost {own demand : Bool} {c : Zone} (h : c.Coherent own demand) :
    c.lost.Coherent false demand := by
  unfold Zone.lost
  split
  · rename_i off
    obtain ⟨rfl, -⟩ := h.rest (by rw [off]; decide)
    exact h
  · exact h.1 ▸ .turnOff _ c

theorem State.loseSupply_keeps (s : State) (energy : SliceRecord → Nat) : Keeps s (s.loseSupply energy) := by
  unfold State.loseSupply
  cases flight : s.arbiter.slice with
  | none =>
    refine Keeps.then (t := State.updateZones { s with arbiter.enable := false } Zone.lost)
      ⟨fun laws => ?_, fun ranges => ?_⟩ ((Undisturbed.refl _).raise _)
    · have coherent := ((converterLaws_iff s).1 laws).1
      exact converterLaws_of_lost flight (coherent.deciding flight 0).timer fun z => (coherent.channel z).lost
    · exact (show RangeLaws { s with arbiter.enable := false } from ranges).updateZones fun _ => .lost
  | some x =>
    let s1 := (s.closeSlice x (energy x)).count .sliceLost
    have closed : Undisturbed (creditLeft s x (energy x)) s1 := (s.closeSlice_undisturbed x (energy x)).count _
    refine Keeps.then (t := State.updateZones { s1 with arbiter.enable := false } Zone.lost)
      ⟨fun laws => ?_, fun ranges => ?_⟩ ((Undisturbed.refl _).raise _)
    · have coherent := ((converterLaws_iff s).1 laws).1
      have deciding := (coherent.creditLeft flight (energy x)).undisturbed closed
      refine converterLaws_of_lost deciding.slice deciding.timer fun z => ?_
      by_cases same : x.zone = z
      · subst same
        have on : s1.arbiter.zones[x.zone].state ≠ .off := by
          rw [closed.arbiter, creditLeft_zones, if_pos rfl, coherent.delivering flight]
          decide
        rw [Zone.lost, if_neg on, ← deciding.request]
        exact .turnOff _ _
      · exact (deciding.others z same).lost
    · exact (show RangeLaws { s1 with arbiter.enable := false } from
        closed.ranges (ranges.creditLeft x (energy x))).updateZones fun _ => .lost

end Sys2Proof.Machine
end

section
/-! SUPPORT. The shared operations that move the arbiter, and the two resets, keep its laws and the ranges (O56, O57). -/

namespace Sys2Proof.Machine

set_option Elab.async false

variable (s : State)

/-! ### Changes of line state -/

/-- A change of line state evaluates every zone's demand and makes the grant due (R10, R43). -/
theorem State.notice_keeps (new : LineState) : Keeps s (s.notice new) := by
  let s1 := s.updateTrain
  let s2 : State := { s1 with
    tracker.line := new
    tracker.readingTimer := if new = LineState.purging then none else s1.tracker.readingTimer }
  have reported : Undisturbed s2.evaluateAll s2.evaluateAll.recheckExit.reportReadiness :=
    (State.recheckExit_undisturbed _).trans (State.reportReadiness_undisturbed _)
  have known : Undisturbed s s2 := .same
  exact ((known.coheres.trans s2.evaluateAll_coheres).trans reported.coheres).grant

theorem State.moveLine_keeps (new : LineState) : Keeps s (s.moveLine new) := by
  let s1 : State := ({ s with cadence.line := new }).notice new
  have noticed : Keeps s s1 := (State.notice_keeps { s with cadence.line := new } new).after .same
  have levelled : ∀ t : State, Undisturbed t t.stopColdWait.settle := fun _ => .same
  unfold State.moveLine
  dsimp only
  split
  · exact noticed.then (((State.declinePending_undisturbed s1).trans (levelled _)).raiseIf new.announced .line)
  · exact noticed.then ((State.settle_undisturbed s1).raiseIf new.announced .line)

theorem State.stopIfDrained_keeps : Keeps s s.stopIfDrained := by
  unfold State.stopIfDrained
  split
  · exact s.moveLine_keeps .stopped
  · exact .refl s

theorem State.changeLine_keeps (new : LineState) : Keeps s (s.changeLine new) := by
  unfold State.changeLine
  dsimp only
  split
  · exact ((s.moveLine_keeps new).trans (State.stopIfDrained_keeps _)).then (State.choose_undisturbed _)
  · exact s.moveLine_keeps new

theorem State.afterCauseAdded_keeps : Keeps s s.afterCauseAdded := by
  unfold State.afterCauseAdded
  split
  · exact s.changeLine_keeps .hold
  · exact .refl s

theorem State.afterCauseRemoved_keeps (held : Bool) : Keeps s (s.afterCauseRemoved held) := by
  unfold State.afterCauseRemoved
  split
  · exact s.changeLine_keeps .run
  · exact .refl s

theorem State.addSupply_keeps : Keeps s s.addSupply := by
  unfold State.addSupply
  split
  · exact .refl s
  · exact (State.afterCauseAdded_keeps _).after .same

theorem State.addPressStop_keeps : Keeps s s.addPressStop := by
  unfold State.addPressStop
  split
  · exact .refl s
  · exact (State.afterCauseAdded_keeps _).after .same

theorem State.pressStopAsserts_keeps : Keeps s s.pressStopAsserts := by
  unfold State.pressStopAsserts
  split
  · exact s.addPressStop_keeps
  · exact Undisturbed.keeps .same

theorem State.afterCompletion_keeps : Keeps s s.afterCompletion :=
  s.stopIfDrained_keeps.then ((State.choose_undisturbed _).trans (State.settle_undisturbed _))

theorem State.supplyLoss_keeps (energy : SliceRecord → Nat) : Keeps s (s.supplyLoss energy) :=
  ((s.loseSupply_keeps energy).trans (State.addSupply_keeps _)).then (State.settle_undisturbed _)

/-! ### Recipes and pushes -/

/-- A trim change evaluates every zone's demand and makes the grant due (R168). -/
theorem State.learn_keeps (i : Fin 32) (residual : Int) (width : Nat) : Keeps s (s.learn i residual width) := by
  unfold State.learn
  split
  · exact .refl s
  dsimp only
  split
  · exact Undisturbed.keeps .same
  · exact ((s.handOnTrim_undisturbed i _).coheres.trans (State.evaluateAll_coheres _)).grant

theorem State.learnFrom_keeps (r : BilletRecord) (residual : Int) (width : Nat) :
    Keeps s (s.learnFrom r residual width) := by
  unfold State.learnFrom
  split
  · split
    · exact .refl s
    · exact s.learn_keeps _ residual width
  · exact .refl s

theorem State.afterLoad_keeps (before : State) : Keeps s (s.afterLoad before) := by
  have advanced : Undisturbed s s.advanceReplacement := .same
  have granted := ((advanced.coheres.trans (State.evaluateAll_coheres _)).trans
    (State.reportReadiness_undisturbed _).coheres).grant
  exact granted.then ((State.chooseIfReported_undisturbed _ before).trans (State.settle_undisturbed _))

theorem Coheres.reload : Coheres s (s.updateZones Zone.reloaded) := by
  refine ⟨fun h => ⟨fun y => ?_, h.timer⟩, fun h => h.updateZones fun _ => .reloaded⟩
  rw [State.updateZones_zones]
  exact (h.channel y).reloaded

/-- A push completion reloads the budgets, evaluates every zone's demand and makes the grant due (R97, R67). -/
theorem State.pushCompleted_keeps (loaded : Option (Fin 64)) : Keeps s (s.pushCompleted loaded) := by
  let s1 := (s.columnPushed loaded).updateZones Zone.reloaded
  have reported : Undisturbed s1.evaluateAll (s1.evaluateAll.reportExit).reportReadiness :=
    (State.reportExit_undisturbed _).trans (State.reportReadiness_undisturbed _)
  have moved : Coheres s s1 := (s.columnPushed_undisturbed loaded).coheres.trans (.reload _)
  have granted := ((moved.trans s1.evaluateAll_coheres).trans reported.coheres).grant
  have timed : ∀ t : State, Undisturbed t
      { t with cadence.minPush := t.timerUnlessZero t.settings.minPushInterval } := fun _ => .same
  have counted := (timed ((s1.evaluateAll.reportExit).reportReadiness).grant).count .pushCompleted
  unfold State.pushCompleted
  dsimp only
  split
  · exact granted.then (counted.count .billetLoaded)
  · exact granted.then counted

theorem State.purgeNext_keeps : Keeps s s.purgeNext := by
  unfold State.purgeNext
  split
  · exact Undisturbed.keeps .same
  · exact (State.changeLine_keeps _ _).after .same

theorem State.handlingTimeout_keeps (o : Operation) : Keeps s (s.handlingTimeout o) := by
  have ended := (s.endOperation.timedOut_undisturbed o).after (s := s)
  let s1 := (s.endOperation.timedOut o).suspectAll
  have changed := State.changeLine_keeps { s1 with cadence.occupancyUnknown := true } .faulted
  exact ((changed.after .same).after ended).then (State.settle_undisturbed _)

/-! ### Resets -/

theorem State.takePressStop_keeps : Keeps s s.takePressStop := by
  unfold State.takePressStop
  split
  · exact s.pressStopAsserts_keeps
  · exact .refl s

/-- A channel after a RESTART of the arbiter (R73). -/
theorem State.restartArbiter_zones (z : Fin 6) :
    s.restartArbiter.arbiter.zones[z] = s.arbiter.zones[z].restarted := by
  unfold State.restartArbiter
  dsimp only
  rw [State.updateZones_zones]
  split <;> rfl

/-- The arbiter, the tracker and the line after a RESTART keep the ranges, and meet the arbiter's laws whatever they
were before (R73, R44). -/
theorem State.restartUnits_keeps : Keeps s s.restartArbiter.restartTracker.restartLine := by
  have arbiter : s.restartArbiter.restartTracker.restartLine.arbiter = s.restartArbiter.arbiter := rfl
  have demand : ∀ z : Fin 6, s.restartArbiter.restartTracker.restartLine.tracker.demand[z] = false := by
    intro z
    simp [State.restartLine, State.restartTracker, powerOnTracker]
  refine ⟨fun _ => (converterLaws_iff _).2 ⟨⟨fun z => ?_, rfl⟩, noGrantDue_of_off rfl⟩, ?_⟩
  · rw [demand z, arbiter, s.restartArbiter_zones]
    exact .restarted _
  · rintro ⟨zones, settings, batch, selections⟩
    have frame : (s.restartArbiter.settings, s.restartArbiter.ring, s.restartArbiter.counters) =
        (s.settings, s.ring, s.counters) := by
      unfold State.restartArbiter
      dsimp only
      split <;> rfl
    simp only [Prod.mk.injEq] at frame
    obtain ⟨settings', ring, counters⟩ := frame
    refine ⟨fun z => ?_, ?_, ?_, ?_⟩
    · rw [arbiter, s.restartArbiter_zones]
      exact ⟨(zones z).1, (zones z).2.1, Nat.zero_le _⟩
    · rw [SettingsInRange, ← settings'] at settings
      exact settings
    · rw [BatchInRange, ← ring] at batch
      exact batch
    · rw [SelectionsInRange, ← counters] at selections
      exact selections

theorem State.clearBatch_undisturbed : Undisturbed s s.clearBatch :=
  ⟨rfl, rfl, rfl, fun _ => rfl, fun _ => Nat.zero_le _⟩

theorem State.restart_keeps : Keeps s s.restart := by
  have retired : Undisturbed s s.loseRecords.loseLoading.restartRecipes :=
    (s.loseRecords_undisturbed.trans (State.loseLoading_undisturbed _)).trans (State.restartRecipes_undisturbed _)
  unfold State.restart
  generalize s.loseRecords.loseLoading.restartRecipes = t at retired
  have raised : Undisturbed t.clearBatch
      (t.clearBatch.setAttention { t.clearBatch.attention with pending := Source.restarted.bit }) := .same
  exact ((State.restartUnits_keeps _).trans (State.takePressStop_keeps _)).after
    ((retired.trans t.clearBatch_undisturbed).trans raised)

/-- After power-on the laws hold whatever stood before (R73, R203). -/
theorem powerOnReset_keeps : Keeps s (powerOnReset s) := by
  obtain ⟨-, -, -, laws, ranges, -⟩ := resetIsSound
  have fresh : Undisturbed State.reset s.powerOnBlocks := .same
  have blocks : Keeps s s.powerOnBlocks := ⟨fun _ => fresh.keeps.laws laws, fun _ => fresh.ranges ranges⟩
  exact blocks.trans s.powerOnBlocks.takePressStop_keeps

end Sys2Proof.Machine
end

section
/-! SUPPORT. Every request keeps the laws of the arbiter and the ranges (O56, O57). -/

namespace Sys2Proof.Machine

set_option Elab.async false

variable {s t : State}

/-! ### Requests of the line, the zones and the converter -/

theorem Keeps.accepted {data : List Byte} (h : Keeps s t) : Keeps s (t.accept data) := h.then .same

theorem Keeps.settled {data : List Byte} (h : Keeps s t) : Keeps s (t.settle.accept data) :=
  (h.then (State.settle_undisturbed t)).accepted

variable (s)

theorem State.refuse_keeps (code : ResultCode) : Keeps s (s.refuse code) := Undisturbed.keeps .same

theorem State.accept_keeps (data : List Byte) : Keeps s (s.accept data) := (Keeps.refl s).accepted

theorem onZone_keeps (zone : Nat) (f : Fin 6 → State) (h : ∀ z, Keeps s (f z)) : Keeps s (onZone zone s f) := by
  unfold onZone
  split
  · exact h _
  · exact s.refuse_keeps _

theorem onKey_keeps (key : Key) (f : Fin 32 → Entry → State) (h : ∀ i e, Keeps s (f i e)) :
    Keeps s (onKey key s f) := by
  unfold onKey
  split
  · exact s.refuse_keeps _
  · split
    · exact h _ _
    · exact s.refuse_keeps _

theorem onSet_keeps (set : BitVec 16) (f : BitVec 11 → Attention) : Keeps s (onSet set s f) := by
  unfold onSet
  split
  · exact (Undisturbed.keeps .same).accepted
  · exact s.refuse_keeps _

theorem startRequest_keeps : Keeps s (startRequest s) := by
  unfold startRequest
  split
  · exact s.refuse_keeps _
  split
  · exact s.refuse_keeps _
  split
  · exact s.refuse_keeps _
  · exact ((State.changeLine_keeps _ _).after .same).settled

theorem stopRequest_keeps : Keeps s (stopRequest s) := by
  unfold stopRequest
  split
  · exact (s.changeLine_keeps _).settled
  · exact s.refuse_keeps _

theorem holdRequest_keeps : Keeps s (holdRequest s) := by
  unfold holdRequest
  split
  · split
    · exact (Keeps.refl s).settled
    · exact ((State.afterCauseAdded_keeps _).after .same).settled
  · exact s.refuse_keeps _

theorem resumeRequest_keeps : Keeps s (resumeRequest s) := by
  unfold resumeRequest
  split
  · exact ((State.afterCauseRemoved_keeps _ _).after .same).settled
  · exact s.refuse_keeps _

theorem drainRequest_keeps : Keeps s (drainRequest s) := by
  unfold drainRequest
  split
  · exact ((State.stopIfDrained_keeps _).after .same).settled
  · exact s.refuse_keeps _

theorem purgeRequest_keeps : Keeps s (purgeRequest s) := by
  unfold purgeRequest
  split
  · have changed := (State.changeLine_keeps { s with cadence.purgeStep := 1 } .purging).after (s := s) .same
    exact (changed.then .same).settled
  · exact s.refuse_keeps _

theorem declareEmptyRequest_keeps : Keeps s (declareEmptyRequest s) := by
  unfold declareEmptyRequest
  split
  · exact s.refuse_keeps _
  split
  · exact s.refuse_keeps _
  · exact (Undisturbed.keeps .same).accepted

/-- Settings that SET ZONE takes lie in the ranges of Table 3-1. -/
theorem zoneSettingsOf_inRange {mode blockSize setpoint budget : Nat} {options : BitVec 8} {c : ZoneSettings}
    (h : zoneSettingsOf mode blockSize setpoint budget options = some c) : c.inRange = true := by
  unfold zoneSettingsOf at h
  split at h
  · cases h
  · split at h
    · rename_i range
      cases h
      simp only [ZoneSettings.inRange, decide_eq_true_eq]
      omega
    · cases h

theorem setZoneRequest_keeps (zone mode blockSize setpoint budget : Nat) (options : BitVec 8) :
    Keeps s (setZoneRequest zone mode blockSize setpoint budget options s) := by
  refine onZone_keeps s _ _ fun z => ?_
  split
  · exact s.refuse_keeps _
  · rename_i settings taken
    have configured : Coheres s (s.updateZone z (Zone.configure settings)) :=
      .updateZone (fun _ _ h => h.configure settings) fun h => h.configure (zoneSettingsOf_inRange taken)
    exact (configured.trans (State.evaluateZone_coheres _ z)).grant.accepted

theorem enableZoneRequest_keeps (zone : Nat) : Keeps s (enableZoneRequest zone s) := by
  refine onZone_keeps s _ _ fun z => ?_
  dsimp only
  split
  · rename_i taken
    have other : s.arbiter.zones[z].state ≠ .delivering := by rcases taken.1 with h | h <;> rw [h] <;> decide
    have enabled : Coheres s (s.updateZone z Zone.enabled) :=
      .updateZone (fun _ _ h => h.enabled other) fun h => ⟨h.1, le_refl _, Nat.zero_le _⟩
    exact enabled.grant.accepted
  · exact s.refuse_keeps _

theorem Zone.disable_eligible (c : Zone) (h : c.disable.eligible = true) : c.eligible = true := by
  unfold Zone.disable at h
  split at h
  · exact h
  all_goals simp_all [Zone.eligible, Zone.turnOff]

theorem disableZoneRequest_keeps (zone : Nat) : Keeps s (disableZoneRequest zone s) := by
  refine onZone_keeps s _ _ fun z => ?_
  split
  · exact s.refuse_keeps _
  · have disabled : Coheres s (s.updateZone z Zone.disable) := .updateZone (fun _ _ h => h.disable) .disable
    exact (disabled.toKeeps (noGrantDue_updateZone (Zone.disable_eligible _))).accepted

theorem pauseZoneRequest_keeps (zone : Nat) : Keeps s (pauseZoneRequest zone s) := by
  refine onZone_keeps s _ _ fun z => ?_
  split
  · exact s.refuse_keeps _
  · rename_i running
    have paused : Coheres s (s.updateZone z Zone.pausing) := .updateZone (fun _ _ h => h.pausing running) id
    exact (paused.toKeeps (noGrantDue_updateZone fun h => by simp [Zone.pausing, Zone.eligible] at h)).accepted

theorem continueZoneRequest_keeps (zone : Nat) : Keeps s (continueZoneRequest zone s) := by
  refine onZone_keeps s _ _ fun z => ?_
  have continued : Coheres s (s.updateZone z Zone.continuing) := .updateZone (fun _ _ h => h.continuing) .continuing
  exact continued.grant.accepted

theorem doseZoneRequest_keeps (zone : Nat) : Keeps s (doseZoneRequest zone s) := by
  refine onZone_keeps s _ _ fun z => ?_
  split
  iterate 3 exact s.refuse_keeps _
  all_goals
    rename_i state
    split
    · exact s.refuse_keeps _
    · have dosed : Coheres s (s.updateZone z Zone.dosed) :=
        .updateZone (fun _ _ h => h.dosed (by rw [state]; decide)) id
      exact dosed.grant.accepted

/-- The converter's enable and pause are no channel's law. -/
theorem Coheres.power (enable pause : Bool) :
    Coheres s { s with arbiter := { s.arbiter with enable := enable, pause := pause } } :=
  ⟨fun h => ⟨h.channel, h.timer⟩, id⟩

theorem powerOnRequest_keeps : Keeps s (powerOnRequest s) := by
  unfold powerOnRequest
  split
  · exact (Coheres.power s true s.arbiter.pause).grant.accepted
  · exact s.refuse_keeps _

theorem powerOffRequest_keeps : Keeps s (powerOffRequest s) := by
  have disabled : Coheres s (State.updateZones { s with arbiter.enable := false } Zone.disable) := by
    refine (Coheres.power s false s.arbiter.pause).trans ⟨fun h => ⟨fun y => ?_, h.timer⟩, fun h => ?_⟩
    · rw [State.updateZones_zones]
      exact (h.channel y).disable
    · exact h.updateZones fun _ => .disable
  exact (disabled.toKeeps fun _ => noGrantDue_of_off rfl).accepted

theorem powerPauseRequest_keeps : Keeps s (powerPauseRequest s) :=
  ((Coheres.power s s.arbiter.enable true).toKeeps fun _ may => by simp [Arbiter.mayGrant] at may).accepted

theorem powerContinueRequest_keeps : Keeps s (powerContinueRequest s) :=
  (Coheres.power s s.arbiter.enable false).grant.accepted

/-! ### Requests of the ring and the recipe table -/

theorem postOrderRequest_keeps (billetId : BitVec 32) (key : Key) (flags : BitVec 8)
    (entryTemp exitOverride : Nat) :
    Keeps s (postOrderRequest billetId key flags entryTemp exitOverride s) := by
  unfold postOrderRequest
  split
  · exact s.refuse_keeps _
  split
  · exact s.refuse_keeps _
  split
  · exact s.refuse_keeps _
  · rename_i found h
    exact ((s.lookup_undisturbed h).trans .same).keeps.accepted

theorem withdrawRequest_keeps (n : Nat) : Keeps s (withdrawRequest n s) := by
  unfold withdrawRequest
  split
  · exact ((s.withdrawNewest_undisturbed n).raiseIf _ _).keeps.accepted
  · exact s.refuse_keeps _

theorem reclaimRequest_keeps (n : Nat) : Keeps s (reclaimRequest n s) := by
  unfold reclaimRequest
  split
  · exact (s.reclaimOldest_undisturbed n).keeps.accepted
  · exact s.refuse_keeps _

theorem readOrdersRequest_keeps (first count : Nat) : Keeps s (readOrdersRequest first count s) := by
  unfold readOrdersRequest
  split
  · split
    · exact s.accept_keeps _
    · exact s.refuse_keeps _
  · exact s.refuse_keeps _

theorem loadRecipeRequest_keeps (key : Key) (body : Body) (trim : Int) (policy : Nat) :
    Keeps s (loadRecipeRequest key body trim policy s) := by
  have present : ∀ i e p, Undisturbed s (s.loadPresent i e body trim p) := by
    intro i e p
    unfold State.loadPresent
    dsimp only
    split <;> exact .same
  unfold loadRecipeRequest
  split
  · exact s.refuse_keeps _
  split
  · split
    · split
      · exact ((State.afterLoad_keeps _ s).after (present _ _ _)).accepted
      · exact s.refuse_keeps _
    · split
      · exact ((State.afterLoad_keeps _ s).after ((s.giveUp_undisturbed _ _).trans .same)).accepted
      · exact s.refuse_keeps _
  · exact s.refuse_keeps _

theorem readRecipeRequest_keeps (selector : RecipeSelector) : Keeps s (readRecipeRequest selector s) := by
  unfold readRecipeRequest
  split
  · exact onKey_keeps s _ _ fun i e => s.accept_keeps _
  · split
    · exact s.accept_keeps _
    · exact s.refuse_keeps _

theorem flushRecipeRequest_keeps (key : Key) : Keeps s (flushRecipeRequest key s) := by
  refine onKey_keeps s _ _ fun i e => ?_
  split
  · exact s.refuse_keeps _
  split
  · exact s.refuse_keeps _
  · exact (s.giveUp_undisturbed _ _).keeps.accepted

theorem pinRecipeRequest_keeps (key : Key) : Keeps s (pinRecipeRequest key s) := by
  refine onKey_keeps s _ _ fun i e => ?_
  split
  · exact s.accept_keeps _
  split
  · exact s.refuse_keeps _
  · exact (Undisturbed.keeps .same).accepted

theorem setWindowRequest_keeps (window enable : Nat) (base mask : BitVec 16) (body : Body) :
    Keeps s (setWindowRequest window enable base mask body s) := by
  unfold setWindowRequest
  split
  · exact s.refuse_keeps _
  split
  · split
    · exact s.refuse_keeps _
    · exact (Undisturbed.keeps .same).accepted
  · exact s.refuse_keeps _

theorem requestWritebackRequest_keeps (key : Key) : Keeps s (requestWritebackRequest key s) := by
  refine onKey_keeps s _ _ fun i e => ?_
  split
  · exact s.refuse_keeps _
  split
  · exact s.refuse_keeps _
  · exact ((s.handOver_undisturbed _).trans .same).keeps.accepted

/-! ### Requests of the counters and the settings -/

/-- A selection that SELECT COUNTER takes names an event (R186). -/
theorem selectCounterRequest_keeps (counter event : Nat) : Keeps s (selectCounterRequest counter event s) := by
  unfold selectCounterRequest
  split
  · split
    · rename_i named
      refine Keeps.accepted ⟨id, fun ⟨zones, settings, batch, selections⟩ => ⟨zones, settings, batch, fun k => ?_⟩⟩
      simp only [Fin.getElem_fin, Vector.getElem_set]
      split
      · exact named
      · exact selections k
    · exact s.refuse_keeps _
  · exact s.refuse_keeps _

theorem settingRange_eq_none {id : Nat} (h : id = 0 ∨ 15 < id) : settingRange id = none := by
  unfold settingRange
  split <;> first | omega | rfl

/-- A written setting stands at its id's place, and the others as they were (R203). -/
theorem settingValues_write {id : Nat} (known : 1 ≤ id ∧ id ≤ 15) (value : Nat) (c : Settings) :
    settingValues (writeSettingOf id value c) = (settingValues c).set (id - 1) value := by
  obtain ⟨lo, hi⟩ := known
  interval_cases id <;> rfl

theorem writeSettingOf_profile (id value : Nat) (c : Settings) : (writeSettingOf id value c).profile = c.profile := by
  unfold writeSettingOf
  split <;> rfl

/-- A value that WRITE SETTING takes keeps the settings in their ranges (R203). -/
theorem settingsInRange_write {id value lo hi : Nat} (range : settingRange id = some (lo, hi))
    (fits : lo ≤ value ∧ value ≤ hi) (h : SettingsInRange s) :
    SettingsInRange { s with settings := writeSettingOf id value s.settings } := by
  have known : 1 ≤ id ∧ id ≤ 15 := by
    by_contra unknown
    rw [settingRange_eq_none (by omega)] at range
    cases range
  refine ⟨fun k => ?_, by rw [writeSettingOf_profile]; exact h.2⟩
  have length : (settingValues s.settings).length = 15 := rfl
  dsimp only
  rw [settingValues_write known, List.getD_eq_getElem?_getD, List.getElem?_set]
  by_cases same : id - 1 = k.val
  · have id_eq : k.val + 1 = id := by omega
    simp [same, length, id_eq, settingInRange, range, fits]
  · rw [if_neg same, ← List.getD_eq_getElem?_getD]
    exact h.1 k

theorem writeSettingRequest_keeps (id value : Nat) : Keeps s (writeSettingRequest id value s) := by
  unfold writeSettingRequest
  split
  · exact s.refuse_keeps _
  rename_i range
  split
  · rename_i fits
    split
    · have written : Coheres s { s with settings := writeSettingOf id value s.settings } :=
        ⟨fun h => ⟨h.channel, h.timer⟩, fun ⟨zones, settings, rest⟩ =>
          ⟨zones, settingsInRange_write s range fits settings, rest⟩⟩
      dsimp only
      split
      · exact (written.trans (State.evaluateAll_coheres _)).grant.accepted
      · exact (written.toKeeps fun due => due).accepted
    · exact s.refuse_keeps _
  · exact s.refuse_keeps _

theorem writeProfileRequest_keeps (profile : Vector Nat 12) : Keeps s (writeProfileRequest profile s) := by
  unfold writeProfileRequest
  split
  · rename_i ok
    have written : Coheres s { s with settings.profile := profile } :=
      ⟨fun h => ⟨h.channel, h.timer⟩, fun ⟨zones, settings, rest⟩ => ⟨zones, ⟨settings.1, ok⟩, rest⟩⟩
    exact (written.trans (State.evaluateAll_coheres _)).grant.accepted
  · exact s.refuse_keeps _

theorem readTrainRequest_keeps (first count : Nat) : Keeps s (readTrainRequest first count s) := by
  unfold readTrainRequest
  split
  · exact s.accept_keeps _
  · exact s.refuse_keeps _

/-- Every request keeps the laws. -/
theorem takeRequest_keeps (i : Instr) : Keeps s (takeRequest i s) := by
  cases i
  case start => exact startRequest_keeps s
  case stop => exact stopRequest_keeps s
  case hold => exact holdRequest_keeps s
  case resume => exact resumeRequest_keeps s
  case drain => exact drainRequest_keeps s
  case purge => exact purgeRequest_keeps s
  case declareEmpty => exact declareEmptyRequest_keeps s
  case readTrain => exact readTrainRequest_keeps s _ _
  case setZone => exact setZoneRequest_keeps s _ _ _ _ _ _
  case readZone => exact onZone_keeps s _ _ fun z => s.accept_keeps _
  case enableZone => exact enableZoneRequest_keeps s _
  case disableZone => exact disableZoneRequest_keeps s _
  case pauseZone => exact pauseZoneRequest_keeps s _
  case continueZone => exact continueZoneRequest_keeps s _
  case doseZone => exact doseZoneRequest_keeps s _
  case powerOn => exact powerOnRequest_keeps s
  case powerOff => exact powerOffRequest_keeps s
  case powerPause => exact powerPauseRequest_keeps s
  case powerContinue => exact powerContinueRequest_keeps s
  case postOrder => exact postOrderRequest_keeps s _ _ _ _ _
  case withdraw => exact withdrawRequest_keeps s _
  case readOrders => exact readOrdersRequest_keeps s _ _
  case reclaim => exact reclaimRequest_keeps s _
  case loadRecipe => exact loadRecipeRequest_keeps s _ _ _ _
  case readRecipe => exact readRecipeRequest_keeps s _
  case flushRecipe => exact flushRecipeRequest_keeps s _
  case flushUnpinned => exact s.sweep_undisturbed.keeps.accepted
  case pinRecipe => exact pinRecipeRequest_keeps s _
  case unpinRecipe => exact onKey_keeps s _ _ fun i e => (Undisturbed.keeps .same).accepted
  case setWindow => exact setWindowRequest_keeps s _ _ _ _ _
  case requestWriteback => exact requestWritebackRequest_keeps s _
  case enableAttention => exact onSet_keeps s _ _
  case disableAttention => exact onSet_keeps s _ _
  case clearAttention => exact onSet_keeps s _ _
  case selectCounter => exact selectCounterRequest_keeps s _ _
  case writeSetting => exact writeSettingRequest_keeps s _ _
  case writeProfile => exact writeProfileRequest_keeps s _
  case takeWritebacks | readAttention | restart => exact (Undisturbed.keeps .same).accepted
  case readLine | readWants | readCounters | readSettings | identify => exact s.accept_keeps _
  all_goals exact .refl s

end Sys2Proof.Machine
end

section
/-! PROOF. Every step keeps the laws of the arbiter and the ranges (O56, O57). -/

namespace Sys2Proof.Machine

set_option Elab.async false

variable (s : State)

/-! ### Events of the converter and the guards -/

theorem State.matched_eq_some_iff {s : State} {sequence : BitVec 8} {x : SliceRecord} :
    s.matched sequence = some x ↔ s.arbiter.slice = some x ∧ x.sequence = sequence := by
  unfold State.matched
  cases s.arbiter.slice with
  | none => simp
  | some y =>
    by_cases h : y.sequence = sequence
    · simp only [h, if_true, Option.some.injEq]
      exact ⟨fun e => ⟨e, e ▸ h⟩, And.left⟩
    · simp only [h, if_false, Option.some.injEq]
      exact ⟨nofun, fun e => absurd (e.1 ▸ e.2) h⟩

theorem sliceDone_keeps (sequence : BitVec 8) (energy : Nat) : Keeps s (sliceDone sequence energy s) := by
  unfold sliceDone
  split
  · rename_i x matched
    have flight := (State.matched_eq_some_iff.1 matched).1
    exact (s.sliceEnd_keeps flight _ .sliceCompleted).then
      ((State.chooseIfReported_undisturbed _ s).trans (State.settle_undisturbed _))
  · exact .refl s

theorem sliceFault_keeps (sequence : BitVec 8) (energy : Nat) : Keeps s (sliceFault sequence energy s) := by
  unfold sliceFault
  split
  · exact s.supplyLoss_keeps _
  · exact .refl s

theorem convReadyFall_keeps : Keeps s (convReadyFall s) := by
  unfold convReadyFall
  dsimp only
  split
  · exact (State.supplyLoss_keeps _ _).after .same
  · exact Undisturbed.keeps .same

theorem sliceTimerExpiry_keeps : Keeps s (sliceTimerExpiry s) := by
  unfold sliceTimerExpiry
  split
  · split
    · exact (State.supplyLoss_keeps _ _).after .same
    · exact .refl s
  · exact .refl s

/-- A zone that is not DELIVERING halts and claims nothing more (R68). -/
theorem State.haltZone_keeps {z : Fin 6} (other : s.arbiter.zones[z].state ≠ .delivering) :
    Keeps s (s.haltZone z) := by
  have halted : Coheres s (s.updateZone z Zone.halted) := by
    refine .updateZone (fun own demand h => ?_) fun h => ⟨h.1, h.2.1, Nat.zero_le _⟩
    obtain ⟨rfl, -⟩ := h.rest other
    exact h.1 ▸ .halted _
  have quiet := halted.toKeeps (noGrantDue_updateZone fun h => by simp [Zone.halted, Zone.eligible] at h)
  exact quiet.then (((Undisturbed.refl _).count .guardHalt).raiseIf _ .zoneError)

/-- A stop that waits at a DELIVERING zone for its slice to end (R68). -/
theorem State.cancelForHalt_keeps {z : Fin 6} (delivering : s.arbiter.zones[z].state = .delivering) :
    Keeps s (s.cancelForHalt z) := by
  have pended : ∀ t : State, t.arbiter = s.arbiter →
      Keeps t (t.updateZone z (fun c => { c with pendingEnd := .halt })) := by
    intro t same
    have state : t.arbiter.zones[z].state = .delivering := by rw [same, delivering]
    have channel : Coheres t (t.updateZone z (fun c => { c with pendingEnd := .halt })) :=
      .updateZone (fun _ _ h => h.awaitEnd state .halt) id
    exact channel.toKeeps (noGrantDue_updateZone id)
  unfold State.cancelForHalt
  split
  · exact .refl s
  · dsimp only
    split
    · exact (pended (s.send _) rfl).after .same
    · exact pended s rfl

theorem guardAsserted_keeps (zone : Nat) : Keeps s (guardAsserted zone s) := by
  unfold guardAsserted
  split
  · exact .refl s
  · rename_i z _
    have driven : Undisturbed s (s.setGuard z true) := .same
    dsimp only
    split
    case h_4 state => exact ((s.setGuard z true).cancelForHalt_keeps state).after .same
    case h_5 | h_6 => exact driven.keeps
    all_goals
      rename_i state
      exact ((s.setGuard z true).haltZone_keeps (z := z)
        (by rw [show (s.setGuard z true).arbiter = s.arbiter from rfl, state]; decide)).after .same

theorem guardNegated_keeps (zone : Nat) : Keeps s (guardNegated zone s) := by
  unfold guardNegated
  split
  · exact .refl s
  · exact Undisturbed.keeps .same

/-! ### Events of the pyrometer, the press and the handling machines -/

theorem pyroTemperatureMessage_keeps (value : Nat) : Keeps s (pyroTemperatureMessage value s) := by
  unfold pyroTemperatureMessage
  split
  · exact .refl s
  · rename_i r _
    let r2 := corrected (s.bodyOf r) s.settings.ambient (min value 25600) (s.updated r)
    let s1 : State := { s with tracker.readingTimer := none }
    have judged : Undisturbed s (s1.updateExit (fun _ => r2)).reportExit :=
      ((State.updateExit_undisturbed s1 _).trans (State.reportExit_undisturbed _)).after
    exact ((State.learnFrom_keeps _ r2 _ _).after judged).then
      ((State.choose_undisturbed _).trans (State.settle_undisturbed _))

theorem readingTimerExpiry_keeps : Keeps s (readingTimerExpiry s) := by
  unfold readingTimerExpiry
  split
  · let s1 : State := { s with tracker.readingTimer := none }
    dsimp only
    split
    · split
      · have judged := (s1.updateExit_undisturbed fun r => { r with verdict := .rejectUnmeasured }).trans
          (State.reportExit_undisturbed _)
        exact ((judged.trans (State.choose_undisturbed _)).trans (State.settle_undisturbed _)).after.keeps
      · exact Undisturbed.keeps .same
    · exact Undisturbed.keeps .same
  · exact .refl s

theorem surveyTimerExpiry_keeps : Keeps s (surveyTimerExpiry s) := by
  unfold surveyTimerExpiry
  split
  · let s1 : State := { s with tracker.surveyTimer := some (s.timer s.settings.surveyPeriod) }
    have surveyed : Undisturbed s s1.updateTrain.recheckExit :=
      (State.recheckExit_undisturbed s1.updateTrain).after
    have granted := ((surveyed.coheres.trans (State.evaluateAll_coheres _)).trans
      (State.reportReadiness_undisturbed _).coheres).grant
    exact granted.then ((State.chooseIfReported_undisturbed _ s).trans (State.settle_undisturbed _))
  · exact .refl s

theorem pressCall_keeps : Keeps s (pressCall s) := by
  let s1 : State := { s with pins.pressCall := true }
  unfold pressCall
  dsimp only
  split
  · split
    · exact ((s1.startExtract_undisturbed.trans (State.settle_undisturbed _)).after).keeps
    · exact (((State.choose_undisturbed { s1 with cadence.pendingCall := true }).trans
        (State.settle_undisturbed _)).after).keeps
  · exact (s1.decline_undisturbed.after).keeps

theorem pressStopAsserted_keeps : Keeps s (pressStopAsserted s) :=
  ((State.pressStopAsserts_keeps { s with pins.pressStop := true }).after .same).then (State.settle_undisturbed _)

theorem pressStopNegated_keeps : Keeps s (pressStopNegated s) := by
  unfold pressStopNegated
  dsimp only
  split
  · exact ((State.afterCauseRemoved_keeps _ true).after .same).then (State.settle_undisturbed _)
  · exact Undisturbed.keeps .same

theorem holdDelayExpiry_keeps : Keeps s (holdDelayExpiry s) := by
  unfold holdDelayExpiry
  split
  · exact ((State.addPressStop_keeps _).after .same).then (State.settle_undisturbed _)
  · exact .refl s

theorem pushDone_keeps : Keeps s (pushDone s) := by
  unfold pushDone
  split
  · rename_i loaded _
    have completed : Keeps s (s.endOperation.pushCompleted loaded) :=
      (State.pushCompleted_keeps s.endOperation loaded).after .same
    dsimp only
    split
    · exact (completed.trans (State.purgeNext_keeps _)).then (State.settle_undisturbed _)
    · exact completed.trans (State.afterCompletion_keeps _)
  all_goals exact .refl s

theorem extractDone_keeps : Keeps s (extractDone s) := by
  unfold extractDone
  split
  · exact (State.afterCompletion_keeps _).after ((s.endOperation.removeExit_undisturbed _).after)
  all_goals exact .refl s

theorem divertDone_keeps : Keeps s (divertDone s) := by
  unfold divertDone
  split
  · split
    · have removed := (s.endOperation.removeExit_undisturbed fun _ => .purged).after (s := s)
      have started : ∀ t : State, Undisturbed t (t.startOperation (.push none)) := fun _ => .same
      exact ((removed.trans (started _)).trans (State.settle_undisturbed _)).keeps
    · exact (State.afterCompletion_keeps _).after ((s.endOperation.removeExit_undisturbed _).after)
  all_goals exact .refl s

theorem handlingTimerExpiry_keeps : Keeps s (handlingTimerExpiry s) := by
  unfold handlingTimerExpiry
  split
  · split
    · exact s.handlingTimeout_keeps _
    · exact .refl s
  · exact .refl s

theorem minPushTimerExpiry_keeps : Keeps s (minPushTimerExpiry s) := by
  unfold minPushTimerExpiry
  split
  · exact (((State.choose_undisturbed _).trans (State.settle_undisturbed _)).after).keeps
  · exact .refl s

theorem coldWaitExpiry_keeps : Keeps s (coldWaitExpiry s) := by
  unfold coldWaitExpiry
  split
  · exact (((State.choose_undisturbed _).trans (State.settle_undisturbed _)).after).keeps
  all_goals exact .refl s

/-! ### Timers of the ring and the table, and the link -/

theorem batchDelayExpiry_keeps : Keeps s (batchDelayExpiry s) := by
  have raised : ∀ t : State, Undisturbed t t.raiseOrderDone := fun t =>
    ⟨rfl, rfl, rfl, fun _ => rfl, fun _ => Nat.zero_le _⟩
  unfold batchDelayExpiry
  split
  · dsimp only
    split
    · exact ((raised _).after).keeps
    · exact Undisturbed.keeps .same
  · exact .refl s

theorem fetchTimeout_keeps (key : Key) : Keeps s (fetchTimeout key s) := by
  unfold fetchTimeout
  split
  · exact ((Undisturbed.same).count _).keeps
  · exact .refl s

theorem frameReceived_keeps (f : Frame) : Keeps s (frameReceived f s) := by
  have formed : ∀ t : State, Undisturbed t (t.formReply f) := by
    intro t
    unfold State.formReply
    split
    · exact .same
    · exact .refl t
  have dispatched : ∀ t : State, Keeps t (t.dispatch f.kind f.payload) := by
    intro t
    unfold State.dispatch
    split
    iterate 3 exact t.refuse_keeps _
    exact takeRequest_keeps t _
  unfold frameReceived
  split
  · exact .refl s
  split
  · exact Undisturbed.keeps .same
  unfold State.checkFrame
  split
  · exact Undisturbed.keeps .same
  split
  · exact Undisturbed.keeps .same
  split
  · exact Undisturbed.keeps .same
  · exact ((dispatched _).after .same).then (formed _)

theorem abandonFrame_keeps : Keeps s s.abandonFrame := by
  unfold State.abandonFrame
  split
  · exact Undisturbed.keeps .same
  · exact .refl s

theorem lengthByteDiscard_keeps (length : Nat) : Keeps s (lengthByteDiscard length s) := by
  unfold lengthByteDiscard
  split
  · exact abandonFrame_keeps s
  · exact .refl s

theorem syncByteBeginsFrame_keeps : Keeps s (syncByteBeginsFrame s) := by
  unfold syncByteBeginsFrame
  split
  · exact Undisturbed.keeps .same
  · exact .refl s

theorem replySent_keeps : Keeps s (replySent s) := by
  rcases replySent_cases s with ⟨-, h⟩ | ⟨-, -, -, -, h⟩ | ⟨-, -, -, h⟩ <;> rw [h]
  · exact .refl s
  · exact s.endReply.restart_keeps.after .same
  · exact Undisturbed.keeps .same

theorem restartTakesEffect_keeps : Keeps s (restartTakesEffect s) := by
  unfold restartTakesEffect
  split
  · exact s.restart_keeps
  · exact .refl s

/-! ### Commands and steps -/

/-- Every command keeps the laws. -/
theorem exec_keeps {i : Instr} {s t : State} (h : exec i s = .next t) : Keeps s t := by
  by_cases request : (encodeRequest i).isSome = true
  · rw [exec_request request s] at h
    cases h
    exact takeRequest_keeps s i
  cases i
  case frameReceived f => cases h; exact frameReceived_keeps s f
  case idleGapAbandon => cases h; exact abandonFrame_keeps s
  case framingErrorAbandon => cases h; exact abandonFrame_keeps s
  case lengthByteDiscard n => cases h; exact lengthByteDiscard_keeps s n
  case syncByteBeginsFrame => cases h; exact syncByteBeginsFrame_keeps s
  case replySent => cases h; exact replySent_keeps s
  case restartTakesEffect => cases h; exact restartTakesEffect_keeps s
  case powerOnReset => cases h; exact powerOnReset_keeps s
  case sliceDone sequence energy => cases h; exact sliceDone_keeps s sequence energy
  case sliceFault sequence energy => cases h; exact sliceFault_keeps s sequence energy
  case convReadyFall => cases h; exact convReadyFall_keeps s
  case sliceTimerExpiry => cases h; exact sliceTimerExpiry_keeps s
  case guardAsserted zone => cases h; exact guardAsserted_keeps s zone
  case guardNegated zone => cases h; exact guardNegated_keeps s zone
  case pyroTemperatureMessage value => cases h; exact pyroTemperatureMessage_keeps s value
  case readingTimerExpiry => cases h; exact readingTimerExpiry_keeps s
  case surveyTimerExpiry => cases h; exact surveyTimerExpiry_keeps s
  case pressCall => cases h; exact pressCall_keeps s
  case pressStopAsserted => cases h; exact pressStopAsserted_keeps s
  case pressStopNegated => cases h; exact pressStopNegated_keeps s
  case holdDelayExpiry => cases h; exact holdDelayExpiry_keeps s
  case pushDone => cases h; exact pushDone_keeps s
  case extractDone => cases h; exact extractDone_keeps s
  case divertDone => cases h; exact divertDone_keeps s
  case handlingTimerExpiry => cases h; exact handlingTimerExpiry_keeps s
  case minPushTimerExpiry => cases h; exact minPushTimerExpiry_keeps s
  case coldWaitExpiry => cases h; exact coldWaitExpiry_keeps s
  case batchDelayExpiry => cases h; exact batchDelayExpiry_keeps s
  case fetchTimeout key => cases h; exact fetchTimeout_keeps s key
  case convReadyRise | pressCallNegated | pyroNoTarget => cases h; exact Undisturbed.keeps .same
  case readRecipe selector => cases selector <;> exact absurd rfl request
  all_goals exact absurd rfl request

/-- Every step keeps the laws of the arbiter and the ranges. -/
theorem step_keeps {s t : State} (h : step s = .next t) : Keeps s t := by
  unfold step stepQueue at h
  split at h
  · exact (exec_keeps h).after .same
  unfold idleStep at h
  split at h
  · exact exec_keeps h
  split at h
  · cases h; exact Undisturbed.keeps .same
  unfold State.passTime at h
  split at h
  · cases h; exact Undisturbed.keeps .same
  · exact exec_keeps h

/-- Settles O56: every part of a command keeps the channels' laws, and one that can make a zone eligible ends in a
grant. -/
theorem converterLawsKept : Obligations.ConverterLawsKept := fun _ _ laws h => (step_keeps h).laws laws

/-- Settles O57: a value is written within its range, and what counts beyond its range is capped at it. -/
theorem rangesKept : Obligations.RangesKept := fun _ _ ranges h => (step_keeps h).ranges ranges

end Sys2Proof.Machine
end

section
/-! PROOF. Grants and the requests of the zones (O18 to O24). -/

namespace Sys2Proof.Machine

set_option Elab.async false

/-! ### Ranks -/

/-- The zones before a zone in rank order are those of higher rank (R56, R57, R65). -/
theorem mem_higherZones (s : State) (y z : Fin 6) :
    y ∈ higherZones s.settings.pairAlternation s.arbiter.favour z ↔ rankOf s z < rankOf s y := by
  unfold higherZones rankOrder rankOf
  by_cases turned : s.settings.pairAlternation = 1 ∧ s.arbiter.favour = .zone5
  · simp only [turned, and_self, if_true]
    revert y z
    decide
  · simp only [turned, if_false]
    revert y z
    decide

theorem exists_takeWhile_append {z : Fin 6} {zones : List (Fin 6)} (mem : z ∈ zones) :
    ∃ rest, zones = zones.takeWhile (fun y => y != z) ++ z :: rest := by
  induction zones with
  | nil => cases mem
  | cons y zones ih =>
    by_cases same : y = z
    · exact ⟨zones, by simp [same]⟩
    · obtain ⟨rest, h⟩ := ih ((List.mem_cons.1 mem).resolve_left fun e => same e.symm)
      exact ⟨rest, by simpa [same] using h⟩

/-- The rank order around a zone: the zones of higher rank, the zone, and the rest (R56). -/
theorem rankOrder_split (s : State) (z : Fin 6) :
    ∃ rest, rankOrder s.settings.pairAlternation s.arbiter.favour =
      higherZones s.settings.pairAlternation s.arbiter.favour z ++ z :: rest :=
  exists_takeWhile_append (mem_rankOrder _ _ z)

/-! ### One channel set -/

theorem channelSet_zones (s : State) (z y : Fin 6) (c : Zone) :
    (channelSet s z c).arbiter.zones[y] = if z = y then c else s.arbiter.zones[y] :=
  s.updateZone_zones z y fun _ => c

theorem channelSet_self (s : State) (z : Fin 6) : channelSet s z s.arbiter.zones[z] = s := by
  simp [channelSet]

theorem channelSet_channelSet (s : State) (z : Fin 6) (c d : Zone) :
    channelSet (channelSet s z c) z d = channelSet s z d := by
  simp [channelSet]

/-- A slice order reads the settings of its channel and writes its state and block count (R58). -/
theorem orderSlice_channelSet (s : State) (z : Fin 6) (c : Zone) (forced : Bool) (n : Nat) :
    (channelSet s z c).orderSlice z forced n = sliceOrdered s z c forced n := by
  have turned : turnFavour s.settings.pairAlternation z s.arbiter.favour =
      if s.settings.pairAlternation = 1 ∧ z = 5 then .zone5
      else if s.settings.pairAlternation = 1 ∧ z = 4 then .zone6
      else s.arbiter.favour := by
    unfold turnFavour
    by_cases on : s.settings.pairAlternation = 1 <;> simp [on]
  simp only [State.orderSlice, sliceOrdered, ← turned, channelSet, State.effectiveSetpoint, State.updateZone,
    State.send, State.timer, zoneNumber, Fin.getElem_fin, Vector.getElem_set_self, Vector.set_set]

theorem orderSlice_eq (s : State) (z : Fin 6) (forced : Bool) (n : Nat) :
    s.orderSlice z forced n = sliceOrdered s z s.arbiter.zones[z] forced n := by
  rw [← orderSlice_channelSet, channelSet_self]

/-- The guard query reads one zone's settings of the arbiter (R42). -/
theorem guardQuery_channelSet (s : State) (z : Fin 6) {c : Zone}
    (settings : c.settings = s.arbiter.zones[z].settings) : (channelSet s z c).guardQuery z = s.guardQuery z := by
  have setpoint : (channelSet s z c).effectiveSetpoint z = s.effectiveSetpoint z := by
    rw [State.effectiveSetpoint, channelSet_zones, if_pos rfl, settings]; rfl
  rw [State.guardQuery, setpoint]
  rfl

/-! ### The four ends of a grant (R58) -/

section
variable (s : State) (z : Fin 6) {c : Zone}

theorem grantedTo_unforced (forced : c.forced = false) : grantedTo s z c = sliceOrdered s z c false 1 := if_pos forced

theorem grantedTo_forced (forced : c.forced = true) (guard : s.guardQuery z = false) :
    grantedTo s z c = sliceOrdered s z { c with forced := false } true 1 := by
  simp [grantedTo, forced, guard]

theorem grantedTo_guarded (forced : c.forced = true) (guard : s.guardQuery z = true) (request : c.request = true) :
    grantedTo s z c = sliceOrdered s z { c with forced := false } false 1 := by
  simp [grantedTo, forced, guard, request]

theorem grantedTo_refused (forced : c.forced = true) (guard : s.guardQuery z = true) (silent : c.request = false) :
    grantedTo s z c = channelSet s z { c with forced := false, state := .idle } := by
  simp [grantedTo, forced, guard, silent]

end

/-- A grant to a channel does not look at what the channel was before. -/
theorem grantedTo_channelSet (s : State) (z : Fin 6) {c : Zone}
    (settings : c.settings = s.arbiter.zones[z].settings) :
    grantedTo (channelSet s z c) z c = grantedTo s z c := by
  have order : ∀ (d : Zone) (forced : Bool), sliceOrdered (channelSet s z c) z d forced 1 = sliceOrdered s z d forced 1 :=
    fun d forced => by rw [← orderSlice_channelSet, channelSet_channelSet, orderSlice_channelSet]
  simp only [grantedTo, guardQuery_channelSet s z settings, order, channelSet_channelSet]

/-! ### The grant -/

theorem Zone.eligible_iff (c : Zone) : c.eligible = true ↔ c.state = .waiting ∧ c.paused = false := by
  simp [Zone.eligible]

theorem converterOpen_iff (s : State) : ConverterOpen s ↔ s.arbiter.mayGrant = true := by
  simp [ConverterOpen, Arbiter.mayGrant, and_assoc]

/-- Zones that are not eligible are passed over (R56). -/
theorem State.grantAmong_append {s : State} {before : List (Fin 6)}
    (passed : ∀ y ∈ before, s.arbiter.zones[y].eligible = false) (rest : List (Fin 6)) :
    s.grantAmong (before ++ rest) = s.grantAmong rest := by
  induction before with
  | nil => rfl
  | cons y before ih =>
    rw [List.cons_append, State.grantAmong, if_neg (Bool.eq_false_iff.1 (passed y List.mem_cons_self))]
    exact ih fun x mem => passed x (List.mem_cons_of_mem _ mem)

/-- A forced grant that the guard refuses to a zone without a request (R58). -/
abbrev DoseRefused (s : State) (z : Fin 6) : Prop :=
  s.arbiter.zones[z].forced = true ∧ s.guardQuery z = true ∧ s.arbiter.zones[z].request = false

theorem Zone.dropDose_of_request {c : Zone} (waiting : c.state = .waiting) (request : c.request = true) :
    c.dropDose = { c with forced := false } := by
  simp only [Zone.dropDose, request, if_true, ← waiting]

theorem Zone.dropDose_of_silent {c : Zone} (silent : c.request = false) :
    c.dropDose = { c with forced := false, state := .idle } := by
  simp [Zone.dropDose, silent]

/-- The grant at an eligible zone: the zone is granted, and a dose that comes to nothing passes the grant on (R58). -/
theorem State.grantAmong_cons {s : State} {z : Fin 6} (fit : s.arbiter.zones[z].eligible = true)
    (rest : List (Fin 6)) :
    (DoseRefused s z → s.grantAmong (z :: rest) = (grantedTo s z s.arbiter.zones[z]).grantAmong rest) ∧
    (¬ DoseRefused s z → s.grantAmong (z :: rest) = grantedTo s z s.arbiter.zones[z]) := by
  have dropped : s.updateZone z Zone.dropDose = channelSet s z s.arbiter.zones[z].dropDose := rfl
  rw [State.grantAmong, if_pos fit]
  by_cases forced : s.arbiter.zones[z].forced = true
  · rw [if_pos forced]
    by_cases guard : s.guardQuery z = true
    · rw [if_pos guard]
      by_cases request : s.arbiter.zones[z].request = true
      · refine ⟨fun h => absurd request (Bool.eq_false_iff.1 h.2.2), fun _ => ?_⟩
        have waiting := ((Zone.eligible_iff _).1 fit).1
        rw [if_pos request, dropped, Zone.dropDose_of_request waiting request, orderSlice_channelSet,
          grantedTo_guarded s z forced guard request]
      · have silent := Bool.eq_false_iff.2 request
        refine ⟨fun _ => ?_, fun h => absurd ⟨forced, guard, silent⟩ h⟩
        rw [if_neg request, dropped, Zone.dropDose_of_silent silent, grantedTo_refused s z forced guard silent]
    · refine ⟨fun h => absurd h.2.1 guard, fun _ => ?_⟩
      rw [if_neg guard, grantedTo_forced s z forced (Bool.eq_false_iff.2 guard)]
      exact orderSlice_channelSet s z { s.arbiter.zones[z] with forced := false } true 1
  · refine ⟨fun h => absurd h.1 forced, fun _ => ?_⟩
    rw [if_neg forced, orderSlice_eq, grantedTo_unforced s z (Bool.eq_false_iff.2 forced)]

/-- What a grant comes to at the eligible zone of highest rank (R56, R58). -/
theorem State.grant_first {s : State} {z : Fin 6} (opened : ConverterOpen s) (first : FirstEligible s z) :
    (DoseRefused s z → s.grant = (grantedTo s z s.arbiter.zones[z]).grant) ∧
    (¬ DoseRefused s z → s.grant = grantedTo s z s.arbiter.zones[z]) := by
  obtain ⟨fit, higher⟩ := first
  obtain ⟨rest, split⟩ := rankOrder_split s z
  have passed : ∀ y ∈ higherZones s.settings.pairAlternation s.arbiter.favour z, s.arbiter.zones[y].eligible = false :=
    fun y mem => Bool.eq_false_iff.2 fun h =>
      higher y ((mem_higherZones s y z).1 mem) ((Zone.eligible_iff _).1 h)
  have reach : s.grant = s.grantAmong (z :: rest) := by
    rw [State.grant, if_pos ((converterOpen_iff s).1 opened), split, State.grantAmong_append passed]
  have granted := State.grantAmong_cons ((Zone.eligible_iff _).2 fit) rest
  refine ⟨fun refused => ?_, fun taken => reach.trans (granted.2 taken)⟩
  rw [reach, granted.1 refused]
  obtain ⟨forced, guard, silent⟩ := refused
  rw [grantedTo_refused s z forced guard silent]
  have passed' : ∀ y ∈ higherZones s.settings.pairAlternation s.arbiter.favour z ++ [z],
      (channelSet s z { s.arbiter.zones[z] with forced := false, state := .idle }).arbiter.zones[y].eligible = false := by
    intro y mem
    rw [channelSet_zones]
    split
    · rfl
    · rename_i ne
      rcases List.mem_append.1 mem with mem | mem
      · exact passed y mem
      · exact absurd (List.mem_singleton.1 mem).symm ne
  rw [State.grant, if_pos (by exact (converterOpen_iff s).1 opened)]
  show _ = State.grantAmong _ (rankOrder s.settings.pairAlternation s.arbiter.favour)
  rw [split, List.append_cons, State.grantAmong_append passed']

/-- Settles O24: the grant passes the zones that are not eligible, in rank order, and one grant at the first. -/
theorem grantGoesToHighestRank : Obligations.GrantGoesToHighestRank := by
  refine fun s => ⟨fun closed => ?_, fun none => ?_, fun z opened first => ⟨fun taken => ?_, ?_⟩, s.grant_noGrantDue⟩
  · exact s.grant_closed (Bool.eq_false_iff.2 fun may => closed ((converterOpen_iff s).2 may))
  · refine s.grant_none fun z => Bool.eq_false_iff.2 fun fit => ?_
    obtain ⟨waiting, running⟩ := (Zone.eligible_iff _).1 fit
    rcases none z with h | h
    · exact h waiting
    · rw [running] at h; cases h
  · refine (State.grant_first opened first).2 ?_
    rintro ⟨forced, guard, silent⟩
    rw [forced, guard, silent] at taken
    simp at taken
  · exact fun forced guard silent => (State.grant_first opened first).1 ⟨forced, guard, silent⟩

/-! ### A request that leaves one channel changed -/

/-- The grant after a change of one channel, where none was due before, can only go to that zone (R56). -/
theorem State.grant_channelSet {s : State} (due : NoGrantDue s) (z : Fin 6) {c : Zone}
    (settings : c.settings = s.arbiter.zones[z].settings) : (channelSet s z c).grant = channelLeft s z c := by
  have zones := channelSet_zones s z
  unfold channelLeft
  by_cases opened : ConverterOpen s
  · have others : ∀ y : Fin 6, z ≠ y → ∀ d, (channelSet s z d).arbiter.zones[y].eligible = false := fun y ne d => by
      rw [zones, if_neg ne]
      exact due ((converterOpen_iff s).1 opened) y
    have none : ∀ d : Zone, d.eligible = false → (channelSet s z d).grant = channelSet s z d := fun d unfit =>
      State.grant_none _ fun y => by
        by_cases same : z = y
        · rw [zones, if_pos same, unfit]
        · exact others y same d
    by_cases fit : c.eligible = true
    · obtain ⟨waiting, running⟩ := (Zone.eligible_iff c).1 fit
      rw [if_pos ⟨opened, waiting, running⟩]
      have first : FirstEligible (channelSet s z c) z := by
        refine ⟨by rw [zones, if_pos rfl]; exact ⟨waiting, running⟩, fun y higher eligible => ?_⟩
        by_cases same : z = y
        · subst same; exact lt_irrefl _ higher
        · exact Bool.eq_false_iff.1 (others y same c) ((Zone.eligible_iff _).2 eligible)
      have granted := State.grant_first (s := channelSet s z c) opened first
      rw [show (channelSet s z c).arbiter.zones[z] = c by rw [zones, if_pos rfl],
        grantedTo_channelSet s z settings] at granted
      by_cases refused : DoseRefused (channelSet s z c) z
      · rw [granted.1 refused]
        obtain ⟨forced, guard, silent⟩ := refused
        rw [zones, if_pos rfl] at forced silent
        rw [guardQuery_channelSet s z settings] at guard
        rw [grantedTo_refused s z forced guard silent]
        exact none _ rfl
      · exact granted.2 refused
    · rw [if_neg fun h => fit ((Zone.eligible_iff c).2 h.2)]
      exact none c (Bool.eq_false_iff.2 fit)
  · rw [if_neg fun h => opened h.1]
    exact State.grant_closed _ (Bool.eq_false_iff.2 fun may => opened ((converterOpen_iff s).2 may))

end Sys2Proof.Machine
end

section
/-! PROOF. The requests of the zones and of the converter (O18 to O23). -/

namespace Sys2Proof.Machine

set_option Elab.async false

/-! ### Requests that name a zone -/

theorem onZone_named {zone : Nat} {z : Fin 6} (named : Names zone z) (s : State) (f : Fin 6 → State) :
    onZone zone s f = f z := by
  rw [onZone, zoneOf_names named]

theorem onZone_unnamed {zone : Nat} (unnamed : ∀ z, ¬ Names zone z) (s : State) (f : Fin 6 → State) :
    onZone zone s f = replied s .badValue [] := by
  rw [onZone, zoneOf_unnamed unnamed]; rfl

theorem Zone.disable_eq (c : Zone) : c.disable = disabledChannel c := by
  unfold Zone.disable disabledChannel
  cases c.state <;> rfl

/-- Settles O23: each request is a write of the converter's flags, and the two that can open it make the grant. -/
theorem powerRequestsSetFlags : Obligations.PowerRequestsSetFlags := by
  refine fun s => ⟨fun ready => ?_, fun low => ?_, rfl, rfl⟩
  · exact congrArg Host.Outcome.next (if_pos ready)
  · exact congrArg Host.Outcome.next (if_neg (by rw [low]; decide))

/-- Settles O20: the channel of a stopped zone is `disabledChannel`, for one zone or for all six. -/
theorem disableStopsZones : Obligations.DisableStopsZones := by
  refine fun s => ⟨fun zone z named on => ?_, fun zone z named off => ?_, fun zone unnamed => ?_, ?_⟩
  · show Host.Outcome.next (disableZoneRequest zone s) = _
    rw [disableZoneRequest, onZone_named named, if_neg on, ← Zone.disable_eq]
    rfl
  · show Host.Outcome.next (disableZoneRequest zone s) = _
    rw [disableZoneRequest, onZone_named named, if_pos off]
    rfl
  · exact congrArg Host.Outcome.next (onZone_unnamed unnamed s _)
  · show Host.Outcome.next (powerOffRequest s) = _
    simp only [← Zone.disable_eq]
    rfl

/-- Settles O19: an enabled channel claims nothing but its request, and the grant that follows is its own. -/
theorem enableZoneFillsBudget : Obligations.EnableZoneFillsBudget := by
  refine fun s zone => ⟨fun z named taken due => ?_, fun z named refused => ?_, fun unnamed => ?_⟩
  · show Host.Outcome.next (enableZoneRequest zone s) = _
    rw [enableZoneRequest, onZone_named named]
    dsimp only
    rw [if_pos taken, ← State.grant_channelSet due z (c := enabledChannel s.arbiter.zones[z]) rfl]
    rfl
  · show Host.Outcome.next (enableZoneRequest zone s) = _
    rw [enableZoneRequest, onZone_named named]
    dsimp only
    rw [if_neg refused]
    rfl
  · exact congrArg Host.Outcome.next (onZone_unnamed unnamed s _)

theorem continuedChannel_settings (c : Zone) : (continuedChannel c).settings = c.settings := by
  unfold continuedChannel
  split <;> rfl

/-- Settles O21: a pause opens no grant, and the grant after a continue is the zone's own. -/
theorem pauseAndContinueZone : Obligations.PauseAndContinueZone := by
  refine fun s zone => ⟨fun z named on running => ?_, fun z named stopped => ?_, fun z named due => ?_, fun unnamed => ?_⟩
  · show Host.Outcome.next (pauseZoneRequest zone s) = _
    rw [pauseZoneRequest, onZone_named named, if_neg (not_or.2 ⟨on, running⟩)]
    rfl
  · show Host.Outcome.next (pauseZoneRequest zone s) = _
    rw [pauseZoneRequest, onZone_named named, if_pos stopped]
    rfl
  · show Host.Outcome.next (continueZoneRequest zone s) = _
    rw [continueZoneRequest, onZone_named named, ← State.grant_channelSet due z (continuedChannel_settings _)]
    rfl
  · exact ⟨congrArg Host.Outcome.next (onZone_unnamed unnamed s _),
      congrArg Host.Outcome.next (onZone_unnamed unnamed s _)⟩

/-- A zone is empty where no record stands at its two positions (R42). -/
theorem State.occupancy_eq_zero_iff (s : State) (z : Fin 6) :
    s.occupancy z = 0 ↔ ∀ r ∈ s.tracker.train, r.position ≠ 2 * z.val ∧ r.position ≠ 2 * z.val + 1 := by
  simp [State.occupancy, Tracker.occupants, inZone, upstream, downstream]

/-- DOSE ZONE at a zone that can take a dose (R69). -/
theorem doseZoneRequest_running {s : State} {zone : Nat} {z : Fin 6} (named : Names zone z)
    (on : s.arbiter.zones[z].state ≠ .off) (running : s.arbiter.zones[z].state ≠ .halted)
    (unspent : s.arbiter.zones[z].state ≠ .spent) :
    doseZoneRequest zone s =
      if s.occupancy z = 0 then s.refuse .empty
      else (channelSet s z (dosedChannel s.arbiter.zones[z])).grant.accept [] := by
  rw [doseZoneRequest, onZone_named named]
  split
  case h_1 state => exact absurd state on
  case h_2 state => exact absurd state running
  case h_3 state => exact absurd state unspent
  all_goals rfl

/-- Settles O22: the refusals in their order, and the grant after a dose is the zone's own. -/
theorem doseZoneMakesDoseDue : Obligations.DoseZoneMakesDoseDue := by
  refine fun s zone => ⟨fun unnamed => ?_, fun z named stopped => ?_, fun z named on running unspent =>
    ⟨fun empty => ?_, fun ⟨r, mem, here⟩ due => ?_⟩⟩
  · exact congrArg Host.Outcome.next (onZone_unnamed unnamed s _)
  · show Host.Outcome.next (doseZoneRequest zone s) = _
    rw [doseZoneRequest, onZone_named named]
    rcases stopped with state | state | state <;> rw [state] <;> rfl
  · show Host.Outcome.next (doseZoneRequest zone s) = _
    rw [doseZoneRequest_running named on running unspent, if_pos ((s.occupancy_eq_zero_iff z).2 empty)]
    rfl
  · show Host.Outcome.next (doseZoneRequest zone s) = _
    have occupied : s.occupancy z ≠ 0 := fun empty => by
      have away := (s.occupancy_eq_zero_iff z).1 empty r mem
      omega
    rw [doseZoneRequest_running named on running unspent, if_neg occupied,
      State.grant_channelSet due z (c := dosedChannel s.arbiter.zones[z]) rfl]
    rfl

/-! ### SET ZONE -/

theorem zoneSettingsOf_eq {mode blockSize setpoint budget : Nat} {options : BitVec 8}
    (ok : ZoneValuesOk mode blockSize setpoint budget options) :
    zoneSettingsOf mode blockSize setpoint budget options =
      some ⟨modeOfCode mode, blockSize, setpoint, budget, options.getLsbD 0, options.getLsbD 1, options.getLsbD 2⟩ := by
  obtain ⟨known, ranges⟩ := ok
  have named : modeOf mode = some (modeOfCode mode) := by interval_cases mode <;> rfl
  unfold zoneSettingsOf
  rw [named]
  dsimp only
  rw [if_pos ranges]

theorem zoneSettingsOf_eq_none {mode blockSize setpoint budget : Nat} {options : BitVec 8}
    (bad : ¬ ZoneValuesOk mode blockSize setpoint budget options) :
    zoneSettingsOf mode blockSize setpoint budget options = none := by
  unfold zoneSettingsOf
  split
  · rfl
  · rename_i m known
    have range : mode ≤ 2 := by
      by_contra above
      have unknown : modeOf mode = none := by unfold modeOf; split <;> first | omega | rfl
      rw [unknown] at known
      cases known
    exact if_neg fun ranges => bad ⟨range, ranges⟩

/-- An evaluation of a zone's demand, as one change of the state whether or not the flag turns (R36). -/
theorem State.evaluateZone_eq (s : State) (z : Fin 6) : ∃ zones,
    s.evaluateZone z = { s with
      tracker := { s.tracker with demand := s.tracker.demand.set z (s.demandNow z) }
      arbiter := { s.arbiter with zones := zones } } := by
  rcases s.evaluateZone_cases z with ⟨same, h⟩ | ⟨-, h⟩ <;> rw [h]
  · exact ⟨s.arbiter.zones, by rw [same]; simp⟩
  · exact ⟨_, rfl⟩

/-- An evaluation leaves the channels of the other zones. -/
theorem State.evaluateZone_others (s : State) {z y : Fin 6} (ne : z ≠ y) :
    (s.evaluateZone z).arbiter.zones[y] = s.arbiter.zones[y] := by
  rcases s.evaluateZone_cases z with ⟨-, h⟩ | ⟨-, h⟩ <;> rw [h]
  rw [State.updateZone_zones, if_neg ne]
  rfl

theorem State.evaluateZone_remaining (s : State) (z : Fin 6) :
    (s.evaluateZone z).arbiter.zones[z].remaining = s.arbiter.zones[z].remaining := by
  rcases s.evaluateZone_cases z with ⟨-, h⟩ | ⟨-, h⟩ <;> rw [h]
  rw [State.updateZone_zones, if_pos rfl]
  split <;> rfl

theorem State.grant_kept (s : State) (y : Fin 6) :
    s.grant.arbiter.zones[y].settings = s.arbiter.zones[y].settings ∧
    s.grant.arbiter.zones[y].remaining = s.arbiter.zones[y].remaining ∧
    s.grant.arbiter.zones[y].stopCode = s.arbiter.zones[y].stopCode ∧
    s.grant.arbiter.zones[y].request = s.arbiter.zones[y].request := by
  have kept := (s.grant_zones y).1
  simp only [Zone.kept, Prod.mk.injEq] at kept
  obtain ⟨settings, request, -, -, stopCode, remaining, -⟩ := kept
  exact ⟨settings, remaining, stopCode, request⟩

/-- Settles O18: the settings are written, the demand evaluated with them, and the grant made that may follow. -/
theorem setZoneWritesSettings : Obligations.SetZoneWritesSettings := by
  intro s zone mode blockSize setpoint budget options
  refine ⟨fun z named ok => ⟨_, rfl, ?_⟩, fun bad => ?_⟩
  · let settings : ZoneSettings :=
      ⟨modeOfCode mode, blockSize, setpoint, budget, options.getLsbD 0, options.getLsbD 1, options.getLsbD 2⟩
    let s1 := s.updateZone z (Zone.configure settings)
    let s2 := s1.evaluateZone z
    have zones : ∀ y : Fin 6, s1.arbiter.zones[y] =
        if z = y then s.arbiter.zones[z].configure settings else s.arbiter.zones[y] :=
      fun y => s.updateZone_zones z y _
    have own := s2.grant_kept z
    have evaluated : s2.arbiter.zones[z].settings = s1.arbiter.zones[z].settings :=
      s1.evaluateZone_settings z z z.isLt
    rw [setZoneRequest, onZone_named named, zoneSettingsOf_eq ok]
    show SetZoneLeaves z mode blockSize setpoint budget options s (s2.grant.accept [])
    obtain ⟨channels, eval⟩ := s1.evaluateZone_eq z
    obtain ⟨arbiter, sent, granted⟩ := s2.grant_eq
    have demand : (s2.grant.accept []).demandNow z = s1.demandNow z :=
      State.demandNow_congr z (by simp [s2]) (by simp [s2]) (by simp [s2]) (by simp [s2])
        (own.1.trans evaluated)
    refine ⟨?_, ?_, ?_, fun y ne => ?_, fun flight => ?_, s2.grant_noGrantDue, rfl, ?_⟩
    · rw [show (s2.grant.accept []).arbiter = s2.grant.arbiter from rfl, own.1, evaluated, zones, if_pos rfl]
      rfl
    · rw [show (s2.grant.accept []).arbiter = s2.grant.arbiter from rfl, own.2.1, s1.evaluateZone_remaining, zones,
        if_pos rfl]
      rfl
    · rw [demand]
      simp [s2, eval, s1]
    · have other := s2.grant_kept y
      rw [show s2.arbiter.zones[y] = s.arbiter.zones[y] by
        rw [s1.evaluateZone_others (Ne.symm ne), zones, if_neg (Ne.symm ne)]] at other
      exact other
    · have kept := s2.grant_sliceKept (by simpa [s2, s1] using flight)
      simpa [s2, s1] using kept
    · rw [granted]
      simp [s2, eval, s1, State.accept, State.updateZone]
  · show Host.Outcome.next (setZoneRequest zone mode blockSize setpoint budget options s) = _
    rcases bad with unnamed | bad
    · exact congrArg Host.Outcome.next (onZone_unnamed unnamed s _)
    · rw [setZoneRequest, zoneSettingsOf_eq_none bad]
      unfold onZone
      split <;> rfl

end Sys2Proof.Machine
end

section
/-! PROOF. The guard inputs and the events that change a level at most (O40). -/

namespace Sys2Proof.Machine

set_option Elab.async false

/-! ### Sources and events in the statements' words -/

theorem alertLevel_eq (pending enabled : BitVec 11) :
    Attention.alertLevel ⟨pending, enabled⟩ = decide (pending &&& enabled ≠ 0) := by
  simp [Attention.alertLevel, bne, beq_eq_decide]

/-- Raising a source is placing its bit in P (R178). -/
theorem State.raise_eq_sourcesRaised (s : State) (x : Source) : s.raise x = sourcesRaised s x.bit := by
  unfold State.raise State.setAttention sourcesRaised attentionSet
  rw [alertLevel_eq]

theorem State.count_eq_eventCounted (s : State) (e : CountedEvent) : s.count e = eventCounted s e.number := rfl

/-- A halt in the statements' words: the channel, event 12 and the error notice (R68). -/
theorem State.haltZone_eq (s : State) (z : Fin 6) :
    s.haltZone z =
      let s2 := eventCounted (channelSet s z (haltedChannel s.arbiter.zones[z])) 12
      if s.arbiter.zones[z].settings.errorNotice = true then sourcesRaised s2 0b1000000#11 else s2 := by
  unfold State.haltZone State.raiseIf
  simp only [State.raise_eq_sourcesRaised, State.count_eq_eventCounted]
  rfl

section
variable {s : State} {zone : Nat} {z : Fin 6} (named : Names zone z)
include named

theorem guardAsserted_resting (resting : s.arbiter.zones[z].state = .idle ∨ s.arbiter.zones[z].state = .waiting ∨
    s.arbiter.zones[z].state = .spent) : guardAsserted zone s = (s.setGuard z true).haltZone z := by
  rw [guardAsserted, zoneOf_names named]
  rcases resting with state | state | state <;> simp only [state]

theorem guardAsserted_delivering (delivering : s.arbiter.zones[z].state = .delivering) :
    guardAsserted zone s = (s.setGuard z true).cancelForHalt z := by
  rw [guardAsserted, zoneOf_names named]
  simp only [delivering]

theorem guardAsserted_stopped (stopped : s.arbiter.zones[z].state = .off ∨ s.arbiter.zones[z].state = .halted) :
    guardAsserted zone s = s.setGuard z true := by
  rw [guardAsserted, zoneOf_names named]
  rcases stopped with state | state <;> simp only [state]

end

/-- The cancel of a slice for a halt, where none is pending (R68). -/
theorem State.cancelForHalt_eq {s : State} {z : Fin 6} {x : SliceRecord} (flight : s.arbiter.slice = some x)
    (other : s.arbiter.zones[z].pendingEnd ≠ .halt) :
    s.cancelForHalt z =
      channelSet (s.send (.sliceCancel x.sequence)) z { s.arbiter.zones[z] with pendingEnd := .halt } := by
  rw [State.cancelForHalt, if_neg other, flight]
  rfl

/-- Settles O40: the branches of a guard assertion by the zone's state, and the events that only move a level. -/
theorem guardsAndLevels : Obligations.GuardsAndLevels := by
  refine fun s => ⟨fun zone z named resting => ?_, fun zone z x named delivering other flight => ?_,
    fun zone z named still => ?_, fun zone z named => ?_, rfl, rfl, rfl⟩
  · refine congrArg Host.Outcome.next ((guardAsserted_resting named resting).trans ?_)
    exact (s.setGuard z true).haltZone_eq z
  · refine congrArg Host.Outcome.next ((guardAsserted_delivering named delivering).trans ?_)
    exact State.cancelForHalt_eq (s := s.setGuard z true) flight other
  · refine congrArg Host.Outcome.next ?_
    rcases still with state | state | ⟨delivering, pending⟩
    · exact guardAsserted_stopped named (.inl state)
    · exact guardAsserted_stopped named (.inr state)
    · exact (guardAsserted_delivering named delivering).trans (if_pos pending)
  · refine congrArg Host.Outcome.next ?_
    rw [guardNegated, zoneOf_names named]
    rfl

end Sys2Proof.Machine
end

section
/-! SUPPORT. Pending sources, counted events and the train under a change of line state (O38, O39). -/

namespace Sys2Proof.Machine

set_option Elab.async false

/-! ### Pending sources and counted events -/

/-- A raised source is pending (R178). -/
theorem State.raise_isPending (s : State) (x : Source) : (s.raise x).isPending x = true := by
  have bit : x.bit.getLsbD x.number = true := by cases x <;> rfl
  simp only [State.isPending, State.raise_pending, BitVec.getLsbD_or, bit, Bool.or_true]

/-- Raising a source clears none (R178). -/
theorem State.isPending_raise {s : State} {y : Source} (h : s.isPending y = true) (x : Source) :
    (s.raise x).isPending y = true := by
  simp only [State.isPending, State.raise_pending, BitVec.getLsbD_or] at h ⊢
  simp only [h, Bool.true_or]

/-- An event counted where it is selected (R185). -/
theorem State.count_counted (s : State) (e : CountedEvent) : Counted e.number 1 s (s.count e) := by
  intro k selected
  simp only [State.count, Fin.getElem_fin, Vector.getElem_mapIdx, Counter.tick] at selected ⊢
  rw [if_pos selected]
  rfl

/-- An event counted moves no counter that selects another (R185). -/
theorem State.count_other (s : State) {e : CountedEvent} {event : Nat} (other : event ≠ e.number) :
    Counted event 0 s (s.count e) := by
  intro k selected
  simp only [State.count, Fin.getElem_fin, Vector.getElem_mapIdx, Counter.tick] at selected ⊢
  rw [if_neg (by rw [selected]; exact other)]
  simp

/-- What counts an event after states that agree on the counters. -/
theorem Counted.trans {event n m : Nat} {s t u : State} (h : Counted event n s t) (k : Counted event m t u)
    (selection : ∀ i : Fin 4, t.counters[i].selection = s.counters[i].selection) : Counted event (n + m) s u := by
  intro i selected
  rw [k i (by rw [selection i, selected]), h i selected, BitVec.ofNat_add, BitVec.add_assoc]

theorem Counted.same {event : Nat} {s t : State} (counters : t.counters = s.counters) : Counted event 0 s t :=
  fun k _ => by rw [counters]; simp

/-! ### What closing a slice leaves -/

/-- A report of another sequence number, or without a slice in flight, matches no slice (R60). -/
theorem State.matched_eq_none {s : State} {sequence : BitVec 8}
    (other : ∀ x, s.arbiter.slice = some x → x.sequence ≠ sequence) : s.matched sequence = none :=
  Option.eq_none_iff_forall_ne_some.2 fun x matched => by
    obtain ⟨flight, same⟩ := State.matched_eq_some_iff.1 matched
    exact other x flight same

/-- The totals of a channel: what the end of a slice counts (R61, R71). -/
def Zone.tally (c : Zone) := (c.slicesCompleted, c.energyDelivered, c.energyUncredited, c.remaining)

/-- The counts of a slice are those of any state whose zones show the same totals. -/
theorem sliceCounted_of_tally {s t u : State} {z : Fin 6} {e uncredited : Nat}
    (counted : SliceCounted z e uncredited s t ∧ OthersUncounted z s t)
    (same : ∀ y : Fin 6, u.arbiter.zones[y].tally = t.arbiter.zones[y].tally) :
    SliceCounted z e uncredited s u ∧ OthersUncounted z s u := by
  simp only [Zone.tally, Prod.mk.injEq] at same
  refine ⟨?_, fun y ne => ?_⟩
  · obtain ⟨slices, delivered, left, remaining⟩ := same z
    rw [SliceCounted, slices, delivered, left, remaining]
    exact counted.1
  · obtain ⟨slices, delivered, left, remaining⟩ := same y
    rw [slices, delivered, left, remaining]
    exact counted.2 y ne

theorem creditLeft_counted (s : State) (x : SliceRecord) (e : Nat) :
    SliceCounted x.zone e (uncreditedPart s x.zone e) s (creditLeft s x e) ∧
    OthersUncounted x.zone s (creditLeft s x e) := by
  refine ⟨?_, fun y ne => ?_⟩
  · rw [SliceCounted, creditLeft_zones, if_pos rfl]
    exact ⟨rfl, rfl, rfl, rfl⟩
  · rw [creditLeft_zones, if_neg ne.symm]
    exact ⟨rfl, rfl, rfl, rfl⟩

theorem creditLeft_outside (s : State) (x : SliceRecord) (e : Nat) : (creditLeft s x e).outside = s.outside := by
  have settings : ∀ z : Fin 6, (creditLeft s x e).arbiter.zones[z].settings = s.arbiter.zones[z].settings := by
    intro z
    rw [creditLeft_zones]
    split
    · rename_i same; rw [← same]
    · rfl
  simp only [State.outside, settings]
  rfl

/-- What closing a slice leaves beside the readiness that zone 6 reports (R39, R61). -/
theorem State.closeSlice_cases (s : State) (x : SliceRecord) (e : Nat) :
    ∃ r, s.closeSlice x e = { creditLeft s x e with cadence.readiness := r } := by
  rw [State.closeSlice_eq]
  split
  · exact ⟨_, rfl⟩
  · exact ⟨_, rfl⟩

/-! ### The train under a change of line state -/

/-- A view of records that does not read the verdict sees the exit re-check as nothing (R24). -/
theorem State.recheckExit_map {β : Type} (s : State) {f : BilletRecord → β}
    (blind : ∀ r v, f { r with verdict := v } = f r) :
    s.recheckExit.tracker.train.map f = s.tracker.train.map f := by
  have same : ∀ r, f (s.rechecked r) = f r := by
    intro r
    unfold State.rechecked
    split
    · exact blind r _
    · rfl
  show (s.updateExit s.rechecked).tracker.train.map f = _
  unfold State.updateExit
  split
  · rename_i train
    split
    · simp [train, same]
    · rfl
  · rfl

/-- The train at a change of line state: every record updated under the state being left (R10). -/
theorem State.notice_map {β : Type} (s : State) (new : LineState) {f : BilletRecord → β}
    (blind : ∀ r v, f { r with verdict := v } = f r) :
    (s.notice new).tracker.train.map f = (s.tracker.train.map s.updated).map f := by
  unfold State.notice
  dsimp only
  simp only [State.grant_frame, State.reportReadiness_frame, State.recheckExit_map _ blind, State.evaluateAll_tracker]
  rfl

/-- The tracker's notice of a change of line state, with the cadence unit's line state taken (R75 step 1). -/
def State.noticed (s : State) (new : LineState) : State := ({ s with cadence.line := new }).notice new

/-- Steps 2 to 4 of a change of line state leave the tracker, the arbiter and the converter's messages as the notice
left them (R75). -/
theorem State.moveLine_noticed (s : State) (new : LineState) :
    (s.moveLine new).tracker = (s.noticed new).tracker ∧ (s.moveLine new).arbiter = (s.noticed new).arbiter ∧
    (s.moveLine new).wires.convTx = (s.noticed new).wires.convTx := by
  have declined : ∀ t : State, t.declinePending.tracker = t.tracker ∧ t.declinePending.arbiter = t.arbiter ∧
      t.declinePending.wires.convTx = t.wires.convTx := by
    intro t
    unfold State.declinePending
    split <;> exact ⟨rfl, rfl, rfl⟩
  have levelled : ∀ t : State, (t.settle.raiseIf new.announced .line).tracker = t.tracker ∧
      (t.settle.raiseIf new.announced .line).arbiter = t.arbiter ∧
      (t.settle.raiseIf new.announced .line).wires.convTx = t.wires.convTx := by
    intro t
    simp
  unfold State.moveLine
  dsimp only
  split
  · obtain ⟨tracker, arbiter, wires⟩ := levelled (s.noticed new).declinePending.stopColdWait
    obtain ⟨tracker', arbiter', wires'⟩ := declined (s.noticed new)
    exact ⟨tracker.trans tracker', arbiter.trans arbiter', wires.trans wires'⟩
  · exact levelled _

theorem State.moveLine_map {β : Type} (s : State) (new : LineState) {f : BilletRecord → β}
    (blind : ∀ r v, f { r with verdict := v } = f r) :
    (s.moveLine new).tracker.train.map f = (s.tracker.train.map s.updated).map f := by
  rw [(s.moveLine_noticed new).1]
  exact State.notice_map _ new blind

/-! ### The cadence unit's part of a change to HOLD -/

@[simp] theorem State.notice_outside (s : State) (new : LineState) : (s.notice new).outside = s.outside := by
  unfold State.notice
  rw [State.grant_outside, State.reportReadiness_outside, State.recheckExit_outside, State.evaluateAll_outside]
  exact s.updateTrain_outside

@[simp] theorem State.declinePending_outside (s : State) : s.declinePending.outside = s.outside := by
  unfold State.declinePending
  split
  · exact (State.count_outside _ _).trans (State.raise_outside _ _)
  · rfl

@[simp] theorem State.moveLine_outside (s : State) (new : LineState) : (s.moveLine new).outside = s.outside := by
  have noticed : (({ s with cadence.line := new } : State).notice new).outside = s.outside :=
    State.notice_outside { s with cadence.line := new } new
  unfold State.moveLine
  dsimp only
  rw [State.raiseIf_outside, State.settle_outside]
  split
  · exact (State.declinePending_outside _).trans noticed
  · exact noticed

/-- What stays of the cadence unit, the sources and the counters while the line is taken from a state of it to another,
and what the entry to HOLD makes of a line in RUN (R75, R88). -/
structure HeldKept (s t : State) : Prop where
  causes    : (t.cadence.manual, t.cadence.pressStop, t.cadence.supply, t.cadence.operation) =
    (s.cadence.manual, s.cadence.pressStop, s.cadence.supply, s.cadence.operation)
  sources   : ∀ x, s.isPending x = true → t.isPending x = true
  counted   : Counted 11 0 s t

theorem HeldKept.refl (s : State) : HeldKept s s := ⟨rfl, fun _ => id, .same rfl⟩

theorem HeldKept.trans {s t u : State} (h : HeldKept s t) (k : HeldKept t u)
    (selection : ∀ i : Fin 4, t.counters[i].selection = s.counters[i].selection) : HeldKept s u :=
  ⟨k.causes.trans h.causes, fun x pending => k.sources x (h.sources x pending), h.counted.trans k.counted selection⟩

theorem HeldKept.raise {s t : State} (h : HeldKept s t) (x : Source) : HeldKept s (t.raise x) :=
  ⟨h.causes, fun y pending => State.isPending_raise (h.sources y pending) x, h.counted⟩

theorem State.noticed_heldKept (s : State) (new : LineState) : HeldKept s (s.noticed new) := by
  obtain ⟨-, -, -, attention, counters, -, -, -, -, -, -, v, x, cadence⟩ :=
    State.notice_frame { s with cadence.line := new } new
  refine ⟨?_, fun y pending => ?_, .same counters⟩
  · rw [State.noticed, cadence]
  · rw [State.isPending, State.noticed, attention]; exact pending

theorem State.declinePending_heldKept (s : State) : HeldKept s s.declinePending := by
  unfold State.declinePending
  split
  · refine ⟨rfl, fun y pending => State.isPending_raise (s := { s with
      cadence.pendingCall := false, wires.declinePulses := s.wires.declinePulses + 1 }) pending _, ?_⟩
    exact s.count_other (e := .callDeclined) (by decide)
  · exact .refl s

theorem State.declinePending_pendingCall (s : State) : s.declinePending.cadence.pendingCall = false := by
  unfold State.declinePending
  split
  · rfl
  · rename_i none; exact Bool.eq_false_iff.2 none

/-- The entry to HOLD from RUN: LINE is raised and no call is pending; causes, sources and the count of lost slices
stay (R75, R88). -/
theorem State.moveLine_hold {s : State} (run : s.cadence.line = .run) :
    HeldKept s (s.moveLine .hold) ∧ (s.moveLine .hold).isPending .line = true ∧
    (s.moveLine .hold).cadence.pendingCall = false := by
  have enters : s.moveLine .hold = (s.noticed .hold).declinePending.stopColdWait.settle.raise .line := by
    unfold State.moveLine
    dsimp only
    rw [if_pos run]
    rfl
  have declined : HeldKept s (s.noticed .hold).declinePending := by
    obtain ⟨-, -, -, -, -, -, selection, -⟩ :=
      sameOutside_of_outside (State.notice_outside { s with cadence.line := .hold } .hold)
    exact (s.noticed_heldKept .hold).trans (State.declinePending_heldKept _) selection
  rw [enters]
  have settled : HeldKept s (s.noticed .hold).declinePending.stopColdWait.settle :=
    ⟨declined.causes, declined.sources, declined.counted⟩
  refine ⟨settled.raise .line, State.raise_isPending _ _, ?_⟩
  simp only [State.raise_frame]
  exact State.declinePending_pendingCall (s.noticed .hold)

/-! ### A change of line state without power -/

/-- Two channels agree but for the request flag. -/
def SameButRequest (c d : Zone) : Prop := ∃ r, d = { c with request := r }

/-- An evaluation leaves a zone that is OFF as it is, but for its request (R46). -/
theorem State.evaluateZone_off {s : State} (y : Fin 6) (off : s.arbiter.zones[y].state = .off) (z : Fin 6) :
    SameButRequest s.arbiter.zones[y] (s.evaluateZone z).arbiter.zones[y] := by
  rcases s.evaluateZone_cases z with ⟨-, h⟩ | ⟨-, h⟩ <;> rw [h]
  · exact ⟨_, rfl⟩
  · rw [State.updateZone_zones]
    split
    · rename_i same
      subst same
      refine ⟨s.demandNow z, ?_⟩
      have rest : ∀ c : Zone, c.state = .off →
          (if s.demandNow z then Zone.arrive else Zone.withdraw) c = { c with request := s.demandNow z } := by
        intro c off
        cases s.demandNow z <;> simp [Zone.arrive, Zone.withdraw, off]
      exact rest _ off
    · exact ⟨_, rfl⟩

theorem State.evaluateAll_off {s : State} (y : Fin 6) (off : s.arbiter.zones[y].state = .off) :
    SameButRequest s.arbiter.zones[y] s.evaluateAll.arbiter.zones[y] := by
  refine State.evaluateAll_induction (p := fun t => SameButRequest s.arbiter.zones[y] t.arbiter.zones[y]) s ⟨_, rfl⟩ ?_
  rintro t z ⟨r, same⟩
  obtain ⟨r', same'⟩ := State.evaluateZone_off (s := t) y (by rw [same]; exact off) z
  exact ⟨r', by rw [same', same]⟩

/-- What is left of the arbiter by a change of line state while the power is off and every zone OFF: it grants nothing
and takes the requests alone (R36, R46, R56). -/
theorem State.moveLine_powerless {s : State} (new : LineState) (power : s.arbiter.enable = false)
    (off : ∀ z : Fin 6, s.arbiter.zones[z].state = .off) :
    (s.moveLine new).arbiter.favour = s.arbiter.favour ∧ (s.moveLine new).arbiter.slice = s.arbiter.slice ∧
    (s.moveLine new).arbiter.sliceTimer = s.arbiter.sliceTimer ∧
    (∀ z : Fin 6, SameButRequest s.arbiter.zones[z] (s.moveLine new).arbiter.zones[z]) ∧
    (s.moveLine new).wires.convTx = s.wires.convTx := by
  obtain ⟨-, arbiter, messages⟩ := s.moveLine_noticed new
  have rechecked : ∀ t : State, t.recheckExit.reportReadiness.arbiter = t.arbiter ∧
      t.recheckExit.reportReadiness.wires = t.wires := by
    simp [State.recheckExit]
  rw [arbiter, messages]
  unfold State.noticed State.notice
  dsimp only
  rw [State.grant_closed _ (by rw [Arbiter.mayGrant, (rechecked _).1]; simp [power]), (rechecked _).1, (rechecked _).2]
  refine ⟨by simp, by simp, by simp, fun z => ?_, by simp⟩
  exact State.evaluateAll_off (s := { s.updateTrain with
    cadence.line := new, tracker.line := new
    tracker.readingTimer := if new = LineState.purging then none else s.tracker.readingTimer }) z (off z)

end Sys2Proof.Machine
end

section
/-! PROOF. The three events of a supply loss (O39). -/

namespace Sys2Proof.Machine

set_option Elab.async false

/-! ### The credit of a loss -/

/-- A supply loss after its credit: a slice in flight closed and counted as lost (R71 steps 1 and 2). -/
def State.lossCredited (s : State) (energy : SliceRecord → Nat) : State :=
  match s.arbiter.slice with
  | some x => (s.closeSlice x (energy x)).count .sliceLost
  | none => s

/-- The train after that credit. -/
def trainCredited (s : State) (energy : SliceRecord → Nat) : List BilletRecord :=
  match s.arbiter.slice with
  | some x => creditedTrain s x.zone (energy x)
  | none => s.tracker.train

theorem State.loseSupply_eq (s : State) (energy : SliceRecord → Nat) :
    s.loseSupply energy =
      (State.updateZones { s.lossCredited energy with arbiter.enable := false } Zone.lost).raise .supply := rfl

theorem trainAfterLoss_eq (s : State) (energy : SliceRecord → Nat) :
    trainAfterLoss s energy =
      if s.cadence.line = .run then (trainCredited s energy).map s.updated else trainCredited s energy := rfl

/-- What the credit of a loss leaves (R71 steps 1 and 2). -/
structure LossCredited (energy : SliceRecord → Nat) (s c : State) : Prop where
  train     : c.tracker.train = trainCredited s energy
  line      : (c.tracker.line, c.cadence.line) = (s.tracker.line, s.cadence.line)
  causes    : (c.cadence.manual, c.cadence.pressStop, c.cadence.supply, c.cadence.operation) =
    (s.cadence.manual, s.cadence.pressStop, s.cadence.supply, s.cadence.operation)
  free      : c.arbiter.slice = none
  favour    : c.arbiter.favour = s.arbiter.favour
  channel   : ∀ z : Fin 6, (c.arbiter.zones[z].state, c.arbiter.zones[z].stopCode) =
    (s.arbiter.zones[z].state, s.arbiter.zones[z].stopCode)
  closed    : ∀ x, s.arbiter.slice = some x →
    (SliceCounted x.zone (energy x) (uncreditedPart s x.zone (energy x)) s c ∧ OthersUncounted x.zone s c) ∧
    c.arbiter.sliceTimer = none ∧ Counted 11 1 s c
  messages  : c.wires.convTx = s.wires.convTx
  outside   : c.outside = s.outside
  tables    : c.ring = s.ring ∧ c.recipes = s.recipes

theorem State.lossCredited_leaves (s : State) (energy : SliceRecord → Nat) :
    LossCredited energy s (s.lossCredited energy) := by
  unfold State.lossCredited
  cases flight : s.arbiter.slice with
  | none =>
    refine ⟨?_, rfl, rfl, flight, rfl, fun z => rfl, fun x some => ?_, rfl, rfl, rfl, rfl⟩
    · simp only [trainCredited, flight]
    · rw [flight] at some; cases some
  | some x =>
    obtain ⟨r, close⟩ := s.closeSlice_cases x (energy x)
    dsimp only
    rw [close]
    refine ⟨?_, rfl, rfl, rfl, rfl, fun z => ?_, fun y same => ?_, rfl, ?_, rfl, rfl⟩
    · simp only [trainCredited, flight]
      rfl
    · show ((creditLeft s x (energy x)).arbiter.zones[z].state, (creditLeft s x (energy x)).arbiter.zones[z].stopCode) = _
      rw [creditLeft_zones]
      split
      · rename_i same; rw [← same]
      · rfl
    · obtain rfl : x = y := Option.some.inj (flight.symm.trans same)
      exact ⟨creditLeft_counted s x (energy x), rfl,
        State.count_counted { creditLeft s x (energy x) with cadence.readiness := r } .sliceLost⟩
    · rw [State.count_outside]
      exact creditLeft_outside s x (energy x)

/-! ### The notice to the cadence unit -/

/-- A supply loss with its SUPPLY cause added and the line not yet moved (R71, R79). -/
def State.lossCaused (s : State) (energy : SliceRecord → Nat) : State :=
  { s.loseSupply energy with cadence.supply := true }

theorem State.supplyLoss_eq {s : State} (free : SupplyFree s) (energy : SliceRecord → Nat) :
    s.supplyLoss energy = (if s.cadence.line = .run then (s.lossCaused energy).moveLine .hold
      else s.lossCaused energy).settle := by
  have credited := s.lossCredited_leaves energy
  have line : (s.loseSupply energy).cadence.line = s.cadence.line := congrArg Prod.snd credited.line
  have supply : (s.loseSupply energy).cadence.supply = s.cadence.supply := congrArg (fun c => c.2.2.1) credited.causes
  unfold State.supplyLoss State.addSupply
  by_cases held : s.cadence.supply = true
  · have stays : s.cadence.line ≠ .run := fun run => by rw [free run] at held; cases held
    have caused : s.lossCaused energy = s.loseSupply energy := by
      rw [State.lossCaused, ← supply.trans held]
    rw [if_pos (supply.trans held), if_neg stays, caused]
  · rw [if_neg (by rw [supply]; exact held)]
    show (s.lossCaused energy).afterCauseAdded.settle = _
    have moved : (s.lossCaused energy).changeLine .hold = (s.lossCaused energy).moveLine .hold := by
      unfold State.changeLine
      exact if_neg (by decide)
    have stands : (s.lossCaused energy).cadence.line = s.cadence.line := line
    rw [State.afterCauseAdded, moved, stands]

/-- What the notice of a loss to the cadence unit keeps of the arbiter's part of it (R71 step 5, R75). -/
structure LossNoticed (m t : State) : Prop where
  arbiter   : t.arbiter.favour = m.arbiter.favour ∧ t.arbiter.slice = m.arbiter.slice ∧
    t.arbiter.sliceTimer = m.arbiter.sliceTimer ∧
    (∀ z : Fin 6, SameButRequest m.arbiter.zones[z] t.arbiter.zones[z]) ∧ t.wires.convTx = m.wires.convTx
  held      : HeldKept m t
  outside   : t.outside = m.outside
  tables    : t.ring = m.ring ∧ t.recipes = m.recipes

theorem LossNoticed.refl (m : State) : LossNoticed m m :=
  ⟨⟨rfl, rfl, rfl, fun _ => ⟨_, rfl⟩, rfl⟩, .refl m, rfl, rfl, rfl⟩

theorem State.moveLine_lossNoticed {m : State} (power : m.arbiter.enable = false)
    (off : ∀ z : Fin 6, m.arbiter.zones[z].state = .off) (run : m.cadence.line = .run) :
    LossNoticed m (m.moveLine .hold) := by
  obtain ⟨-, ring, recipes, -⟩ := m.moveLine_frame .hold
  exact ⟨State.moveLine_powerless .hold power off, (State.moveLine_hold run).1, m.moveLine_outside .hold, ring, recipes⟩

/-! ### The train after a loss -/

/-- The thermal update reads the recipes, the settings, the line state and the line clock (R7). -/
theorem State.updated_congr {s t : State} (recipes : t.recipes = s.recipes) (settings : t.settings = s.settings)
    (line : t.tracker.line = s.tracker.line) (clock : t.tracker.clock = s.tracker.clock) :
    t.updated = s.updated := by
  funext r
  simp only [State.updated, State.bodyOf, recipes, settings, line, clock]

/-- What identifies a billet, of a record. -/
def billetOf (r : BilletRecord) := (r.slot, r.billetId, r.ref, r.position, r.exitGoal, r.holdGoal, r.enteredAt)

theorem billetOf_updated (s : State) (r : BilletRecord) : billetOf (s.updated r) = billetOf r := by
  obtain ⟨tm, sx, holdTime, aged, shape⟩ := s.updated_shape r
  rw [shape]; rfl

theorem heated_shape (s : State) (e : Nat) (r : BilletRecord) :
    ∃ tm sx energy, heated s e r = { s.updated r with tm := tm, sx := sx, energy := energy } :=
  ⟨_, _, _, rfl⟩

theorem billetOf_heated (s : State) (e : Nat) (r : BilletRecord) : billetOf (heated s e r) = billetOf r := by
  obtain ⟨tm, sx, energy, shape⟩ := heated_shape s e r
  have kept : ∀ u : BilletRecord, billetOf { u with tm := tm, sx := sx, energy := energy } = billetOf u := fun _ => rfl
  rw [shape, kept, billetOf_updated]

theorem creditedTrain_billets (s : State) (z : Fin 6) (e : Nat) :
    (creditedTrain s z e).map billetOf = s.tracker.train.map billetOf := by
  rw [creditedTrain, List.map_map]
  refine List.map_congr_left fun r _ => ?_
  rw [Function.comp_apply]
  cases shareOf s z e r with
  | some share => exact billetOf_heated s share r
  | none => rfl

/-- A supply loss moves no billet (R71). -/
theorem trainAfterLoss_billets (s : State) (energy : SliceRecord → Nat) :
    (trainAfterLoss s energy).map billetOf = s.tracker.train.map billetOf := by
  have credited : (trainCredited s energy).map billetOf = s.tracker.train.map billetOf := by
    unfold trainCredited
    split
    · exact creditedTrain_billets s _ _
    · rfl
  rw [trainAfterLoss_eq]
  split
  · rw [List.map_map, ← credited]
    exact List.map_congr_left fun r _ => billetOf_updated s r
  · exact credited

/-! ### A loss, and the three events -/

theorem Zone.lost_kept (c : Zone) : c.lost.settings = c.settings ∧ c.lost.tally = c.tally := by
  unfold Zone.lost
  split <;> exact ⟨rfl, rfl⟩

theorem Zone.lost_stopped (c : Zone) :
    c.lost.state = .off ∧ c.lost.stopCode = if c.state = .off then c.stopCode else .supplyLost := by
  unfold Zone.lost
  split
  · rename_i off; exact ⟨off, rfl⟩
  · exact ⟨rfl, rfl⟩

theorem SameButRequest.channel {c d : Zone} (h : SameButRequest c d) :
    d.state = c.state ∧ d.stopCode = c.stopCode ∧ d.settings = c.settings ∧ d.tally = c.tally := by
  obtain ⟨r, rfl⟩ := h
  exact ⟨rfl, rfl, rfl, rfl⟩

section
variable (s : State) (energy : SliceRecord → Nat)

theorem State.lossCaused_zones (z : Fin 6) :
    (s.lossCaused energy).arbiter.zones[z] = (s.lossCredited energy).arbiter.zones[z].lost :=
  State.updateZones_zones { s.lossCredited energy with arbiter.enable := false } z Zone.lost

theorem State.lossCaused_train : (s.lossCaused energy).tracker.train = trainCredited s energy :=
  (s.lossCredited_leaves energy).train

theorem State.lossCaused_updated : (s.lossCaused energy).updated = s.updated := by
  have credited := s.lossCredited_leaves energy
  obtain ⟨settings, -, -, clock, -⟩ := sameOutside_of_outside credited.outside
  exact State.updated_congr credited.tables.2 settings (congrArg Prod.fst credited.line) clock

end

/-- What a supply loss makes of its cause: the notice taken, LINE raised and the call declined where the line leaves
RUN, and the train of R71. -/
theorem State.supplyLoss_noticed {s : State} (free : SupplyFree s) (energy : SliceRecord → Nat) :
    LossNoticed (s.lossCaused energy) (s.supplyLoss energy) ∧
    (s.supplyLoss energy).cadence.line = (if s.cadence.line = .run then .hold else s.cadence.line) ∧
    (s.cadence.line = .run →
      (s.supplyLoss energy).isPending .line = true ∧ (s.supplyLoss energy).cadence.pendingCall = false) ∧
    ∀ {β : Type} {f : BilletRecord → β}, (∀ r v, f { r with verdict := v } = f r) →
      (s.supplyLoss energy).tracker.train.map f = (trainAfterLoss s energy).map f := by
  have line : (s.lossCaused energy).cadence.line = s.cadence.line :=
    congrArg Prod.snd (s.lossCredited_leaves energy).line
  have off : ∀ z : Fin 6, (s.lossCaused energy).arbiter.zones[z].state = .off := fun z => by
    rw [State.lossCaused_zones]; exact (Zone.lost_stopped _).1
  have settled : ∀ t : State, LossNoticed (s.lossCaused energy) t → LossNoticed (s.lossCaused energy) t.settle :=
    fun t noticed => ⟨noticed.arbiter, ⟨noticed.held.causes, noticed.held.sources, noticed.held.counted⟩,
      noticed.outside, noticed.tables⟩
  rw [State.supplyLoss_eq free, trainAfterLoss_eq]
  by_cases run : s.cadence.line = .run
  · have moved := (s.lossCaused energy).moveLine_frame .hold
    simp only [if_pos run]
    refine ⟨settled _ (State.moveLine_lossNoticed rfl off (line.trans run)), by simp [moved], fun _ => ?_, fun blind => ?_⟩
    · exact (State.moveLine_hold (line.trans run)).2
    · exact ((s.lossCaused energy).moveLine_map .hold blind).trans (by
        rw [State.lossCaused_train, State.lossCaused_updated])
  · simp only [if_neg run]
    refine ⟨settled _ (.refl _), line, fun run' => absurd run' run, fun _ => ?_⟩
    exact congrArg (List.map _) (s.lossCaused_train energy)

/-- What a supply loss leaves (R71, R79). -/
theorem State.supplyLoss_leaves {s : State} (free : SupplyFree s) (energy : SliceRecord → Nat) :
    SupplyLostLeaves energy s (s.supplyLoss energy) ∧ (s.supplyLoss energy).wires.convTx = s.wires.convTx ∧
    (s.supplyLoss energy).pins.convReady = s.pins.convReady := by
  have credited := s.lossCredited_leaves energy
  obtain ⟨settings, port, pending, -, -, pins, selection, global, zoneSettings⟩ := sameOutside_of_outside credited.outside
  obtain ⟨noticed, line, left, train⟩ := State.supplyLoss_noticed free energy
  obtain ⟨settings', port', pending', -, -, pins', -, global', -⟩ := sameOutside_of_outside noticed.outside
  obtain ⟨favour, slice, timer, channel, messages⟩ := noticed.arbiter
  have causes := credited.causes
  have causes' := noticed.held.causes
  simp only [Prod.mk.injEq] at pins global pins' global' causes causes'
  obtain ⟨manual, pressStop, -, operation⟩ := causes
  obtain ⟨manual', pressStop', supply, operation'⟩ := causes'
  have lost : ∀ z : Fin 6,
      (s.supplyLoss energy).arbiter.zones[z].state = .off ∧
      (s.supplyLoss energy).arbiter.zones[z].stopCode =
        (if s.arbiter.zones[z].state = .off then s.arbiter.zones[z].stopCode else .supplyLost) ∧
      (s.supplyLoss energy).arbiter.zones[z].settings = s.arbiter.zones[z].settings ∧
      (s.supplyLoss energy).arbiter.zones[z].tally = (s.lossCredited energy).arbiter.zones[z].tally := by
    intro z
    obtain ⟨state, stop, kept, tally⟩ := (channel z).channel
    have before := credited.channel z
    simp only [Prod.mk.injEq] at before
    obtain ⟨off, code⟩ := (s.lossCredited energy).arbiter.zones[z].lost_stopped
    obtain ⟨lostSettings, lostTally⟩ := (s.lossCredited energy).arbiter.zones[z].lost_kept
    rw [before.1, before.2] at code
    rw [State.lossCaused_zones] at state stop kept tally
    exact ⟨state.trans off, stop.trans code, kept.trans (lostSettings.trans (zoneSettings z)), tally.trans lostTally⟩
  have billets : SameBillets s (s.supplyLoss energy) :=
    (train (f := billetOf) fun _ _ => rfl).trans (trainAfterLoss_billets s energy)
  refine ⟨⟨global'.1, slice.trans credited.free, global'.2.trans global.2, favour.trans credited.favour, fun z => ?_,
    fun x flight => ?_, train fun _ _ => rfl, fun x flight => ?_,
    noticed.held.sources _ (State.raise_isPending _ _), supply, line, left, manual'.trans manual,
    pressStop'.trans pressStop, operation'.trans operation, billets, noticed.tables.1.trans credited.tables.1,
    noticed.tables.2.trans credited.tables.2, settings'.trans settings, port'.trans port, pending'.trans pending⟩,
    messages.trans credited.messages, pins'.2.2.1.trans pins.2.2.1⟩
  · obtain ⟨off, stop, kept, -⟩ := lost z
    exact ⟨off, stop, kept⟩
  · obtain ⟨counted, stopped, -⟩ := credited.closed x flight
    obtain ⟨own, others⟩ := sliceCounted_of_tally counted fun y => (lost y).2.2.2
    exact ⟨own, others, timer.trans stopped⟩
  · obtain ⟨-, -, counted⟩ := credited.closed x flight
    exact Counted.trans (t := s.lossCaused energy) counted noticed.held.counted selection

/-- Settles O39: the three events run one loss, with the energy each credits. -/
theorem supplyLossStopsZonesAndHolds : Obligations.SupplyLossStopsZonesAndHolds := by
  refine fun s => ⟨fun sequence energy x free flight same => ?_, fun sequence energy other => ?_, fun free lost => ?_,
    fun power free => ?_, fun x free flight runs => ?_, fun free => ?_⟩
  · obtain ⟨leaves, messages, -⟩ := State.supplyLoss_leaves free fun x => min energy x.eset
    refine ⟨_, ?_, leaves, messages⟩
    show Host.Outcome.next (sliceFault sequence energy s) = _
    rw [sliceFault, State.matched_eq_some_iff.2 ⟨flight, same⟩]
  · show Host.Outcome.next (sliceFault sequence energy s) = _
    rw [sliceFault, State.matched_eq_none other]
  · obtain ⟨leaves, messages, ready⟩ :=
      State.supplyLoss_leaves (s := { s with pins.convReady := false }) free fun _ => 0
    refine ⟨_, ?_, leaves, ready, messages⟩
    show Host.Outcome.next (convReadyFall s) = _
    rw [convReadyFall, if_pos (by simpa using lost)]
  · show Host.Outcome.next (convReadyFall s) = _
    rw [convReadyFall, if_neg (by simp [power, free])]
  · obtain ⟨leaves, messages, -⟩ :=
      State.supplyLoss_leaves (s := s.send (.sliceCancel x.sequence)) free fun _ => 0
    refine ⟨_, ?_, leaves, messages⟩
    show Host.Outcome.next (sliceTimerExpiry s) = _
    rw [sliceTimerExpiry, flight]
    exact congrArg Host.Outcome.next (if_pos runs)
  · show Host.Outcome.next (sliceTimerExpiry s) = _
    rw [sliceTimerExpiry, free]

end Sys2Proof.Machine
end

section
/-! SUPPORT. What the choice of the next handling operation leaves of the converter, the sources and the counters, and the
states a grant does not tell apart (O38). -/

namespace Sys2Proof.Machine

set_option Elab.async false

/-! ### The choice away from the converter -/

/-- Nothing is sent to the converter, no source is cleared, and no event of the slices and the guards is counted. -/
structure ConverterQuiet (s t : State) : Prop where
  messages  : t.wires.convTx = s.wires.convTx
  sources   : ∀ x, s.isPending x = true → t.isPending x = true
  selection : ∀ k : Fin 4, t.counters[k].selection = s.counters[k].selection
  counted   : ∀ event, 10 ≤ event → Counted event 0 s t

section
variable {s t u : State}

theorem ConverterQuiet.same
    (fields : (t.wires.convTx, t.attention, t.counters) = (s.wires.convTx, s.attention, s.counters) := by rfl) :
    ConverterQuiet s t := by
  simp only [Prod.mk.injEq] at fields
  obtain ⟨messages, attention, counters⟩ := fields
  refine ⟨messages, fun x pending => ?_, fun k => by rw [counters], fun event _ => .same counters⟩
  rw [State.isPending, attention]
  exact pending

theorem ConverterQuiet.trans (h : ConverterQuiet s t) (k : ConverterQuiet t u) : ConverterQuiet s u :=
  ⟨k.messages.trans h.messages, fun x pending => k.sources x (h.sources x pending),
    fun i => (k.selection i).trans (h.selection i),
    fun event late => (h.counted event late).trans (k.counted event late) h.selection⟩

theorem ConverterQuiet.raise (h : ConverterQuiet s t) (x : Source) : ConverterQuiet s (t.raise x) :=
  h.trans ⟨rfl, fun _ pending => State.isPending_raise pending x, fun _ => rfl, fun _ _ => .same rfl⟩

theorem ConverterQuiet.raiseIf (h : ConverterQuiet s t) (b : Bool) (x : Source) :
    ConverterQuiet s (t.raiseIf b x) := by
  unfold State.raiseIf
  split
  · exact h.raise x
  · exact h

theorem ConverterQuiet.count (h : ConverterQuiet s t) {e : CountedEvent} (early : e.number < 10) :
    ConverterQuiet s (t.count e) :=
  h.trans ⟨rfl, fun _ => id, fun k => t.count_selection e k k.isLt,
    fun _ late => t.count_other (by omega)⟩

end

section
variable (s : State)

theorem State.batch_quiet (order : BilletOrder) : ConverterQuiet s (s.batch order) := by
  have raised : ∀ (t : State) (b : Bool), ConverterQuiet s t →
      ConverterQuiet s (if b = true then t.raiseOrderDone else t) := by
    intro t b h
    split
    · exact (h.trans (ConverterQuiet.same (t := { t with ring.batch := 0, ring.batchTimer := none }))).raise .orderDone
    · exact h
  unfold State.batch
  dsimp only
  refine raised _ _ ?_
  split <;> split <;> exact .same

/-- The retirements are counted under events 2 to 7 (R132, R185). -/
theorem State.afterRetirement_quiet (order : BilletOrder) (v : OrderVerdict) :
    ConverterQuiet s (s.afterRetirement order v) := by
  have counted : ConverterQuiet s (s.countRetirement v) := by
    unfold State.countRetirement
    split
    · rename_i e retired
      refine (ConverterQuiet.same (s := s) (t := s)).count ?_
      revert retired
      cases v <;> rintro ⟨⟩ <;> decide
    · exact .same
  unfold State.afterRetirement
  dsimp only
  split
  · exact counted
  · exact counted.trans (State.batch_quiet _ order)

theorem State.retire_quiet (slot : Fin 64) (status : StatusRecord) : ConverterQuiet s (s.retire slot status) := by
  unfold State.retire
  split
  iterate 3 exact (ConverterQuiet.same (s := s)).trans (State.afterRetirement_quiet _ _ _)
  all_goals exact .same

theorem State.skipHeads_quiet (n : Nat) : ConverterQuiet s (s.skipHeads n) := by
  induction n generalizing s with
  | zero => exact .same
  | succ n ih =>
    unfold State.skipHeads
    split
    · split
      · exact ((s.retire_quiet _ _).trans .same).trans (ih _)
      · exact .same
    all_goals exact .same

theorem State.loadDecision_quiet : ConverterQuiet s s.loadDecision.1 := by
  have skipped := s.skipHeads_quiet s.ring.queued
  unfold State.loadDecision
  split
  · exact .same
  dsimp only
  split
  · exact (skipped.trans .same).raiseIf _ _
  · exact skipped.raiseIf _ _

theorem State.startPush_quiet : ConverterQuiet s s.startPush := s.loadDecision_quiet.trans .same

theorem State.choose_quiet : ConverterQuiet s s.choose := by
  rcases s.choose_cases with h | ⟨-, -, ⟨v, -, -, h⟩ | ⟨-, -, h⟩ | ⟨-, -, -, h⟩ | ⟨-, -, -, h⟩⟩ <;> rw [h]
  · exact .same
  · exact .same
  · exact .same (by simp [State.startExtract])
  · exact s.startPush_quiet
  · unfold State.startColdWait
    split
    · exact (ConverterQuiet.same (s := s)).trans (State.startPush_quiet _)
    · exact .same

end

/-! ### States a grant does not tell apart -/

/-- What a grant reads and writes: the arbiter, the tracker, the recipes, the settings and the messages to the converter
(R56, R58, R42). -/
def State.grantView (s : State) := (s.arbiter, s.tracker, s.recipes, s.settings, s.wires.convTx)

section
variable {a b : State} (same : a.grantView = b.grantView)
include same

theorem updateZone_grantView (z : Fin 6) (f : Zone → Zone) :
    (a.updateZone z f).grantView = (b.updateZone z f).grantView := by
  simp only [State.grantView, Prod.mk.injEq] at same ⊢
  obtain ⟨arbiter, rest⟩ := same
  exact ⟨by simp only [State.updateZone, arbiter], rest⟩

theorem orderSlice_grantView (z : Fin 6) (forced : Bool) (n : Nat) :
    (a.orderSlice z forced n).grantView = (b.orderSlice z forced n).grantView := by
  simp only [State.grantView, Prod.mk.injEq] at same ⊢
  obtain ⟨arbiter, tracker, recipes, settings, messages⟩ := same
  simp only [State.orderSlice, State.send, State.timer, State.effectiveSetpoint, State.updateZone, arbiter, tracker,
    recipes, settings, messages, and_self]

theorem guardQuery_grantView (z : Fin 6) : a.guardQuery z = b.guardQuery z := by
  simp only [State.grantView, Prod.mk.injEq] at same
  obtain ⟨arbiter, tracker, recipes, settings, -⟩ := same
  have body : a.bodyOf = b.bodyOf := by funext r; rw [State.bodyOf, recipes]; rfl
  have trim : a.trimOf = b.trimOf := by funext r; rw [State.trimOf, recipes]; rfl
  have guarded : a.guarded = b.guarded := by funext e r; rw [State.guarded, body, trim]; rfl
  simp only [State.guardQuery, State.effectiveSetpoint, guarded, arbiter, tracker, settings]

theorem grant_grantView : a.grant.grantView = b.grant.grantView := by
  have among : ∀ (zones : List (Fin 6)) {a b : State}, a.grantView = b.grantView →
      (a.grantAmong zones).grantView = (b.grantAmong zones).grantView := by
    intro zones
    induction zones with
    | nil => exact fun same => same
    | cons z rest ih =>
      intro a b same
      have arbiter : a.arbiter = b.arbiter := congrArg Prod.fst same
      unfold State.grantAmong
      rw [arbiter, guardQuery_grantView same z]
      split
      · split
        · split
          · dsimp only
            split
            · exact orderSlice_grantView (updateZone_grantView same z _) z false 1
            · exact ih (updateZone_grantView same z _)
          · exact orderSlice_grantView (updateZone_grantView same z _) z true 1
        · exact orderSlice_grantView same z false 1
      · exact ih same
  have arbiter : a.arbiter = b.arbiter := congrArg Prod.fst same
  have settings : a.settings = b.settings := congrArg (fun v => v.2.2.2.1) same
  unfold State.grant
  rw [arbiter, settings]
  split
  · exact among _ same
  · exact same

end

end Sys2Proof.Machine
end

section
/-! SUPPORT. The decision on a zone's next state after its slice, and the grant that follows (O38). -/

namespace Sys2Proof.Machine

set_option Elab.async false

/-! ### The channels of the decision -/

theorem Zone.endGrant_eq (c : Zone) : c.endGrant = endedChannel c := by
  simp [Zone.endGrant, endedChannel, Zone.claims]

theorem channelSet_grantView {a b : State} (same : a.grantView = b.grantView) (z : Fin 6) (c : Zone) :
    (channelSet a z c).grantView = (channelSet b z c).grantView :=
  updateZone_grantView same z fun _ => c

theorem State.haltZone_grantView (v : State) (z : Fin 6) :
    (v.haltZone z).grantView = (channelSet v z (haltedChannel v.arbiter.zones[z])).grantView := by
  simp only [State.grantView, State.haltZone_frame]
  simp only [State.haltZone, State.raiseIf_frame, State.count_frame]
  rfl

theorem State.spendZone_grantView (v : State) (z : Fin 6) :
    (v.spendZone z).grantView = (channelSet v z (spentChannel v.arbiter.zones[z])).grantView := by
  simp only [State.grantView, State.spendZone_frame]
  simp only [State.spendZone, State.raiseIf_frame]
  rfl

/-- A grant leaves a zone alone that is not eligible (R56). -/
theorem State.grant_unfit {s : State} {y : Fin 6} (unfit : s.arbiter.zones[y].eligible = false) :
    s.grant.arbiter.zones[y] = s.arbiter.zones[y] := by
  have among : ∀ (zones : List (Fin 6)) {t : State}, t.arbiter.zones[y].eligible = false →
      (t.grantAmong zones).arbiter.zones[y] = t.arbiter.zones[y] := by
    intro zones
    induction zones with
    | nil => exact fun _ => rfl
    | cons z rest ih =>
      intro t unfit
      have other : t.arbiter.zones[z].eligible = true → z ≠ y := by
        rintro fit rfl; rw [unfit] at fit; cases fit
      unfold State.grantAmong
      split
      · rename_i fit
        have ne := other fit
        split
        · split
          · dsimp only
            split
            · rw [State.orderSlice_zones, if_neg ne, State.updateZone_zones, if_neg ne]
            · have kept : (t.updateZone z Zone.dropDose).arbiter.zones[y] = t.arbiter.zones[y] := by
                rw [State.updateZone_zones, if_neg ne]
              rw [ih (by rw [kept]; exact unfit), kept]
          · rw [State.orderSlice_zones, if_neg ne, State.updateZone_zones, if_neg ne]
        · rw [State.orderSlice_zones, if_neg ne]
      · exact ih unfit
  unfold State.grant
  split
  · exact among _ unfit
  · rfl

/-! ### The cases of the decision (R62) -/

/-- A zone gives the converter up at its slice's end, nothing stopping it (R62 cases 4 to 6). -/
def State.givesUp (v : State) (z : Fin 6) (forced : Bool) : Bool :=
  forced || v.arbiter.zones[z].paused || v.arbiter.pause || !v.keepsConverter z

section
variable {v : State} {z : Fin 6} {forced : Bool}

theorem State.decideZone_halt (halt : v.arbiter.zones[z].pendingEnd = .halt) :
    v.decideZone z forced = (v.haltZone z).grant := if_pos halt

theorem State.decideZone_disable (disable : v.arbiter.zones[z].pendingEnd = .disable) :
    v.decideZone z forced = (v.updateZone z (Zone.turnOff .disabled)).grant := by
  unfold State.decideZone
  dsimp only
  rw [if_neg (by rw [disable]; decide), if_pos disable]

section
variable (noEnd : v.arbiter.zones[z].pendingEnd = .none)
include noEnd

theorem State.decideZone_spent (spent : v.arbiter.zones[z].remaining = 0) :
    v.decideZone z forced = (v.spendZone z).grant := by
  unfold State.decideZone
  dsimp only
  rw [if_neg (by rw [noEnd]; decide), if_neg (by rw [noEnd]; decide), if_pos spent]

variable (more : v.arbiter.zones[z].remaining ≠ 0)
include more

theorem State.decideZone_gives (gives : v.givesUp z forced = true) :
    v.decideZone z forced = (v.updateZone z Zone.endGrant).grant := by
  unfold State.decideZone
  dsimp only
  rw [if_neg (by rw [noEnd]; decide), if_neg (by rw [noEnd]; decide), if_neg more]
  simp only [State.givesUp, Bool.or_eq_true, Bool.not_eq_true'] at gives
  split
  · rfl
  · rename_i runs
    simp only [Bool.or_eq_true] at runs
    rw [if_neg (by rw [gives.resolve_left runs]; decide)]

theorem State.decideZone_keeps (keeps : v.givesUp z forced = false) :
    v.decideZone z forced = v.orderSlice z false (v.nextBlockCount z) := by
  simp only [State.givesUp, Bool.or_eq_false_iff, Bool.not_eq_false'] at keeps
  obtain ⟨runs, kept⟩ := keeps
  unfold State.decideZone
  dsimp only
  rw [if_neg (by rw [noEnd]; decide), if_neg (by rw [noEnd]; decide), if_neg more,
    if_neg (by simp only [runs, Bool.or_self, Bool.false_eq_true, not_false_eq_true]), if_pos kept]

end
end

/-! ### The grant ends -/

/-- What the credit leaves of the zone's channel beside its totals. -/
theorem creditLeft_own (s : State) (x : SliceRecord) (e : Nat) :
    let c := s.arbiter.zones[x.zone]
    let d := (creditLeft s x e).arbiter.zones[x.zone]
    (d.settings, d.pendingEnd, d.paused, d.forced, d.blockCount) =
      (c.settings, c.pendingEnd, c.paused, c.forced, c.blockCount) ∧ d.remaining = c.remaining - 1 := by
  dsimp only
  rw [creditLeft_zones, if_pos rfl]
  exact ⟨rfl, rfl⟩

/-- A zone of higher rank waits in the statement's words (R65): the zone itself is none of them. -/
theorem higherWaits_creditLeft (s : State) (x : SliceRecord) (e : Nat) :
    (creditLeft s x e).higherWaits x.zone = true ↔ ∃ y : Fin 6, rankOf s x.zone < rankOf s y ∧
      s.arbiter.zones[y].state = .waiting ∧ s.arbiter.zones[y].paused = false := by
  have rank : ∀ y : Fin 6, y ∈ higherZones (creditLeft s x e).settings.pairAlternation
      (creditLeft s x e).arbiter.favour x.zone ↔ rankOf s x.zone < rankOf s y := fun y => mem_higherZones s y x.zone
  rw [State.higherWaits, List.any_eq_true]
  refine exists_congr fun y => (and_congr_left' (rank y)).trans (and_congr_right fun higher => ?_)
  have other : x.zone ≠ y := by rintro rfl; exact lt_irrefl _ higher
  rw [Zone.eligible_iff, creditLeft_zones, if_neg other]

theorem grantEnds_iff (s : State) (x : SliceRecord) (e : Nat) :
    GrantEnds x s (creditLeft s x e) ↔ (creditLeft s x e).givesUp x.zone x.forced = true := by
  obtain ⟨own, -⟩ := creditLeft_own s x e
  simp only [Prod.mk.injEq] at own
  obtain ⟨settings, -, paused, -, count⟩ := own
  have pause : (creditLeft s x e).arbiter.pause = s.arbiter.pause := rfl
  have gives : (creditLeft s x e).givesUp x.zone x.forced = true ↔ x.forced = true ∨
      s.arbiter.zones[x.zone].paused = true ∨ s.arbiter.pause = true ∨
      (creditLeft s x e).keepsConverter x.zone = false := by
    simp only [State.givesUp, paused, pause, Bool.or_eq_true, Bool.not_eq_true', or_assoc]
  rw [gives, GrantEnds]
  refine or_congr_right (or_congr_right (or_congr_right ?_))
  simp only [State.keepsConverter, settings, count, Bool.and_eq_false_iff]
  refine or_congr_right ?_
  cases mode : s.arbiter.zones[x.zone].settings.mode with
  | step => simp
  | block => simp
  | burst => simpa using (higherWaits_creditLeft s x e).symm

/-! ### The decision on the zone's next state -/

theorem arbiterAs_of_grantView {a b : State} (same : b.grantView = a.grantView) : ArbiterAs a b := by
  simp only [State.grantView, Prod.mk.injEq] at same
  obtain ⟨arbiter, -, -, -, messages⟩ := same
  exact ⟨arbiter, messages⟩

/-- The decision of R62, made on any state that a grant does not tell from the one the credit left. -/
theorem State.decideZone_decided {s v : State} {x : SliceRecord} {e : Nat}
    (same : v.grantView = (creditLeft s x e).grantView) :
    ZoneDecided x s (creditLeft s x e) (v.decideZone x.zone x.forced) := by
  let u := creditLeft s x e
  obtain ⟨own, remaining⟩ := creditLeft_own s x e
  simp only [Prod.mk.injEq] at own
  obtain ⟨-, pending, -, -, count⟩ := own
  have arbiter : v.arbiter = u.arbiter := congrArg Prod.fst same
  have noEnd : s.arbiter.zones[x.zone].pendingEnd = .none → v.arbiter.zones[x.zone].pendingEnd = .none := by
    rw [arbiter]; exact pending.trans
  have budget : v.arbiter.zones[x.zone].remaining = s.arbiter.zones[x.zone].remaining - 1 := by
    rw [arbiter]; exact remaining
  have gives : v.givesUp x.zone x.forced = u.givesUp x.zone x.forced := by
    have settings : v.settings = u.settings := congrArg (fun view => view.2.2.2.1) same
    simp only [State.givesUp, State.keepsConverter, State.higherWaits, arbiter, settings]
  have decided : ∀ (w : State) (c : Zone), w.grantView = (channelSet v x.zone c).grantView →
      ArbiterAs (channelSet u x.zone c).grant w.grant := fun w c view =>
    arbiterAs_of_grantView (grant_grantView (view.trans (channelSet_grantView same x.zone c)))
  refine ⟨fun halt => ?_, fun disable => ?_, fun none spent => ?_, fun none left ends => ?_, fun none left keeps => ?_⟩
  · rw [State.decideZone_halt (by rw [arbiter]; exact pending.trans halt)]
    exact decided _ _ (by rw [← arbiter]; exact v.haltZone_grantView x.zone)
  · rw [State.decideZone_disable (by rw [arbiter]; exact pending.trans disable)]
    exact decided _ _ (by rw [← arbiter]; rfl)
  · rw [State.decideZone_spent (noEnd none) (by omega)]
    exact decided _ _ (by rw [← arbiter]; exact v.spendZone_grantView x.zone)
  · rw [State.decideZone_gives (noEnd none) (by omega) (gives.trans ((grantEnds_iff s x e).1 ends))]
    refine decided _ _ ?_
    rw [← arbiter, ← Zone.endGrant_eq]
    rfl
  · have runs : v.givesUp x.zone x.forced = false :=
      Bool.eq_false_iff.2 fun ends => keeps ((grantEnds_iff s x e).2 (gives.symm.trans ends))
    refine ⟨v.nextBlockCount x.zone, v.nextBlockCount_le x.zone, fun room => ?_, ?_⟩
    · have blocks : v.arbiter.zones[x.zone].blockCount = s.arbiter.zones[x.zone].blockCount := by
        rw [arbiter]; exact count
      rw [State.nextBlockCount, blocks, if_pos room]
    · rw [State.decideZone_keeps (noEnd none) (by omega) runs]
      refine arbiterAs_of_grantView ((orderSlice_grantView same _ _ _).trans ?_)
      rw [orderSlice_eq]

/-! ### What the decision leaves alone -/

/-- What the decision keeps of every channel: its settings, its request and its totals. -/
def Zone.account (c : Zone) := (c.settings, c.request, c.tally)

theorem updateZone_account (s : State) (z : Fin 6) {f : Zone → Zone}
    (kept : (f s.arbiter.zones[z]).account = s.arbiter.zones[z].account) (y : Fin 6) :
    (s.updateZone z f).arbiter.zones[y].account = s.arbiter.zones[y].account := by
  rw [State.updateZone_zones]
  split
  · rename_i same; subst same; exact kept
  · rfl

theorem grant_account (s : State) (y : Fin 6) :
    s.grant.arbiter.zones[y].account = s.arbiter.zones[y].account := by
  have kept := (s.grant_zones y).1
  simp only [Zone.kept, Prod.mk.injEq] at kept
  obtain ⟨settings, request, -, -, -, remaining, slices, delivered, uncredited⟩ := kept
  simp only [Zone.account, Zone.tally, settings, request, remaining, slices, delivered, uncredited]

theorem Zone.spend_account (c : Zone) : c.spend.account = c.account := by
  unfold Zone.spend
  split <;> rfl

/-- The five cases of the decision, for what holds of each. -/
theorem State.decideZone_induction {p : State → Prop} {v : State} (z : Fin 6) (forced : Bool)
    (halt : v.arbiter.zones[z].pendingEnd = .halt → p (v.haltZone z).grant)
    (disable : v.arbiter.zones[z].pendingEnd = .disable → p (v.updateZone z (Zone.turnOff .disabled)).grant)
    (spent : v.arbiter.zones[z].pendingEnd = .none → p (v.spendZone z).grant)
    (gives : v.arbiter.zones[z].pendingEnd = .none → p (v.updateZone z Zone.endGrant).grant)
    (keeps : v.arbiter.zones[z].pendingEnd = .none → p (v.orderSlice z false (v.nextBlockCount z))) :
    p (v.decideZone z forced) := by
  cases pending : v.arbiter.zones[z].pendingEnd with
  | halt => rw [State.decideZone_halt pending]; exact halt pending
  | disable => rw [State.decideZone_disable pending]; exact disable pending
  | none =>
    by_cases none : v.arbiter.zones[z].remaining = 0
    · rw [State.decideZone_spent pending none]; exact spent pending
    · cases up : v.givesUp z forced with
      | true => rw [State.decideZone_gives pending none up]; exact gives pending
      | false => rw [State.decideZone_keeps pending none up]; exact keeps pending

section
variable (v : State) (z : Fin 6) (forced : Bool)

theorem State.decideZone_account (y : Fin 6) :
    (v.decideZone z forced).arbiter.zones[y].account = v.arbiter.zones[y].account := by
  refine State.decideZone_induction (p := fun w => w.arbiter.zones[y].account = v.arbiter.zones[y].account) z forced
    (fun _ => ?_) (fun _ => ?_) (fun _ => ?_) (fun _ => ?_) fun _ => ?_
  · have halted : (v.haltZone z).arbiter = (v.updateZone z Zone.halted).arbiter :=
      congrArg Prod.fst (v.haltZone_grantView z)
    rw [grant_account, halted]
    exact updateZone_account v z (f := Zone.halted) rfl y
  · rw [grant_account]
    exact updateZone_account v z (f := Zone.turnOff .disabled) rfl y
  · have spent : (v.spendZone z).arbiter = (v.updateZone z Zone.spend).arbiter :=
      congrArg Prod.fst (v.spendZone_grantView z)
    rw [grant_account, spent]
    exact updateZone_account v z (Zone.spend_account _) y
  · rw [grant_account]
    exact updateZone_account v z (f := Zone.endGrant) rfl y
  · rw [State.orderSlice_zones]
    split
    · rename_i same; subst same; rfl
    · rfl

theorem State.decideZone_noGrantDue : NoGrantDue (v.decideZone z forced) :=
  State.decideZone_induction z forced (fun _ => State.grant_noGrantDue _) (fun _ => State.grant_noGrantDue _)
    (fun _ => State.grant_noGrantDue _) (fun _ => State.grant_noGrantDue _) fun _ => v.orderSlice_noGrantDue z false _

theorem updateZone_outside {f : Zone → Zone} (kept : (f v.arbiter.zones[z]).settings = v.arbiter.zones[z].settings) :
    (v.updateZone z f).outside = v.outside := by
  have settings : ∀ y : Fin 6, (v.updateZone z f).arbiter.zones[y].settings = v.arbiter.zones[y].settings := by
    intro y
    rw [State.updateZone_zones]
    split
    · rename_i same; subst same; exact kept
    · rfl
  simp only [State.outside, settings]
  rfl

theorem State.decideZone_outside : (v.decideZone z forced).outside = v.outside := by
  refine State.decideZone_induction (p := fun w => w.outside = v.outside) z forced
    (fun _ => ?_) (fun _ => ?_) (fun _ => ?_) (fun _ => ?_) fun _ => ?_
  · rw [State.grant_outside, State.haltZone, State.raiseIf_outside, State.count_outside]
    exact updateZone_outside v z rfl
  · rw [State.grant_outside]
    exact updateZone_outside v z rfl
  · rw [State.grant_outside, State.spendZone, State.raiseIf_outside]
    refine updateZone_outside v z ?_
    unfold Zone.spend
    split <;> rfl
  · rw [State.grant_outside]
    exact updateZone_outside v z rfl
  · exact updateZone_outside { v.orderSlice z false 0 with arbiter.zones := v.arbiter.zones } z
      (f := fun c => { c with state := .delivering, blockCount := v.nextBlockCount z }) rfl

/-- Only a halt is counted, under event 12 (R68, R185). -/
theorem State.decideZone_counters :
    (v.decideZone z forced).counters =
      if v.arbiter.zones[z].pendingEnd = .halt then (v.count .guardHalt).counters else v.counters := by
  refine State.decideZone_induction (p := fun w => w.counters = if v.arbiter.zones[z].pendingEnd = .halt then _ else _)
    z forced (fun halt => ?_) (fun disable => ?_) (fun none => ?_) (fun none => ?_) fun none => ?_
  · simp only [State.grant_frame, State.haltZone, State.raiseIf_frame, halt, if_true]
    rfl
  · rw [if_neg (by rw [disable]; decide)]; simp
  · rw [if_neg (by rw [none]; decide)]; simp
  · rw [if_neg (by rw [none]; decide)]; simp
  · rw [if_neg (by rw [none]; decide)]; rfl

end

end Sys2Proof.Machine
end

section
/-! PROOF. SLICE DONE credits the slice, counts it and decides the zone's next state (O38). -/

namespace Sys2Proof.Machine

set_option Elab.async false

/-! ### The choice at the end of the event -/

/-- What the choice at the end of an event and PRESS_READY's level leave of the state before them (R85, R91). -/
structure ChosenFrom (w t : State) : Prop where
  arbiter   : t.arbiter = w.arbiter
  quiet     : ConverterQuiet w t
  outside   : t.outside = w.outside
  recipes   : t.recipes = w.recipes
  readiness : t.cadence.readiness = w.cadence.readiness
  train     : TrainIs t w.tracker.train
  tracker   : t.tracker.line = w.tracker.line ∧ t.tracker.demand = w.tracker.demand

theorem State.chosenFrom (w before : State) : ChosenFrom w (w.chooseIfReported before).settle := by
  unfold State.chooseIfReported
  split
  · exact ⟨rfl, .same, rfl, rfl, rfl, rfl, rfl, rfl⟩
  · obtain ⟨-, recipes, arbiter, -, -, -, -, -, -, -, readiness, -, line, -, demand⟩ := w.choose_frame
    exact ⟨arbiter, w.choose_quiet.trans .same, w.choose_outside, recipes, readiness, w.choose_trainIs, line, demand⟩

theorem ChosenFrom.settings {w t : State} (h : ChosenFrom w t) : t.settings = w.settings :=
  (sameOutside_of_outside h.outside).1

theorem ChosenFrom.demandNow {w t : State} (h : ChosenFrom w t) (z : Fin 6) : t.demandNow z = w.demandNow z :=
  State.demandNow_of_trainIs z h.train h.tracker.1 h.recipes h.settings (by rw [h.arbiter])

/-! ### The channel of the zone after the decision -/

section
variable {u t : State} {z : Fin 6} {c : Zone}

theorem channel_of_granted (as : ArbiterAs (channelSet u z c).grant t) (unfit : c.eligible = false) :
    t.arbiter.zones[z] = c := by
  have own : (channelSet u z c).arbiter.zones[z] = c := by rw [channelSet_zones, if_pos rfl]
  rw [as.1, State.grant_unfit (by rw [own]; exact unfit), own]

theorem channel_of_paused (as : ArbiterAs (channelSet u z c).grant t) (paused : u.arbiter.pause = true) :
    t.arbiter.zones[z] = c := by
  have closed : (channelSet u z c).arbiter.mayGrant = false := by simp [Arbiter.mayGrant, channelSet, paused]
  rw [as.1, State.grant_closed _ closed, channelSet_zones, if_pos rfl]

end

theorem spentChannel_fields (c : Zone) :
    (spentChannel c).state = (if c.settings.reload then .spent else .off) ∧
    (spentChannel c).stopCode = .budgetSpent ∧ (spentChannel c).blockCount = 0 := by
  unfold spentChannel
  split <;> exact ⟨rfl, rfl, rfl⟩

theorem Zone.eligible_of_paused {c : Zone} (paused : c.paused = true) : c.eligible = false := by
  simp [Zone.eligible, paused]

theorem spentChannel_unfit (c : Zone) : (spentChannel c).eligible = false := by
  unfold spentChannel
  split <;> rfl

/-! ### The notices of the decision -/

theorem State.grant_isPending (s : State) (x : Source) : s.grant.isPending x = s.isPending x := by
  simp only [State.isPending, State.grant_frame]

section
variable {v : State} {z : Fin 6} {forced : Bool}

theorem State.decideZone_errorNotice (halt : v.arbiter.zones[z].pendingEnd = .halt)
    (notice : v.arbiter.zones[z].settings.errorNotice = true) :
    (v.decideZone z forced).isPending .zoneError = true := by
  rw [State.decideZone_halt halt, State.grant_isPending, State.haltZone, State.raiseIf, if_pos notice]
  exact State.raise_isPending _ _

theorem State.decideZone_endNotice (none : v.arbiter.zones[z].pendingEnd = .none)
    (spent : v.arbiter.zones[z].remaining = 0) (notice : v.arbiter.zones[z].settings.endNotice = true) :
    (v.decideZone z forced).isPending .zoneEnd = true := by
  rw [State.decideZone_spent none spent, State.grant_isPending, State.spendZone, State.raiseIf, if_pos notice]
  exact State.raise_isPending _ _

end

/-! ### What SLICE DONE leaves -/

theorem ZoneDecided.of_same {x : SliceRecord} {s u w t : State} (h : ZoneDecided x s u w) (arbiter : t.arbiter = w.arbiter)
    (messages : t.wires.convTx = w.wires.convTx) : ZoneDecided x s u t := by
  simpa only [ZoneDecided, ArbiterAs, arbiter, messages] using h

/-- A zone with a request that fills no block, and that no higher zone waits for, keeps the converter (R64, R65). -/
theorem not_grantEnds {x : SliceRecord} {s u : State} (running : s.arbiter.zones[x.zone].paused = false)
    (going : s.arbiter.pause = false) (normal : x.forced = false) (asks : u.arbiter.zones[x.zone].request = true)
    (mode : (s.arbiter.zones[x.zone].settings.mode = .block ∧
        s.arbiter.zones[x.zone].blockCount < s.arbiter.zones[x.zone].settings.actingBlockSize) ∨
      (s.arbiter.zones[x.zone].settings.mode = .burst ∧ ∀ y : Fin 6, rankOf s x.zone < rankOf s y →
        ¬ (s.arbiter.zones[y].state = .waiting ∧ s.arbiter.zones[y].paused = false))) : ¬ GrantEnds x s u := by
  rw [GrantEnds, running, going, normal, asks]
  rintro (h | h | h | h | step | ⟨block, full⟩ | ⟨burst, y, higher, waits⟩)
  iterate 4 cases h
  · rcases mode with ⟨is, -⟩ | ⟨is, -⟩ <;> rw [is] at step <;> cases step
  · rcases mode with ⟨-, room⟩ | ⟨is, -⟩
    · omega
    · rw [is] at block; cases block
  · rcases mode with ⟨is, -⟩ | ⟨-, clear⟩
    · rw [is] at burst; cases burst
    · exact clear y higher waits

/-- A state whose arbiter is decided, in the cases of R62, shows these channels of the zone (R62 to R66). -/
theorem ZoneDecided.channel {s t : State} {x : SliceRecord} {e : Nat} (decided : ZoneDecided x s (creditLeft s x e) t) :
    let c := s.arbiter.zones[x.zone]
    let d := t.arbiter.zones[x.zone]
    (c.pendingEnd = .halt →
      d.state = .halted ∧ d.stopCode = .guardHalt ∧ d.paused = false ∧ d.forced = false ∧
      d.pendingEnd = .none ∧ d.blockCount = 0) ∧
    (c.pendingEnd = .disable →
      d.state = .off ∧ d.stopCode = .disabled ∧ d.paused = false ∧ d.forced = false ∧
      d.pendingEnd = .none ∧ d.blockCount = 0) ∧
    (c.pendingEnd = .none → c.remaining ≤ 1 →
      d.state = (if c.settings.reload then .spent else .off) ∧ d.stopCode = .budgetSpent ∧ d.blockCount = 0) ∧
    (c.pendingEnd = .none → 1 < c.remaining → c.paused = true ∨ s.arbiter.pause = true →
      d.state = (if d.request ∨ c.forced then .waiting else .idle) ∧ d.blockCount = 0 ∧ d.paused = c.paused) ∧
    (c.pendingEnd = .none → 1 < c.remaining → ¬ GrantEnds x s (creditLeft s x e) → c.blockCount < 16 →
      d.state = .delivering ∧ d.blockCount = c.blockCount + 1 ∧
      t.arbiter.slice = some ⟨s.arbiter.sequence + 1, x.zone, min c.settings.setpoint s.settings.supplyCeiling, false⟩) := by
  obtain ⟨own, -⟩ := creditLeft_own s x e
  simp only [Prod.mk.injEq] at own
  obtain ⟨settings, -, paused, forced, -⟩ := own
  obtain ⟨halted, disabled, spent, ended, kept⟩ := decided
  dsimp only
  refine ⟨fun halt => ?_, fun disable => ?_, fun none last => ?_, fun none more pause => ?_, fun none more keeps room => ?_⟩
  · rw [channel_of_granted (halted halt) rfl]
    exact ⟨rfl, rfl, rfl, rfl, rfl, rfl⟩
  · rw [channel_of_granted (disabled disable) rfl]
    exact ⟨rfl, rfl, rfl, rfl, rfl, rfl⟩
  · rw [channel_of_granted (spent none last) (spentChannel_unfit _), ← settings]
    exact spentChannel_fields _
  · have as := ended none more (pause.elim (fun p => .inr (.inl p)) fun p => .inr (.inr (.inl p)))
    have channel : t.arbiter.zones[x.zone] = endedChannel (creditLeft s x e).arbiter.zones[x.zone] := by
      rcases pause with own | global
      · exact channel_of_granted as (Zone.eligible_of_paused (paused.trans own))
      · exact channel_of_paused as global
    rw [channel, ← forced, ← paused]
    exact ⟨rfl, rfl, rfl⟩
  · obtain ⟨n, -, next, arbiter, -⟩ := kept none more keeps
    rw [arbiter, ← next room, ← settings]
    refine ⟨?_, ?_, rfl⟩ <;> simp [sliceOrdered]

/-- What is left when the slice is closed and counted (R61). -/
theorem State.closedSlice_leaves (s : State) (x : SliceRecord) (e : Nat) :
    let v := (s.closeSlice x e).count .sliceCompleted
    v.grantView = (creditLeft s x e).grantView ∧ v.outside = s.outside ∧ Counted 10 1 s v ∧ Counted 12 0 s v ∧
    (x.zone = 5 → v.cadence.readiness = (creditLeft s x e).readinessNow) := by
  obtain ⟨r, close⟩ := s.closeSlice_cases x e
  have counters : (s.closeSlice x e).counters = s.counters := by simp
  refine ⟨by rw [close]; rfl, ?_, ?_, ?_, fun zone6 => ?_⟩
  · rw [State.count_outside, close]
    exact creditLeft_outside s x e
  · rw [close]
    exact State.count_counted { creditLeft s x e with cadence.readiness := r } .sliceCompleted
  · rw [close]
    exact State.count_other { creditLeft s x e with cadence.readiness := r } (by decide)
  · rw [State.closeSlice_eq, if_pos zone6]
    rfl

/-- What the decision and the end of the event add to the counts of a closed slice (R61, R62, R68). -/
theorem State.sliceDone_counted {s v t : State} {z : Fin 6} {forced : Bool}
    (completed : Counted 10 1 s v) (unhalted : Counted 12 0 s v)
    (selection : ∀ k : Fin 4, v.counters[k].selection = s.counters[k].selection)
    (quiet : ConverterQuiet (v.decideZone z forced) t) :
    Counted 10 1 s t ∧ Counted 12 (if v.arbiter.zones[z].pendingEnd = .halt then 1 else 0) s t := by
  have decided := v.decideZone_counters z forced
  have selected : ∀ k : Fin 4, (v.decideZone z forced).counters[k].selection = s.counters[k].selection := by
    intro k
    rw [decided]
    split
    · exact (v.count_selection .guardHalt k k.isLt).trans (selection k)
    · exact selection k
  have late := quiet.counted
  split at decided
  · rename_i halt
    have slices : Counted 10 0 v (v.decideZone z forced) := by
      rw [Counted, decided]; exact v.count_other (by decide)
    have halts : Counted 12 1 v (v.decideZone z forced) := by
      rw [Counted, decided]; exact v.count_counted .guardHalt
    rw [if_pos halt]
    exact ⟨(completed.trans slices selection).trans (late 10 (by decide)) selected,
      (unhalted.trans halts selection).trans (late 12 (by decide)) selected⟩
  · rename_i goes
    rw [if_neg goes]
    exact ⟨(completed.trans (.same decided) selection).trans (late 10 (by decide)) selected,
      (unhalted.trans (.same decided) selection).trans (late 12 (by decide)) selected⟩

/-- The credit exchange leaves the demand flag of its zone up to date, and touches no other (R39, R61). -/
theorem creditLeft_demand (s : State) (x : SliceRecord) (e : Nat) :
    (creditLeft s x e).tracker.demand = s.tracker.demand.set x.zone ((creditLeft s x e).demandNow x.zone) := by
  obtain ⟨own, -⟩ := creditLeft_own s x e
  simp only [Prod.mk.injEq] at own
  have credited : (creditLeft s x e).demandNow x.zone =
      State.demandNow { s with tracker.train := creditedTrain s x.zone e } x.zone :=
    State.demandNow_congr x.zone rfl rfl rfl rfl own.1
  rw [credited]
  rfl

/-- What SLICE DONE leaves: the slice closed, the zone's next state decided, and the choice made (R61, R62, R91). -/
theorem State.sliceDone_leaves (s : State) (x : SliceRecord) (e : Nat) :
    SliceDoneLeaves x e s
      (((((s.closeSlice x e).count .sliceCompleted).decideZone x.zone x.forced).chooseIfReported s).settle) := by
  let u := creditLeft s x e
  let v := (s.closeSlice x e).count .sliceCompleted
  let w := v.decideZone x.zone x.forced
  let t := (w.chooseIfReported s).settle
  obtain ⟨view, outside, completed, unhalted, ready⟩ := s.closedSlice_leaves x e
  have chosen : ChosenFrom w t := w.chosenFrom s
  have arbiter : v.arbiter = u.arbiter := congrArg Prod.fst view
  have tracker : w.tracker = u.tracker :=
    (by simp [w] : w.tracker = v.tracker).trans (congrArg (fun view => view.2.1) view)
  have recipes : w.recipes = s.recipes := by simp [w, v]
  have settings : w.settings = s.settings := by simp [w, v]
  obtain ⟨-, -, -, -, -, -, selection, -, zoneSettings⟩ := sameOutside_of_outside outside
  have outsideT : t.outside = s.outside := chosen.outside.trans ((v.decideZone_outside _ _).trans outside)
  have account : ∀ y : Fin 6, t.arbiter.zones[y].account = u.arbiter.zones[y].account := fun y => by
    rw [chosen.arbiter, ← arbiter]; exact v.decideZone_account x.zone x.forced y
  simp only [Zone.account, Prod.mk.injEq] at account
  have demand : t.demandNow x.zone = u.demandNow x.zone := by
    obtain ⟨kept, -⟩ := account x.zone
    rw [chosen.arbiter] at kept
    exact (chosen.demandNow x.zone).trans
      (State.demandNow_congr x.zone (by rw [tracker]) (by rw [tracker]) recipes settings kept)
  have readiness : t.readinessNow = u.readinessNow :=
    State.readinessNow_of_trainIs (chosen.train.trans (by rw [tracker])) (chosen.recipes.trans recipes)
  have decided : ZoneDecided x s u t :=
    (State.decideZone_decided view).of_same chosen.arbiter chosen.quiet.messages
  obtain ⟨own, remaining⟩ := creditLeft_own s x e
  simp only [Prod.mk.injEq] at own
  obtain ⟨-, pending, -⟩ := own
  rw [← arbiter] at pending remaining
  obtain ⟨counted10, counted12⟩ := State.sliceDone_counted completed unhalted selection chosen.quiet
  obtain ⟨counts, others⟩ := sliceCounted_of_tally (creditLeft_counted s x e) fun y => (account y).2.2
  obtain ⟨halted, disabled, spent, paused, kept⟩ := decided.channel
  rw [show v.arbiter.zones[x.zone].pendingEnd = s.arbiter.zones[x.zone].pendingEnd from pending] at counted12
  refine ⟨chosen.train.trans (by rw [tracker]; rfl), counts, others, ?_, ?_, fun zone6 => ?_, ?_,
    sameOutside_of_outside outsideT, chosen.recipes.trans recipes, counted10, counted12, decided,
    fun halt => ?_, disabled, fun none last => ?_, paused, fun none more run global normal asks room mode => ?_⟩
  · show t.tracker.demand = s.tracker.demand.set x.zone (t.demandNow x.zone)
    rw [chosen.tracker.2, tracker, demand]
    exact creditLeft_demand s x e
  · show t.arbiter.zones[x.zone].request = t.demandNow x.zone
    have request : u.arbiter.zones[x.zone].request = u.demandNow x.zone := by
      rw [creditLeft_zones, if_pos rfl, creditLeft_demand]
      exact Vector.getElem_set_self _
    obtain ⟨-, same, -⟩ := account x.zone
    rw [same, request, demand]
  · show t.cadence.readiness = t.readinessNow
    rw [chosen.readiness, readiness, ← ready zone6]
    simp [w, v]
  · show NoGrantDue t
    rw [NoGrantDue, chosen.arbiter]
    exact v.decideZone_noGrantDue _ _
  · obtain ⟨state, code, running, due, stop, count⟩ := halted halt
    refine ⟨state, code, running, due, stop, count, fun notice => chosen.quiet.sources _ ?_⟩
    exact State.decideZone_errorNotice (pending.trans halt) ((congrArg _ (zoneSettings x.zone)).trans notice)
  · obtain ⟨state, code, count⟩ := spent none last
    refine ⟨state, code, count, fun notice => chosen.quiet.sources _ ?_⟩
    exact State.decideZone_endNotice (pending.trans none) (by omega)
      ((congrArg _ (zoneSettings x.zone)).trans notice)
  · obtain ⟨-, same, -⟩ := account x.zone
    exact kept none more (not_grantEnds run global normal (same.symm.trans asks) mode) room

/-- Settles O38: the report of the slice in flight closes it and decides; any other is ignored. -/
theorem sliceDoneCreditsAndDecides : Obligations.SliceDoneCreditsAndDecides := by
  refine fun s sequence energy => ⟨fun x flight same => ?_, fun other => ?_⟩
  · refine ⟨_, ?_, s.sliceDone_leaves x (min energy x.eset)⟩
    show Host.Outcome.next (sliceDone sequence energy s) = _
    rw [sliceDone, State.matched_eq_some_iff.2 ⟨flight, same⟩]
  · show Host.Outcome.next (sliceDone sequence energy s) = _
    rw [sliceDone, State.matched_eq_none other]

end Sys2Proof.Machine
end

section
/-! SUPPORT. What the laws of the line read of the state, and the shared operations that leave it alone (O55). -/

namespace Sys2Proof.Machine

set_option Elab.async false

/-! ### The line as a view of the state -/

/-- What the laws of the line read, but for the exit verdict and the level of PRESS_READY: line state, causes, call, cold
wait, the operation with its timer and outputs, the purge step, and the line state known to the tracker. -/
def State.handling (s : State) :=
  (s.cadence.line, s.cadence.held, s.cadence.pendingCall, s.cadence.coldWait, s.cadence.operation,
    s.cadence.handlingTimer.isSome, s.cadence.purgeStep, s.tracker.line,
    (s.pins.push, s.pins.skip, s.pins.extract, s.pins.divert))

/-- All that the laws of the line read. -/
def State.lineShown (s : State) := (s.handling, s.cadence.exitVerdict, s.pins.pressReady)

/-- The laws of the line but those of the causes, of PRESS_READY and of a purge. -/
structure State.Handled (s : State) : Prop where
  call    : CallOnlyInRun s
  wait    : ColdWaitOnlyInRun s
  known   : LineKnown s
  outputs : OutputsFollow s
  step    : s.cadence.purgeStep ≤ 13

/-- The laws of the line but PRESS_READY's and those of a purge, which stand in the midst of a command too. -/
structure State.Poised (s : State) : Prop extends s.Handled where
  causes  : CausesDecideHold s

/-- A purge in progress stands at a step, with its divert or its gap push in flight (R111, R112). -/
def State.PurgeRuns (s : State) : Prop :=
  s.cadence.line = .purging → 1 ≤ s.cadence.purgeStep ∧
    (s.cadence.operation = some .divert ∨ s.cadence.operation = some (.push none))

theorem lineLaws_iff (s : State) : LineLaws s ↔ s.Poised ∧ s.PurgeRuns ∧ PressReadyFollows s := by
  constructor
  · rintro ⟨causes, call, wait, known, ready, outputs, top, purge⟩
    exact ⟨⟨⟨call, wait, known, outputs, top⟩, causes⟩, purge, ready⟩
  · rintro ⟨⟨⟨call, wait, known, outputs, top⟩, causes⟩, purge, ready⟩
    exact ⟨causes, call, wait, known, ready, outputs, top, purge⟩

theorem State.Poised.of_handling {s t : State} (h : s.Poised) (same : t.handling = s.handling) : t.Poised := by
  simp only [State.handling, Prod.mk.injEq] at same
  obtain ⟨line, held, call, wait, operation, timer, step, known, push, skip, extract, divert⟩ := same
  refine ⟨⟨?_, ?_, ?_, ?_, ?_⟩, ?_⟩
  · rw [CallOnlyInRun, line, call]; exact h.call
  · rw [ColdWaitOnlyInRun, line, wait]; exact h.wait
  · rw [LineKnown, line, known]; exact h.known
  · rw [OutputsFollow, timer, operation, push, skip, extract, divert]; exact h.outputs
  · rw [step]; exact h.step
  · rw [CausesDecideHold, line, held]; exact h.causes

theorem State.PurgeRuns.of_handling {s t : State} (h : s.PurgeRuns) (same : t.handling = s.handling) : t.PurgeRuns := by
  simp only [State.handling, Prod.mk.injEq] at same
  obtain ⟨line, -, -, -, operation, -, step, -⟩ := same
  rw [State.PurgeRuns, line, operation, step]
  exact h

theorem State.purgeRuns_of_other {s : State} (other : s.cadence.line ≠ .purging) : s.PurgeRuns :=
  fun purging => absurd purging other

theorem State.handling_of_lineShown {s t : State} (same : t.lineShown = s.lineShown) : t.handling = s.handling :=
  congrArg Prod.fst same

/-- The laws of the line are laws of the view. -/
theorem lineLaws_of_lineShown {s t : State} (h : LineLaws s) (same : t.lineShown = s.lineShown) : LineLaws t := by
  obtain ⟨poised, runs, ready⟩ := (lineLaws_iff s).1 h
  have handling := State.handling_of_lineShown same
  refine (lineLaws_iff t).2 ⟨poised.of_handling handling, runs.of_handling handling, ?_⟩
  simp only [State.lineShown, State.handling, Prod.mk.injEq] at same
  obtain ⟨⟨line, -, -, -, operation, -⟩, exit, level⟩ := same
  rw [PressReadyFollows, Cadence.pressReadyLevel, level, line, exit, operation]
  exact ready

/-- At the end of an event PRESS_READY stands at its level (R85). -/
theorem State.Poised.settle {s : State} (h : s.Poised) (runs : s.PurgeRuns) : LineLaws s.settle :=
  (lineLaws_iff _).2 ⟨h.of_handling rfl, runs.of_handling rfl, rfl⟩

/-! ### Operations that leave the line alone -/

variable (s : State)

@[simp] theorem State.raiseIf_lineShown (b : Bool) (x : Source) : (s.raiseIf b x).lineShown = s.lineShown := by
  unfold State.raiseIf
  split <;> rfl

@[simp] theorem State.evaluateZone_lineShown (z : Fin 6) : (s.evaluateZone z).lineShown = s.lineShown := by
  simp [State.lineShown, State.handling]

@[simp] theorem State.evaluateAll_lineShown : s.evaluateAll.lineShown = s.lineShown := by
  simp [State.lineShown, State.handling]

@[simp] theorem State.grant_lineShown : s.grant.lineShown = s.lineShown := by
  simp [State.lineShown, State.handling]

@[simp] theorem State.updateExit_lineShown (f : BilletRecord → BilletRecord) :
    (s.updateExit f).lineShown = s.lineShown := by
  simp [State.lineShown, State.handling]

theorem State.batch_lineShown (order : BilletOrder) : (s.batch order).lineShown = s.lineShown := by
  unfold State.batch State.raiseOrderDone
  dsimp only
  split <;> split <;> split <;> rfl

theorem State.afterRetirement_lineShown (order : BilletOrder) (v : OrderVerdict) :
    (s.afterRetirement order v).lineShown = s.lineShown := by
  have counted : (s.countRetirement v).lineShown = s.lineShown := by
    unfold State.countRetirement
    split <;> rfl
  unfold State.afterRetirement
  dsimp only
  split
  · exact counted
  · exact (State.batch_lineShown _ _).trans counted

theorem State.retire_lineShown (slot : Fin 64) (status : StatusRecord) :
    (s.retire slot status).lineShown = s.lineShown := by
  unfold State.retire
  split
  iterate 3 exact State.afterRetirement_lineShown _ _ _
  all_goals rfl

theorem State.skipHeads_lineShown (n : Nat) : (s.skipHeads n).lineShown = s.lineShown := by
  induction n generalizing s with
  | zero => rfl
  | succ n ih =>
    unfold State.skipHeads
    split
    · split
      · exact (ih _).trans (s.retire_lineShown _ _)
      · rfl
    all_goals rfl

theorem State.loadDecision_lineShown : s.loadDecision.1.lineShown = s.lineShown := by
  have skipped := s.skipHeads_lineShown s.ring.queued
  unfold State.loadDecision
  split
  · rfl
  dsimp only
  split
  · exact (State.raiseIf_lineShown _ _ _).trans skipped
  · exact (State.raiseIf_lineShown _ _ _).trans skipped

theorem State.withdrawNewest_lineShown (n : Nat) : (s.withdrawNewest n).1.lineShown = s.lineShown := by
  obtain ⟨ring, recipes, h⟩ := s.withdrawNewest_frame n
  rw [h]; rfl

theorem State.reclaimOldest_lineShown (n : Nat) : (s.reclaimOldest n).1.lineShown = s.lineShown := by
  obtain ⟨ring, h⟩ := s.reclaimOldest_frame n
  rw [h]; rfl

theorem State.giveUp_lineShown (i : Fin 32) (cause : Cause) : (s.giveUp i cause).lineShown = s.lineShown := by
  unfold State.giveUp
  split
  · split <;> rfl
  · rfl

theorem State.handOnTrim_lineShown (i : Fin 32) (e : Entry) : (s.handOnTrim i e).lineShown = s.lineShown := by
  unfold State.handOnTrim
  split
  · rfl
  · split <;> rfl

theorem State.learnFrom_lineShown (r : BilletRecord) (residual : Int) (width : Nat) :
    (s.learnFrom r residual width).lineShown = s.lineShown := by
  have learned : ∀ i, (s.learn i residual width).lineShown = s.lineShown := by
    intro i
    unfold State.learn
    split
    · rfl
    dsimp only
    split
    · rfl
    · rw [State.grant_lineShown, State.evaluateAll_lineShown, State.handOnTrim_lineShown]
  unfold State.learnFrom
  split
  · split
    · rfl
    · exact learned _
  · rfl

theorem State.lookup_lineShown {k : Key} {found : Lookup} (h : s.lookup k = some found) :
    found.after.lineShown = s.lineShown := by
  unfold State.lookup at h
  split at h
  · cases h; rfl
  split at h
  · cases h; rfl
  split at h
  · cases h; rfl
  split at h
  · cases h
  split at h
  · cases h; exact s.giveUp_lineShown _ _
  · cases h

theorem State.sweep_lineShown : s.sweep.1.lineShown = s.lineShown := by
  have entry : ∀ (x : State × Nat × Nat) (i : Fin 32), (sweepEntry x i).1.lineShown = x.1.lineShown := by
    intro x i
    unfold sweepEntry
    dsimp only
    split
    · rfl
    split
    · rfl
    split
    · rfl
    · exact State.giveUp_lineShown _ _ _
  exact List.foldlRecOn (motive := fun x : State × Nat × Nat => x.1.lineShown = s.lineShown) (List.finRange 32)
    sweepEntry rfl fun x h i _ => (entry x i).trans h

theorem State.decideZone_lineShown (z : Fin 6) (forced : Bool) : (s.decideZone z forced).lineShown = s.lineShown :=
  State.decideZone_induction (p := fun t => t.lineShown = s.lineShown) (v := s) z forced
    (fun _ => (State.grant_lineShown _).trans (State.raiseIf_lineShown _ _ _))
    (fun _ => State.grant_lineShown _)
    (fun _ => (State.grant_lineShown _).trans (State.raiseIf_lineShown _ _ _))
    (fun _ => State.grant_lineShown _) fun _ => rfl

theorem State.closeSlice_lineShown (x : SliceRecord) (e : Nat) : (s.closeSlice x e).lineShown = s.lineShown := by
  obtain ⟨r, h⟩ := s.closeSlice_cases x e
  rw [h]; rfl

theorem State.loseSupply_lineShown (energy : SliceRecord → Nat) : (s.loseSupply energy).lineShown = s.lineShown := by
  unfold State.loseSupply
  dsimp only
  split
  · exact s.closeSlice_lineShown _ _
  · rfl

theorem State.columnPushed_lineShown (loaded : Option (Fin 64)) : (s.columnPushed loaded).lineShown = s.lineShown := by
  have bound : ∀ (t : State) (slot : Fin 64), (t.bindOrder slot).lineShown = t.lineShown := by
    intro t slot
    unfold State.bindOrder
    split
    · dsimp only
      split <;> rfl
    · rfl
  have surveyed : ∀ (t : State) (b : Bool), (t.startSurvey b).lineShown = t.lineShown := by
    intro t b
    unfold State.startSurvey
    split <;> rfl
  cases loaded with
  | none => exact surveyed s.advanceTrain _
  | some slot => exact (surveyed (s.advanceTrain.bindOrder slot) _).trans (bound s.advanceTrain slot)

end Sys2Proof.Machine
end

section
/-! SUPPORT. What a change of line state leaves of the cadence unit, the pins, the sources and the train (O10 to O14, O47 to
O49, O55). -/

namespace Sys2Proof.Machine

set_option Elab.async false

/-! ### The pending call (R88) -/

theorem State.declinePending_cadence (s : State) :
    s.declinePending.cadence = { s.cadence with pendingCall := false } := by
  unfold State.declinePending
  split
  · rfl
  · rename_i none
    rw [← Bool.eq_false_iff.2 none]

/-- A decline moves no level but ALERT. -/
theorem State.declinePending_pins (s : State) :
    s.declinePending.pins = { s.pins with alert := s.declinePending.pins.alert } := by
  unfold State.declinePending
  split <;> rfl

theorem State.declinePending_pulses (s : State) :
    s.declinePending.wires.declinePulses = s.wires.declinePulses + if s.cadence.pendingCall = true then 1 else 0 := by
  unfold State.declinePending
  split
  · rfl
  · rfl

@[simp] theorem State.declinePending_frame (s : State) :
    s.declinePending.port = s.port ∧ s.declinePending.ring = s.ring ∧ s.declinePending.recipes = s.recipes ∧
    s.declinePending.tracker = s.tracker ∧ s.declinePending.arbiter = s.arbiter ∧
    s.declinePending.settings = s.settings ∧ s.declinePending.reply = s.reply ∧
    s.declinePending.pending = s.pending ∧ s.declinePending.attention.enabled = s.attention.enabled := by
  unfold State.declinePending
  split <;> exact ⟨rfl, rfl, rfl, rfl, rfl, rfl, rfl, rfl, rfl⟩

/-! ### Steps 1 to 4 of a change of line state (R75) -/

/-- A change of line state out of RUN declines the pending call and stops the cold wait (R75, R88, R93). -/
theorem State.moveLine_of_run {s : State} (run : s.cadence.line = .run) (new : LineState) :
    s.moveLine new = (s.noticed new).declinePending.stopColdWait.settle.raiseIf new.announced .line := by
  unfold State.moveLine
  dsimp only
  rw [if_pos run]
  rfl

theorem State.moveLine_of_other {s : State} (other : s.cadence.line ≠ .run) (new : LineState) :
    s.moveLine new = (s.noticed new).settle.raiseIf new.announced .line := by
  unfold State.moveLine
  dsimp only
  rw [if_neg other]
  rfl

/-- The notice leaves the cadence unit but for the line state and what the tracker reports (R75). -/
theorem State.noticed_cadence (s : State) (new : LineState) :
    (s.noticed new).cadence = { s.cadence with
      line := new
      exitVerdict := (s.noticed new).cadence.exitVerdict
      readiness := (s.noticed new).cadence.readiness } := by
  obtain ⟨-, -, -, -, -, -, -, -, -, -, -, v, x, cadence⟩ := State.notice_frame { s with cadence.line := new } new
  rw [State.noticed, cadence]

theorem State.noticed_pins (s : State) (new : LineState) :
    (s.noticed new).pins = s.pins ∧ (s.noticed new).attention = s.attention ∧
    (s.noticed new).counters = s.counters ∧ (s.noticed new).ring = s.ring := by
  obtain ⟨-, ring, -, attention, counters, -, pins, -⟩ := State.notice_frame { s with cadence.line := new } new
  exact ⟨pins, attention, counters, ring⟩

theorem State.noticed_pulses (s : State) (new : LineState) :
    (s.noticed new).wires.skipPulses = s.wires.skipPulses ∧
    (s.noticed new).wires.declinePulses = s.wires.declinePulses := by
  unfold State.noticed State.notice
  dsimp only
  simp [State.recheckExit]

theorem State.raiseIf_pins (s : State) (b : Bool) (x : Source) :
    (s.raiseIf b x).pins = { s.pins with alert := (s.raiseIf b x).pins.alert } := by
  unfold State.raiseIf
  split <;> rfl

/-- The cadence unit after steps 1 to 4: no call and no cold wait is left of RUN, the tracker's reports are taken, and the
rest stands (R75, R88, R93). -/
theorem State.moveLine_cadence (s : State) (new : LineState) :
    (s.moveLine new).cadence = { s.cadence with
      line := new
      pendingCall := if s.cadence.line = .run then false else s.cadence.pendingCall
      coldWait := if s.cadence.line = .run then .stopped else s.cadence.coldWait
      exitVerdict := (s.moveLine new).cadence.exitVerdict
      readiness := (s.moveLine new).cadence.readiness } := by
  have noticed := s.noticed_cadence new
  by_cases run : s.cadence.line = .run
  · rw [State.moveLine_of_run run, if_pos run, if_pos run]
    simp only [State.raiseIf_frame, State.settle_frame]
    rw [show (s.noticed new).declinePending.stopColdWait.cadence =
      { (s.noticed new).declinePending.cadence with coldWait := .stopped } from rfl, State.declinePending_cadence]
    generalize s.noticed new = n at *
    rw [noticed]
  · rw [State.moveLine_of_other run, if_neg run, if_neg run]
    simp only [State.raiseIf_frame, State.settle_frame]
    exact noticed

/-- What the tracker has reported to the cadence unit stands through steps 2 to 4 (R75). -/
theorem State.moveLine_reports (s : State) (new : LineState) :
    (s.moveLine new).cadence.exitVerdict = (s.noticed new).cadence.exitVerdict ∧
    (s.moveLine new).cadence.readiness = (s.noticed new).cadence.readiness := by
  by_cases run : s.cadence.line = .run
  · rw [State.moveLine_of_run run]
    simp only [State.raiseIf_frame, State.settle_frame]
    rw [show (s.noticed new).declinePending.stopColdWait.cadence =
      { (s.noticed new).declinePending.cadence with coldWait := .stopped } from rfl, State.declinePending_cadence]
    exact ⟨rfl, rfl⟩
  · rw [State.moveLine_of_other run]
    simp only [State.raiseIf_frame, State.settle_frame, and_self]

/-- Of the pins a change of line state moves PRESS_READY, to its level, and ALERT at most (R75, R85). -/
theorem State.moveLine_pins (s : State) (new : LineState) :
    (s.moveLine new).pins = { s.pins with
      pressReady := (s.moveLine new).cadence.pressReadyLevel, alert := (s.moveLine new).pins.alert } := by
  have settled : ∀ t : State, (t.settle.raiseIf new.announced .line).pins =
      { t.pins with
        pressReady := (t.settle.raiseIf new.announced .line).cadence.pressReadyLevel
        alert := (t.settle.raiseIf new.announced .line).pins.alert } := by
    intro t
    rw [State.raiseIf_pins]
    simp only [State.raiseIf_frame]
    rfl
  obtain ⟨pins, -⟩ := s.noticed_pins new
  by_cases run : s.cadence.line = .run
  · rw [State.moveLine_of_run run, settled]
    rw [show (s.noticed new).declinePending.stopColdWait.pins = (s.noticed new).declinePending.pins from rfl,
      State.declinePending_pins, pins]
  · rw [State.moveLine_of_other run, settled, pins]

/-- A pending call is declined on the way out of RUN, and no skip pulse is given (R88). -/
theorem State.moveLine_pulses (s : State) (new : LineState) :
    (s.moveLine new).wires.skipPulses = s.wires.skipPulses ∧
    (s.moveLine new).wires.declinePulses = s.wires.declinePulses +
      if s.cadence.line = .run ∧ s.cadence.pendingCall = true then 1 else 0 := by
  obtain ⟨skips, declines⟩ := s.noticed_pulses new
  have call : (s.noticed new).cadence.pendingCall = s.cadence.pendingCall := by rw [s.noticed_cadence new]
  have skipped : ∀ t : State, t.declinePending.wires.skipPulses = t.wires.skipPulses := by
    intro t
    unfold State.declinePending
    split <;> rfl
  by_cases run : s.cadence.line = .run
  · rw [State.moveLine_of_run run]
    simp only [State.raiseIf_frame, State.settle_frame, State.stopColdWait_frame, State.declinePending_pulses, skipped,
      skips, declines, call, run, true_and]
  · rw [State.moveLine_of_other run]
    simp only [State.raiseIf_frame, State.settle_frame, skips, declines, run, false_and, if_false, Nat.add_zero, and_self]

/-- The entry to HOLD, FAULTED or STOPPED raises LINE (R75 step 4). -/
theorem State.moveLine_announces (s : State) {new : LineState} (announced : new.announced = true) :
    (s.moveLine new).isPending .line = true := by
  have raised : ∀ t : State, (t.raiseIf new.announced .line).isPending .line = true := by
    intro t
    rw [State.raiseIf, if_pos announced]
    exact t.raise_isPending _
  by_cases run : s.cadence.line = .run
  · rw [State.moveLine_of_run run]; exact raised _
  · rw [State.moveLine_of_other run]; exact raised _

/-! ### What demand and readiness do not read -/

/-- A record without its verdict and its extraction mark, which neither demand nor readiness reads. -/
def bare (r : BilletRecord) : BilletRecord := { r with verdict := .none, extracting := false }

/-- The state with every record of the train bare. -/
def State.bareTrain (s : State) : State := { s with tracker.train := s.tracker.train.map bare }

theorem State.bareTrain_demandNow (s : State) (z : Fin 6) : s.bareTrain.demandNow z = s.demandNow z := by
  have occupants : s.bareTrain.tracker.occupants z = (s.tracker.occupants z).map bare := by
    simp only [Tracker.occupants, State.bareTrain, List.filter_map]
    rfl
  simp only [State.demandNow, State.guardQuery, occupants, List.any_map]
  rfl

/-- Demand is the same in two states whose trains differ in verdicts and extraction marks alone (R35). -/
theorem State.demandNow_of_bare {s t : State} (z : Fin 6)
    (train : t.tracker.train.map bare = s.tracker.train.map bare) (line : t.tracker.line = s.tracker.line)
    (recipes : t.recipes = s.recipes) (settings : t.settings = s.settings)
    (zone : t.arbiter.zones[z].settings = s.arbiter.zones[z].settings) : t.demandNow z = s.demandNow z := by
  rw [← s.bareTrain_demandNow, ← t.bareTrain_demandNow]
  exact State.demandNow_congr z train line recipes settings zone

/-! ### A state whose tracker has reported -/

/-- Every demand flag is up to date, no grant is left due, and the cadence unit knows the exit verdict and the readiness
of position 11 (R22, R25, R36, R56). -/
structure State.Reported (s : State) : Prop where
  demand    : DemandEvaluated s
  granted   : NoGrantDue s
  exit      : ExitKnown s
  readiness : ReadinessKnown s

/-- Reports made stand in a state with the same tracker, arbiter, recipes and settings. -/
theorem State.Reported.of_same {s t : State} (h : s.Reported) (tracker : t.tracker = s.tracker)
    (arbiter : t.arbiter = s.arbiter) (recipes : t.recipes = s.recipes) (settings : t.settings = s.settings)
    (exit : t.cadence.exitVerdict = s.cadence.exitVerdict) (readiness : t.cadence.readiness = s.cadence.readiness) :
    t.Reported := by
  refine ⟨fun z => ?_, ?_, ?_, ?_⟩
  · rw [State.demandNow_congr (s := s) z (by rw [tracker]) (by rw [tracker]) recipes settings (by rw [arbiter]), tracker]
    exact h.demand z
  · rw [NoGrantDue, arbiter]; exact h.granted
  · rw [ExitKnown, tracker, exit]; exact h.exit
  · have body : t.bodyOf = s.bodyOf := by funext r; simp [State.bodyOf, recipes]
    rw [ReadinessKnown, readiness, h.readiness]
    simp only [State.readinessNow, tracker, body]

theorem State.Reported.settle {s : State} (h : s.Reported) : s.settle.Reported := h.of_same rfl rfl rfl rfl rfl rfl

/-- The choice makes reported what was reported: it touches an extraction mark of the train at most. -/
theorem State.Reported.choose {s : State} (h : s.Reported) : s.choose.Reported := by
  obtain ⟨-, recipes, arbiter, -, -, -, -, -, -, exit, readiness, -⟩ := s.choose_frame
  refine ⟨State.choose_demandEvaluated h.demand, ?_, ?_, ?_⟩
  · rw [NoGrantDue, arbiter]; exact h.granted
  · exact exit.trans (h.exit.trans (State.exitVerdict_of_trainIs s.choose_trainIs).symm)
  · exact readiness.trans (h.readiness.trans (State.readinessNow_of_trainIs s.choose_trainIs recipes).symm)

/-- Readiness reported, with the exit's verdict known and all demand up to date, the grant is made: all is reported. -/
theorem State.reportReadiness_grant_reported {s : State} (demand : DemandEvaluated s) (exit : ExitKnown s) :
    s.reportReadiness.grant.Reported := by
  have evaluated : DemandEvaluated s.reportReadiness := fun z => by
    rw [State.demandNow_congr (s := s) (t := s.reportReadiness) z rfl rfl rfl rfl rfl]
    exact demand z
  have body : s.reportReadiness.grant.bodyOf = s.bodyOf := by funext r; simp [State.bodyOf]
  refine ⟨State.grant_demandEvaluated evaluated, State.grant_noGrantDue _, ?_, ?_⟩
  · simp only [ExitKnown, State.grant_frame]
    exact exit
  · simp only [ReadinessKnown, State.readinessNow, State.grant_frame, body]
    rfl

/-- The re-check at the exit leaves demand up to date, and the verdict known (R24). -/
theorem State.recheckExit_reported {s : State} (demand : DemandEvaluated s) :
    DemandEvaluated s.recheckExit ∧ ExitKnown s.recheckExit := by
  refine ⟨fun z => ?_, rfl⟩
  have frame : s.recheckExit.recipes = s.recipes ∧ s.recheckExit.settings = s.settings ∧
      s.recheckExit.arbiter = s.arbiter ∧ s.recheckExit.tracker.line = s.tracker.line ∧
      s.recheckExit.tracker.demand = s.tracker.demand := by
    simp [State.recheckExit]
  obtain ⟨recipes, settings, arbiter, line, flags⟩ := frame
  rw [State.demandNow_of_bare z (s.recheckExit_map (f := bare) fun _ _ => rfl) line recipes settings (by rw [arbiter]),
    flags]
  exact demand z

/-- The state in which a change of line state has been taken, with every record updated before (R10, R20). -/
def State.lineTaken (s : State) (new : LineState) : State :=
  { s.updateTrain with
    cadence.line := new
    tracker.line := new
    tracker.readingTimer := if new = LineState.purging then none else s.tracker.readingTimer }

theorem State.noticed_eq (s : State) (new : LineState) :
    s.noticed new = (s.lineTaken new).evaluateAll.recheckExit.reportReadiness.grant := rfl

/-- The tracker's notice of a change of line state ends in its reports and a grant (R10). -/
theorem State.noticed_reported (s : State) (new : LineState) : (s.noticed new).Reported := by
  obtain ⟨demand, exit⟩ := State.recheckExit_reported (s.lineTaken new).evaluateAll_demandEvaluated
  exact State.reportReadiness_grant_reported demand exit

/-- A grant leaves a slice in flight that the state before it has. -/
theorem sliceKept_grant {s t : State} (slice : t.arbiter.slice = s.arbiter.slice)
    (timer : t.arbiter.sliceTimer = s.arbiter.sliceTimer) : SliceKept s t.grant := by
  have kept := t.grant_sliceKept
  rw [SliceKept, slice, timer] at kept
  exact kept

theorem State.noticed_sliceKept (s : State) (new : LineState) : SliceKept s (s.noticed new) := by
  have arbiter : (s.lineTaken new).evaluateAll.recheckExit.reportReadiness.arbiter =
      (s.lineTaken new).evaluateAll.arbiter := by simp [State.recheckExit]
  obtain ⟨-, -, -, -, slice, timer⟩ := (s.lineTaken new).evaluateAll_global
  rw [State.noticed_eq]
  refine sliceKept_grant ?_ ?_
  · rw [arbiter]; exact slice
  · rw [arbiter]; exact timer

/-- Steps 1 to 4 of a change of line state leave all reported, and a slice in flight in flight (R75, R82). -/
theorem State.moveLine_reported (s : State) (new : LineState) :
    (s.moveLine new).Reported ∧ SliceKept s (s.moveLine new) := by
  obtain ⟨tracker, arbiter, -⟩ := s.moveLine_noticed new
  obtain ⟨-, -, recipes, settings, -⟩ := s.moveLine_frame new
  obtain ⟨-, -, recipes', -, -, settings', -⟩ := State.notice_frame { s with cadence.line := new } new
  obtain ⟨exit, readiness⟩ := s.moveLine_reports new
  refine ⟨(s.noticed_reported new).of_same tracker arbiter (recipes.trans recipes'.symm)
    (settings.trans settings'.symm) exit readiness, ?_⟩
  · rw [SliceKept, arbiter]
    exact s.noticed_sliceKept new

/-- Outside RUN and HOLD no zone has demand (R35, R43). -/
theorem State.Reported.noDemand {s : State} (h : s.Reported) (cold : s.tracker.line.heats = false) : NoDemand s := by
  intro z
  rw [h.demand z, State.demandNow, cold]
  rfl

/-- A change of line state moves no billet (R10). -/
theorem State.moveLine_sameBillets (s : State) (new : LineState) : SameBillets s (s.moveLine new) := by
  refine (s.moveLine_map new (f := billetOf) fun _ _ => rfl).trans ?_
  rw [List.map_map]
  exact List.map_congr_left fun r _ => billetOf_updated s r

end Sys2Proof.Machine
end

section
/-! SUPPORT. Operations, the choice and changes of line state keep the laws of the line (O55). -/

namespace Sys2Proof.Machine

set_option Elab.async false

variable {s t : State}

/-! ### Handling operations -/

/-- An operation that starts with handling idle asserts its outputs alone (R89, R95). -/
theorem State.Poised.startOperation (h : s.Poised) (idle : s.cadence.operation = none) (o : Operation) :
    (s.startOperation o).Poised := by
  obtain ⟨⟨call, wait, known, ⟨-, outputs⟩, step⟩, causes⟩ := h
  refine ⟨⟨call, wait, known, ⟨rfl, ?_⟩, step⟩, causes⟩
  simp only [idle, outputLevels, Prod.mk.injEq] at outputs
  obtain ⟨push, skip, extract, divert⟩ := outputs
  rcases o with (_ | slot) | _ | _ <;> simp [State.startOperation, outputLevels, push, skip, extract, divert]

/-- The end of an operation negates every output (R89). -/
theorem State.Poised.endOperation (h : s.Poised) : s.endOperation.Poised :=
  ⟨⟨h.call, h.wait, h.known, ⟨rfl, rfl⟩, h.step⟩, h.causes⟩

/-- In RUN the cold wait may take any state (R93). -/
theorem State.Poised.setColdWait (h : s.Poised) (run : s.cadence.line = .run) (w : ColdWait) :
    ({ s with cadence.coldWait := w } : State).Poised :=
  ⟨⟨h.call, fun _ => run, h.known, h.outputs, h.step⟩, h.causes⟩

/-- In RUN a call may be pending or not (R88). -/
theorem State.Poised.setCall (h : s.Poised) (run : s.cadence.line = .run) (call : Bool) :
    ({ s with cadence.pendingCall := call } : State).Poised :=
  ⟨⟨fun _ => run, h.wait, h.known, h.outputs, h.step⟩, h.causes⟩

theorem State.Poised.startPush (h : s.Poised) (run : s.cadence.line = .run) (idle : s.cadence.operation = none) :
    s.startPush.Poised := by
  have decided : s.loadDecision.1.Poised := h.of_handling (State.handling_of_lineShown s.loadDecision_lineShown)
  obtain ⟨-, -, -, -, cadence, -⟩ := s.loadDecision_frame
  have stopped := decided.setColdWait (by rw [cadence]; exact run) .stopped
  exact stopped.startOperation (by rw [← idle, ← cadence]) (.push s.loadDecision.2)

theorem State.Poised.startExtract (h : s.Poised) (run : s.cadence.line = .run) (idle : s.cadence.operation = none) :
    s.startExtract.Poised := by
  have marked := (h.setCall run false).of_handling (State.handling_of_lineShown
    (State.updateExit_lineShown { s with cadence.pendingCall := false } fun r => { r with extracting := true }))
  exact marked.startOperation (by simpa using idle) .extract

/-- The choice starts an operation with handling idle, or a cold wait in RUN (R91). -/
theorem State.Poised.choose (h : s.Poised) : s.choose.Poised := by
  rcases s.choose_cases with c | ⟨run, idle, ⟨v, -, -, c⟩ | ⟨-, -, c⟩ | ⟨-, -, -, c⟩ | ⟨-, -, -, c⟩⟩ <;> rw [c]
  · exact h
  · exact h.startOperation idle .divert
  · exact h.startExtract run idle
  · exact h.startPush run idle
  · unfold State.startColdWait
    split
    · exact (h.setColdWait run .expired).startPush run idle
    · exact h.setColdWait run _

theorem State.PurgeRuns.choose (h : s.PurgeRuns) : s.choose.PurgeRuns := by
  by_cases purging : s.cadence.line = .purging
  · have stays : s.choose = s := by
      unfold State.choose
      exact if_neg fun run => by rw [purging] at run; cases run.1
    rw [stays]; exact h
  · obtain ⟨-, -, -, -, -, -, -, line, -⟩ := s.choose_frame
    exact State.purgeRuns_of_other (by rw [line]; exact purging)

/-! ### Changes of line state -/

/-- A line state that the causes as they stand allow (R76). -/
def State.Admits (s : State) (new : LineState) : Prop :=
  (new = .run → s.cadence.held = false) ∧ (new = .hold → s.cadence.held = true)

/-- Steps 1 to 4 of a change of line state leave neither call nor cold wait outside RUN, and the tracker knows the new
state (R75, R88, R93, R10). -/
theorem State.Handled.moveLine (h : s.Handled) {new : LineState} (admits : s.Admits new) : (s.moveLine new).Poised := by
  obtain ⟨call, wait, -, ⟨timer, outputs⟩, top⟩ := h
  obtain ⟨toRun, toHold⟩ := admits
  have cadence := s.moveLine_cadence new
  obtain ⟨-, -, -, -, -, -, -, known, -, line, held, -⟩ := s.moveLine_frame new
  refine ⟨⟨fun pending => ?_, fun waits => ?_, known.trans line.symm, ⟨?_, ?_⟩, ?_⟩, fun e => ?_, fun e => ?_⟩
  · rw [cadence] at pending
    dsimp only at pending
    split at pending
    · cases pending
    · rename_i other; exact absurd (call pending) other
  · rw [cadence] at waits
    dsimp only at waits
    split at waits
    · exact absurd rfl waits
    · rename_i other; exact absurd (wait waits) other
  · rw [cadence]; exact timer
  · rw [State.moveLine_pins, cadence]; exact outputs
  · rw [cadence]; exact top
  · rw [held]; exact toRun (line.symm.trans e)
  · rw [held]; exact toHold (line.symm.trans e)

theorem State.Poised.stopIfDrained (h : s.Poised) : s.stopIfDrained.Poised := by
  unfold State.stopIfDrained
  split
  · exact h.moveLine ⟨nofun, nofun⟩
  · exact h

theorem State.stopIfDrained_line (s : State) :
    s.stopIfDrained.cadence.line = .stopped ∨ s.stopIfDrained = s := by
  unfold State.stopIfDrained
  split
  · obtain ⟨-, -, -, -, -, -, -, -, -, line, -⟩ := s.moveLine_frame .stopped
    exact .inl line
  · exact .inr rfl

theorem State.PurgeRuns.stopIfDrained (h : s.PurgeRuns) : s.stopIfDrained.PurgeRuns := by
  rcases s.stopIfDrained_line with line | same
  · exact State.purgeRuns_of_other (by rw [line]; decide)
  · rw [same]; exact h

theorem State.Handled.changeLine (h : s.Handled) {new : LineState} (admits : s.Admits new) :
    (s.changeLine new).Poised := by
  unfold State.changeLine
  dsimp only
  split
  · exact (h.moveLine admits).stopIfDrained.choose
  · exact h.moveLine admits

theorem State.changeLine_purgeRuns (s : State) {new : LineState} (other : new ≠ .purging) :
    (s.changeLine new).PurgeRuns := by
  have moved : (s.moveLine new).PurgeRuns := by
    obtain ⟨-, -, -, -, -, -, -, -, -, line, -⟩ := s.moveLine_frame new
    exact State.purgeRuns_of_other (by rw [line]; exact other)
  unfold State.changeLine
  dsimp only
  split
  · exact moved.stopIfDrained.choose
  · exact moved

/-! ### The laws in the midst of a command -/

/-- The laws of the line but for PRESS_READY's level, which the end of an event sets. -/
def State.Steady (s : State) : Prop := s.Poised ∧ s.PurgeRuns

theorem State.Steady.of_handling (h : s.Steady) (same : t.handling = s.handling) : t.Steady :=
  ⟨h.1.of_handling same, h.2.of_handling same⟩

theorem State.Steady.of_shown (h : s.Steady) (same : t.lineShown = s.lineShown) : t.Steady :=
  h.of_handling (State.handling_of_lineShown same)

theorem State.Steady.settle (h : s.Steady) : LineLaws s.settle := h.1.settle h.2

theorem steady_of_lineLaws (h : LineLaws s) : s.Steady := by
  obtain ⟨poised, runs, -⟩ := (lineLaws_iff s).1 h
  exact ⟨poised, runs⟩

theorem State.Steady.choose (h : s.Steady) : s.choose.Steady := ⟨h.1.choose, h.2.choose⟩

theorem State.Steady.stopIfDrained (h : s.Steady) : s.stopIfDrained.Steady := ⟨h.1.stopIfDrained, h.2.stopIfDrained⟩

theorem State.Steady.chooseIfReported (h : s.Steady) (before : State) : (s.chooseIfReported before).Steady := by
  unfold State.chooseIfReported
  split
  · exact h
  · exact h.choose

theorem State.Steady.afterCompletion (h : s.Steady) : LineLaws s.afterCompletion := h.stopIfDrained.choose.settle

/-- With handling idle an operation of a purge, or any outside a purge, starts. -/
theorem State.Poised.starts (h : s.Poised) (idle : s.cadence.operation = none) {o : Operation}
    (purge : s.cadence.line = .purging → 1 ≤ s.cadence.purgeStep ∧ (o = .divert ∨ o = .push none)) :
    (s.startOperation o).Steady :=
  ⟨h.startOperation idle o, fun purging =>
    ⟨(purge purging).1, (purge purging).2.imp (congrArg some) (congrArg some)⟩⟩

theorem State.Handled.changes (h : s.Handled) {new : LineState} (admits : s.Admits new) (other : new ≠ .purging) :
    (s.changeLine new).Steady :=
  ⟨h.changeLine admits, s.changeLine_purgeRuns other⟩

/-! ### Hold causes (R76) -/

/-- A cause that has been added takes a line in RUN to HOLD (R76). -/
theorem State.Handled.afterCauseAdded (h : s.Handled) (runs : s.PurgeRuns) (held : s.cadence.held = true) :
    s.afterCauseAdded.Steady := by
  unfold State.afterCauseAdded
  split
  · exact h.changes ⟨nofun, fun _ => held⟩ (by decide)
  · rename_i other
    exact ⟨⟨h, fun run => absurd run other, fun _ => held⟩, runs⟩

/-- Causes that have been removed release a line left without one (R76). `before` says that one of them was there. -/
theorem State.Handled.afterCauseRemoved (h : s.Handled) (runs : s.PurgeRuns) {before : Bool}
    (run : s.cadence.line = .run → s.cadence.held = false)
    (hold : s.cadence.line = .hold → before = false → s.cadence.held = true) :
    (s.afterCauseRemoved before).Steady := by
  unfold State.afterCauseRemoved
  split
  · rename_i released
    obtain ⟨-, -, free⟩ := released
    exact h.changes ⟨fun _ => free, nofun⟩ (by decide)
  · rename_i stays
    refine ⟨⟨h, run, fun line => ?_⟩, runs⟩
    cases was : before with
    | false => exact hold line was
    | true => exact Bool.eq_true_of_not_eq_false fun free => stays ⟨line, was, free⟩

theorem State.Steady.addSupply (h : s.Steady) : s.addSupply.Steady := by
  unfold State.addSupply
  split
  · exact h
  · obtain ⟨poised, runs⟩ := h
    have caused : ({ s with cadence.supply := true } : State).Handled :=
      ⟨poised.call, poised.wait, poised.known, poised.outputs, poised.step⟩
    exact caused.afterCauseAdded runs (by simp [Cadence.held])

theorem State.Steady.addPressStop (h : s.Steady) : s.addPressStop.Steady := by
  unfold State.addPressStop
  split
  · exact h
  · obtain ⟨poised, runs⟩ := h
    have caused : ({ s with cadence.pressStop := true } : State).Handled :=
      ⟨poised.call, poised.wait, poised.known, poised.outputs, poised.step⟩
    exact caused.afterCauseAdded runs (by simp [Cadence.held])

theorem State.Steady.pressStopAsserts (h : s.Steady) : s.pressStopAsserts.Steady := by
  unfold State.pressStopAsserts
  split
  · exact h.addPressStop
  · exact h.of_handling rfl

theorem State.Steady.supplyLoss (h : s.Steady) (energy : SliceRecord → Nat) : LineLaws (s.supplyLoss energy) :=
  (h.of_shown (s.loseSupply_lineShown energy)).addSupply.settle

end Sys2Proof.Machine
end

section
/-! PROOF. Every step keeps the laws of the line (O55). -/

namespace Sys2Proof.Machine

set_option Elab.async false

/-! ### Requests that leave the line alone -/

section
variable (s : State)

theorem onZone_lineShown (zone : Nat) (f : Fin 6 → State) (h : ∀ z, (f z).lineShown = s.lineShown) :
    (onZone zone s f).lineShown = s.lineShown := by
  unfold onZone
  split
  · exact h _
  · rfl

theorem onKey_lineShown (key : Key) (f : Fin 32 → Entry → State) (h : ∀ i e, (f i e).lineShown = s.lineShown) :
    (onKey key s f).lineShown = s.lineShown := by
  unfold onKey
  split
  · rfl
  · split
    · exact h _ _
    · rfl

theorem onSet_lineShown (set : BitVec 16) (f : BitVec 11 → Attention) : (onSet set s f).lineShown = s.lineShown := by
  unfold onSet
  split <;> rfl

theorem setZoneRequest_lineShown (zone mode blockSize setpoint budget : Nat) (options : BitVec 8) :
    (setZoneRequest zone mode blockSize setpoint budget options s).lineShown = s.lineShown := by
  refine onZone_lineShown s _ _ fun z => ?_
  split
  · rfl
  · exact (State.grant_lineShown _).trans (State.evaluateZone_lineShown _ z)

theorem enableZoneRequest_lineShown (zone : Nat) : (enableZoneRequest zone s).lineShown = s.lineShown := by
  refine onZone_lineShown s _ _ fun z => ?_
  dsimp only
  split
  · exact State.grant_lineShown _
  · rfl

theorem doseZoneRequest_lineShown (zone : Nat) : (doseZoneRequest zone s).lineShown = s.lineShown := by
  refine onZone_lineShown s _ _ fun z => ?_
  split
  iterate 3 rfl
  all_goals
    split
    · rfl
    · exact State.grant_lineShown _

theorem continueZoneRequest_lineShown (zone : Nat) : (continueZoneRequest zone s).lineShown = s.lineShown :=
  onZone_lineShown s _ _ fun z => State.grant_lineShown (s.updateZone z Zone.continuing)

theorem powerContinueRequest_lineShown : (powerContinueRequest s).lineShown = s.lineShown :=
  State.grant_lineShown { s with arbiter.pause := false }

theorem disableZoneRequest_lineShown (zone : Nat) : (disableZoneRequest zone s).lineShown = s.lineShown := by
  refine onZone_lineShown s _ _ fun z => ?_
  split <;> rfl

theorem pauseZoneRequest_lineShown (zone : Nat) : (pauseZoneRequest zone s).lineShown = s.lineShown := by
  refine onZone_lineShown s _ _ fun z => ?_
  split <;> rfl

theorem readTrainRequest_lineShown (first count : Nat) : (readTrainRequest first count s).lineShown = s.lineShown := by
  unfold readTrainRequest
  split <;> rfl

theorem powerOnRequest_lineShown : (powerOnRequest s).lineShown = s.lineShown := by
  unfold powerOnRequest
  split
  · exact State.grant_lineShown _
  · rfl

theorem postOrderRequest_lineShown (billetId : BitVec 32) (key : Key) (flags : BitVec 8)
    (entryTemp exitOverride : Nat) :
    (postOrderRequest billetId key flags entryTemp exitOverride s).lineShown = s.lineShown := by
  unfold postOrderRequest
  split
  · rfl
  split
  · rfl
  split
  · rfl
  · rename_i found h
    exact s.lookup_lineShown h

theorem withdrawRequest_lineShown (n : Nat) : (withdrawRequest n s).lineShown = s.lineShown := by
  unfold withdrawRequest
  split
  · exact (State.raiseIf_lineShown _ _ _).trans (s.withdrawNewest_lineShown n)
  · rfl

theorem reclaimRequest_lineShown (n : Nat) : (reclaimRequest n s).lineShown = s.lineShown := by
  unfold reclaimRequest
  split
  · exact s.reclaimOldest_lineShown n
  · rfl

theorem readOrdersRequest_lineShown (first count : Nat) : (readOrdersRequest first count s).lineShown = s.lineShown := by
  unfold readOrdersRequest
  split
  · split <;> rfl
  · rfl

theorem readRecipeRequest_lineShown (selector : RecipeSelector) :
    (readRecipeRequest selector s).lineShown = s.lineShown := by
  unfold readRecipeRequest
  split
  · exact onKey_lineShown s _ _ fun i e => rfl
  · split <;> rfl

theorem flushRecipeRequest_lineShown (key : Key) : (flushRecipeRequest key s).lineShown = s.lineShown := by
  refine onKey_lineShown s _ _ fun i e => ?_
  split
  · rfl
  split
  · rfl
  · exact s.giveUp_lineShown _ _

theorem pinRecipeRequest_lineShown (key : Key) : (pinRecipeRequest key s).lineShown = s.lineShown := by
  refine onKey_lineShown s _ _ fun i e => ?_
  split
  · rfl
  split <;> rfl

theorem setWindowRequest_lineShown (window enable : Nat) (base mask : BitVec 16) (body : Body) :
    (setWindowRequest window enable base mask body s).lineShown = s.lineShown := by
  unfold setWindowRequest
  split
  · rfl
  split
  · split <;> rfl
  · rfl

theorem requestWritebackRequest_lineShown (key : Key) : (requestWritebackRequest key s).lineShown = s.lineShown := by
  refine onKey_lineShown s _ _ fun i e => ?_
  split
  · rfl
  split <;> rfl

theorem selectCounterRequest_lineShown (counter event : Nat) :
    (selectCounterRequest counter event s).lineShown = s.lineShown := by
  unfold selectCounterRequest
  split
  · split <;> rfl
  · rfl

theorem writeSettingRequest_lineShown (id value : Nat) : (writeSettingRequest id value s).lineShown = s.lineShown := by
  unfold writeSettingRequest
  split
  · rfl
  split
  · split
    · dsimp only
      split
      · exact (State.grant_lineShown _).trans (State.evaluateAll_lineShown _)
      · rfl
    · rfl
  · rfl

theorem writeProfileRequest_lineShown (profile : Vector Nat 12) :
    (writeProfileRequest profile s).lineShown = s.lineShown := by
  unfold writeProfileRequest
  split
  · exact (State.grant_lineShown _).trans (State.evaluateAll_lineShown _)
  · rfl

end

/-! ### Requests of the line -/

section
variable {s : State} (h : LineLaws s)

theorem LineLaws.refuse {s : State} (h : LineLaws s) (code : ResultCode) : LineLaws (s.refuse code) :=
  lineLaws_of_lineShown h rfl

theorem LineLaws.accept {s : State} (h : LineLaws s) (data : List Byte) : LineLaws (s.accept data) :=
  lineLaws_of_lineShown h rfl

/-- A steady line, its level set and the reply handed over. -/
theorem State.Steady.settled {s : State} (h : s.Steady) (data : List Byte) : LineLaws (s.settle.accept data) :=
  lineLaws_of_lineShown h.settle rfl

include h

theorem startRequest_lineLaws : LineLaws (startRequest s) := by
  obtain ⟨poised, -⟩ := steady_of_lineLaws h
  unfold startRequest
  split
  · exact lineLaws_of_lineShown h rfl
  split
  · exact lineLaws_of_lineShown h rfl
  split
  · exact lineLaws_of_lineShown h rfl
  · have cleared : ({ s with cadence.noLoad := false } : State).Poised := poised.of_handling rfl
    dsimp only
    split
    · rename_i held
      exact (cleared.toHandled.changes (new := .hold) ⟨nofun, fun _ => held⟩ (by decide)).settled []
    · rename_i free
      exact (cleared.toHandled.changes (new := .run) ⟨fun _ => Bool.eq_false_iff.2 free, nofun⟩ (by decide)).settled []

theorem stopRequest_lineLaws : LineLaws (stopRequest s) := by
  obtain ⟨poised, -⟩ := steady_of_lineLaws h
  unfold stopRequest
  split
  · exact (poised.toHandled.changes (new := .stopped) ⟨nofun, nofun⟩ (by decide)).settled []
  · exact lineLaws_of_lineShown h rfl

theorem holdRequest_lineLaws : LineLaws (holdRequest s) := by
  obtain ⟨poised, runs⟩ := steady_of_lineLaws h
  unfold holdRequest
  split
  · refine State.Steady.settled ?_ []
    split
    · exact ⟨poised, runs⟩
    · have caused : ({ s with cadence.manual := true } : State).Handled :=
        ⟨poised.call, poised.wait, poised.known, poised.outputs, poised.step⟩
      exact caused.afterCauseAdded runs (by simp [Cadence.held])
  · exact lineLaws_of_lineShown h rfl

theorem resumeRequest_lineLaws : LineLaws (resumeRequest s) := by
  obtain ⟨poised, runs⟩ := steady_of_lineLaws h
  unfold resumeRequest
  split
  · have removed : ({ s with cadence.manual := false, cadence.supply := false } : State).Handled :=
      ⟨poised.call, poised.wait, poised.known, poised.outputs, poised.step⟩
    refine (removed.afterCauseRemoved runs (fun run => ?_) fun hold before => ?_).settled []
    · have free := poised.causes.1 run
      simp only [Cadence.held, Bool.or_eq_false_iff] at free ⊢
      obtain ⟨⟨-, pressStop⟩, -⟩ := free
      exact ⟨⟨trivial, pressStop⟩, trivial⟩
    · have held := poised.causes.2 hold
      simp only [Bool.or_eq_false_iff] at before
      simpa [Cadence.held, before.1, before.2] using held
  · exact lineLaws_of_lineShown h rfl

theorem drainRequest_lineLaws : LineLaws (drainRequest s) := by
  have steady : ({ s with cadence.noLoad := true } : State).Steady := (steady_of_lineLaws h).of_handling rfl
  unfold drainRequest
  split
  · exact steady.stopIfDrained.settled []
  · exact lineLaws_of_lineShown h rfl

theorem purgeRequest_lineLaws : LineLaws (purgeRequest s) := by
  obtain ⟨poised, runs⟩ := steady_of_lineLaws h
  unfold purgeRequest
  split
  · rename_i taken
    have stepped : ({ s with cadence.purgeStep := 1 } : State).Handled :=
      ⟨poised.call, poised.wait, poised.known, poised.outputs, show 1 ≤ 13 by decide⟩
    have changed := stepped.changeLine (new := .purging) ⟨nofun, nofun⟩
    have idle := (State.changeLine_operation { s with cadence.purgeStep := 1 } (new := .purging) (by decide)).trans taken.2
    have step : (State.changeLine { s with cadence.purgeStep := 1 } .purging).cadence.purgeStep = 1 := by
      rw [State.changeLine, if_neg (by decide), State.moveLine_cadence]
    exact (changed.starts idle (o := .divert) fun _ => ⟨step.ge, .inl rfl⟩).settled []
  · exact lineLaws_of_lineShown h rfl

theorem declareEmptyRequest_lineLaws : LineLaws (declareEmptyRequest s) := by
  unfold declareEmptyRequest
  split
  · exact lineLaws_of_lineShown h rfl
  split <;> exact lineLaws_of_lineShown h rfl

/-- LOAD RECIPE may let the choice start an operation (R156, R91). -/
theorem loadRecipeRequest_lineLaws (key : Key) (body : Body) (trim : Int) (policy : Nat) :
    LineLaws (loadRecipeRequest key body trim policy s) := by
  have loaded : ∀ t : State, t.lineShown = s.lineShown → LineLaws (t.afterLoad s) := by
    intro t same
    have evaluated : t.advanceReplacement.evaluateAll.handling = s.handling :=
      State.handling_of_lineShown ((State.evaluateAll_lineShown _).trans same)
    have granted : t.advanceReplacement.evaluateAll.reportReadiness.grant.handling = s.handling :=
      (State.handling_of_lineShown (State.grant_lineShown _)).trans evaluated
    exact (((steady_of_lineLaws h).of_handling granted).chooseIfReported s).settle
  have present : ∀ i e p, (s.loadPresent i e body trim p).lineShown = s.lineShown := by
    intro i e p
    unfold State.loadPresent
    dsimp only
    split <;> rfl
  have absent : ∀ i t p, (s.loadAbsent i key body t p).lineShown = s.lineShown := fun i t p =>
    (State.giveUp_lineShown s i .evicted :)
  unfold loadRecipeRequest
  split
  · exact h.refuse _
  split
  · split
    · split
      · exact (loaded _ (present _ _ _)).accept _
      · exact h.refuse _
    · split
      · exact (loaded _ (absent _ _ _)).accept _
      · exact h.refuse _
  · exact h.refuse _

/-- Every request keeps the laws of the line. -/
theorem takeRequest_lineLaws (i : Instr) : LineLaws (takeRequest i s) := by
  have quiet : ∀ {t : State}, t.lineShown = s.lineShown → LineLaws t := fun same => lineLaws_of_lineShown h same
  cases i
  case start => exact startRequest_lineLaws h
  case stop => exact stopRequest_lineLaws h
  case hold => exact holdRequest_lineLaws h
  case resume => exact resumeRequest_lineLaws h
  case drain => exact drainRequest_lineLaws h
  case purge => exact purgeRequest_lineLaws h
  case declareEmpty => exact declareEmptyRequest_lineLaws h
  case loadRecipe => exact loadRecipeRequest_lineLaws h _ _ _ _
  case readTrain => exact quiet (readTrainRequest_lineShown s _ _)
  case setZone => exact quiet (setZoneRequest_lineShown s _ _ _ _ _ _)
  case readZone => exact quiet (onZone_lineShown s _ _ fun z => rfl)
  case enableZone => exact quiet (enableZoneRequest_lineShown s _)
  case disableZone => exact quiet (disableZoneRequest_lineShown s _)
  case pauseZone => exact quiet (pauseZoneRequest_lineShown s _)
  case continueZone => exact quiet (continueZoneRequest_lineShown s _)
  case doseZone => exact quiet (doseZoneRequest_lineShown s _)
  case powerOn => exact quiet (powerOnRequest_lineShown s)
  case powerContinue => exact quiet (powerContinueRequest_lineShown s)
  case postOrder => exact quiet (postOrderRequest_lineShown s _ _ _ _ _)
  case withdraw => exact quiet (withdrawRequest_lineShown s _)
  case readOrders => exact quiet (readOrdersRequest_lineShown s _ _)
  case reclaim => exact quiet (reclaimRequest_lineShown s _)
  case readRecipe => exact quiet (readRecipeRequest_lineShown s _)
  case flushRecipe => exact quiet (flushRecipeRequest_lineShown s _)
  case flushUnpinned => exact (quiet s.sweep_lineShown).accept _
  case pinRecipe => exact quiet (pinRecipeRequest_lineShown s _)
  case unpinRecipe => exact quiet (onKey_lineShown s _ _ fun i e => rfl)
  case setWindow => exact quiet (setWindowRequest_lineShown s _ _ _ _ _)
  case requestWriteback => exact quiet (requestWritebackRequest_lineShown s _)
  case enableAttention | disableAttention | clearAttention => exact quiet (onSet_lineShown s _ _)
  case selectCounter => exact quiet (selectCounterRequest_lineShown s _ _)
  case writeSetting => exact quiet (writeSettingRequest_lineShown s _ _)
  case writeProfile => exact quiet (writeProfileRequest_lineShown s _)
  case readLine | powerOff | powerPause | takeWritebacks | readWants | readAttention | readCounters | readSettings |
    identify | restart => exact quiet rfl
  all_goals exact h

end

/-! ### What the tracker and the ring do of an event -/

/-- A verdict written at the exit and reported leaves all of the line but the exit verdict alone (R22 to R24). -/
theorem State.judged_handling (s : State) (f : BilletRecord → BilletRecord) :
    ((s.updateExit f).reportExit).handling = s.handling :=
  (State.handling_of_lineShown (s.updateExit_lineShown f) :)

theorem State.recheckExit_handling (s : State) : s.recheckExit.handling = s.handling := s.judged_handling s.rechecked

/-- A push completion leaves the line alone but for what the tracker reports (R97). -/
theorem State.pushCompleted_handling (s : State) (loaded : Option (Fin 64)) :
    (s.pushCompleted loaded).handling = s.handling := by
  have evaluated : ((s.columnPushed loaded).updateZones Zone.reloaded).evaluateAll.handling = s.handling :=
    (State.handling_of_lineShown (State.evaluateAll_lineShown _)).trans
      (State.handling_of_lineShown (s.columnPushed_lineShown loaded))
  have reported : ∀ t : State, (t.reportExit.reportReadiness).grant.handling = t.handling := fun t =>
    (State.handling_of_lineShown (State.grant_lineShown t.reportExit.reportReadiness)).trans rfl
  have counted : ∀ (t : State) (m : Option RunningTimer),
      (({ t with cadence.minPush := m } : State).count .pushCompleted).handling = t.handling := fun _ _ => rfl
  have loads : ∀ t : State, (t.count .billetLoaded).handling = t.handling := fun _ => rfl
  unfold State.pushCompleted
  dsimp only
  split
  · exact (loads _).trans ((counted _ _).trans ((reported _).trans evaluated))
  · exact (counted _ _).trans ((reported _).trans evaluated)

theorem State.removeExit_handling (s : State) (v : BilletRecord → OrderVerdict) :
    (s.removeExit v).handling = s.handling := by
  unfold State.removeExit
  split
  · rename_i r _
    exact (State.handling_of_lineShown (s.dropExit.retire_lineShown r.slot _) :)
  · rfl

/-- What a handling timeout takes of the column leaves the line alone (R105, R106). -/
theorem State.timedOut_handling (s : State) (o : Operation) : (s.timedOut o).handling = s.handling := by
  cases o with
  | push loaded => exact (State.handling_of_lineShown (s.columnPushed_lineShown loaded) :)
  | extract => exact (State.handling_of_lineShown (s.updateExit_lineShown _) :)
  | divert => rfl

/-- A purge goes on with the next step's divert, or ends in STOPPED (R112, R113). -/
theorem State.Poised.purgeNext {s : State} (h : s.Poised) (idle : s.cadence.operation = none) : s.purgeNext.Steady := by
  unfold State.purgeNext
  split
  · rename_i more
    have stepped : ({ s with cadence.purgeStep := s.cadence.purgeStep + 1 } : State).Poised :=
      ⟨⟨h.call, h.wait, h.known, h.outputs, more⟩, h.causes⟩
    exact stepped.starts idle fun _ => ⟨Nat.le_add_left 1 _, .inl rfl⟩
  · have ended : ({ s with cadence.occupancyUnknown := false, cadence.purgeStep := 0 } : State).Handled :=
      ⟨h.call, h.wait, h.known, h.outputs, Nat.zero_le 13⟩
    exact ended.changes ⟨nofun, nofun⟩ (by decide)

/-! ### Events of the converter, the guards and the pyrometer -/

section
variable {s : State} (h : LineLaws s)
include h

theorem sliceDone_lineLaws (sequence : BitVec 8) (energy : Nat) : LineLaws (sliceDone sequence energy s) := by
  unfold sliceDone
  split
  · rename_i x _
    have decided := (steady_of_lineLaws h).of_shown ((State.decideZone_lineShown
      ((s.closeSlice x (min energy x.eset)).count .sliceCompleted) x.zone x.forced).trans (s.closeSlice_lineShown x _))
    exact (decided.chooseIfReported s).settle
  · exact h

theorem sliceFault_lineLaws (sequence : BitVec 8) (energy : Nat) : LineLaws (sliceFault sequence energy s) := by
  unfold sliceFault
  split
  · exact (steady_of_lineLaws h).supplyLoss _
  · exact h

theorem convReadyFall_lineLaws : LineLaws (convReadyFall s) := by
  unfold convReadyFall
  dsimp only
  split
  · have fallen : ({ s with pins.convReady := false } : State).Steady := (steady_of_lineLaws h).of_handling rfl
    exact fallen.supplyLoss _
  · exact lineLaws_of_lineShown h rfl

theorem sliceTimerExpiry_lineLaws : LineLaws (sliceTimerExpiry s) := by
  unfold sliceTimerExpiry
  split
  · split
    · rename_i x _ _
      have sent : (s.send (.sliceCancel x.sequence)).Steady := (steady_of_lineLaws h).of_handling rfl
      exact sent.supplyLoss _
    · exact h
  · exact h

theorem guardAsserted_lineLaws (zone : Nat) : LineLaws (guardAsserted zone s) := by
  have cancelled : ∀ (t : State) (z : Fin 6), (t.cancelForHalt z).lineShown = t.lineShown := by
    intro t z
    unfold State.cancelForHalt
    split
    · rfl
    · dsimp only
      split <;> rfl
  have halted : ∀ (t : State) (z : Fin 6), (t.haltZone z).lineShown = t.lineShown := fun t z =>
    State.raiseIf_lineShown _ _ _
  unfold guardAsserted
  split
  · exact h
  · rename_i z _
    refine lineLaws_of_lineShown h ?_
    dsimp only
    split
    case h_4 => exact cancelled _ z
    case h_5 | h_6 => rfl
    all_goals exact halted _ z

theorem guardNegated_lineLaws (zone : Nat) : LineLaws (guardNegated zone s) := by
  unfold guardNegated
  split
  · exact h
  · exact lineLaws_of_lineShown h rfl

theorem pyroTemperatureMessage_lineLaws (value : Nat) : LineLaws (pyroTemperatureMessage value s) := by
  unfold pyroTemperatureMessage
  split
  · exact h
  · dsimp only
    refine State.Steady.settle (State.Steady.choose ?_)
    have stopped : ({ s with tracker.readingTimer := none } : State).Steady := (steady_of_lineLaws h).of_handling rfl
    exact (stopped.of_handling (State.judged_handling _ _)).of_shown (State.learnFrom_lineShown _ _ _ _)

theorem readingTimerExpiry_lineLaws : LineLaws (readingTimerExpiry s) := by
  unfold readingTimerExpiry
  split
  · have stopped : LineLaws { s with tracker.readingTimer := none } := lineLaws_of_lineShown h rfl
    dsimp only
    split
    · split
      · refine State.Steady.settle (State.Steady.choose ?_)
        exact (steady_of_lineLaws stopped).of_handling (State.judged_handling _ _)
      · exact stopped
    · exact stopped
  · exact h

theorem surveyTimerExpiry_lineLaws : LineLaws (surveyTimerExpiry s) := by
  unfold surveyTimerExpiry
  split
  · dsimp only
    refine State.Steady.settle (State.Steady.chooseIfReported ?_ s)
    refine State.Steady.of_shown ?_ (State.grant_lineShown _)
    have updated : (State.updateTrain { s with tracker.surveyTimer := some (s.timer s.settings.surveyPeriod) }).Steady :=
      (steady_of_lineLaws h).of_handling rfl
    have evaluated := (updated.of_handling (State.recheckExit_handling _)).of_shown (State.evaluateAll_lineShown _)
    exact evaluated.of_handling rfl
  · exact h

/-! ### Events of the press and of handling -/

theorem pressCall_lineLaws : LineLaws (pressCall s) := by
  obtain ⟨poised, -, ready⟩ := (lineLaws_iff s).1 h
  unfold pressCall
  dsimp only
  split
  · rename_i run
    have called : ({ s with pins.pressCall := true } : State).Poised := poised.of_handling rfl
    split
    · rename_i level
      have idle : s.cadence.operation = none := by
        rw [ready, Cadence.pressReadyLevel] at level
        simp only [Bool.and_eq_true, Option.isNone_iff_eq_none] at level
        exact level.2
      refine (called.startExtract run idle).settle (State.purgeRuns_of_other ?_)
      simp [State.startExtract, run]
    · have pending := called.setCall run true
      exact State.Steady.settle (State.Steady.choose ⟨pending, State.purgeRuns_of_other (by rw [run]; decide)⟩)
  · exact lineLaws_of_lineShown h rfl

theorem pressStopAsserted_lineLaws : LineLaws (pressStopAsserted s) :=
  State.Steady.settle (State.Steady.pressStopAsserts ((steady_of_lineLaws h).of_handling rfl))

theorem pressStopNegated_lineLaws : LineLaws (pressStopNegated s) := by
  obtain ⟨poised, runs⟩ := steady_of_lineLaws h
  unfold pressStopNegated
  dsimp only
  split
  · rename_i present
    have removed : ({ s with
        pins.pressStop := false, cadence.holdDelay := none, cadence.pressStop := false } : State).Handled :=
      ⟨poised.call, poised.wait, poised.known, poised.outputs, poised.step⟩
    refine (removed.afterCauseRemoved (before := true) runs (fun run => ?_) fun _ => nofun).settle
    have free := poised.causes.1 run
    rw [Cadence.held, present] at free
    simp at free
  · exact lineLaws_of_lineShown h rfl

theorem holdDelayExpiry_lineLaws : LineLaws (holdDelayExpiry s) := by
  unfold holdDelayExpiry
  split
  · exact State.Steady.settle (State.Steady.addPressStop ((steady_of_lineLaws h).of_handling rfl))
  · exact h

theorem pushDone_lineLaws : LineLaws (pushDone s) := by
  obtain ⟨poised, runs⟩ := steady_of_lineLaws h
  unfold pushDone
  split
  · rename_i loaded _
    have completed := poised.endOperation.of_handling (s.endOperation.pushCompleted_handling loaded)
    have idle : (s.endOperation.pushCompleted loaded).cadence.operation = none := by simp
    have line : (s.endOperation.pushCompleted loaded).cadence.line = s.cadence.line :=
      congrArg Prod.fst (s.endOperation.pushCompleted_handling loaded)
    dsimp only
    split
    · exact (completed.purgeNext idle).settle
    · rename_i other
      exact State.Steady.afterCompletion ⟨completed, State.purgeRuns_of_other (by rw [line]; exact other)⟩
  all_goals exact h

theorem extractDone_lineLaws : LineLaws (extractDone s) := by
  obtain ⟨poised, runs⟩ := steady_of_lineLaws h
  unfold extractDone
  split
  · rename_i extract
    have other : s.cadence.line ≠ .purging := fun purging => by
      obtain ⟨-, e | e⟩ := runs purging <;> rw [extract] at e <;> cases e
    have same := s.endOperation.removeExit_handling fun _ => OrderVerdict.delivered
    exact State.Steady.afterCompletion ⟨poised.endOperation.of_handling same,
      (State.purgeRuns_of_other (s := s.endOperation) other).of_handling same⟩
  all_goals exact h

theorem divertDone_lineLaws : LineLaws (divertDone s) := by
  obtain ⟨poised, runs⟩ := steady_of_lineLaws h
  unfold divertDone
  split
  · split
    · rename_i purging
      have same := s.endOperation.removeExit_handling fun _ => OrderVerdict.purged
      have idle : (s.endOperation.removeExit fun _ => .purged).cadence.operation = none := by
        rw [State.removeExit_cadence]; rfl
      have step : (s.endOperation.removeExit fun _ => .purged).cadence.purgeStep = s.cadence.purgeStep := by
        rw [State.removeExit_cadence]; rfl
      refine ((poised.endOperation.of_handling same).starts idle fun _ => ⟨?_, .inr rfl⟩).settle
      rw [step]
      exact (runs purging).1
    · rename_i other
      have same := s.endOperation.removeExit_handling fun r => r.verdict.atDiversion
      exact State.Steady.afterCompletion ⟨poised.endOperation.of_handling same,
        (State.purgeRuns_of_other (s := s.endOperation) other).of_handling same⟩
  all_goals exact h

theorem handlingTimerExpiry_lineLaws : LineLaws (handlingTimerExpiry s) := by
  obtain ⟨poised, -⟩ := steady_of_lineLaws h
  unfold handlingTimerExpiry
  split
  · rename_i o _
    split
    · have taken : ((s.endOperation.timedOut o).suspectAll : State).Poised :=
        poised.endOperation.of_handling (s.endOperation.timedOut_handling o)
      have unknown : ({ (s.endOperation.timedOut o).suspectAll with cadence.occupancyUnknown := true } : State).Poised :=
        taken.of_handling rfl
      exact (unknown.toHandled.changes (new := .faulted) ⟨nofun, nofun⟩ (by decide)).settle
    · exact h
  · exact h

theorem minPushTimerExpiry_lineLaws : LineLaws (minPushTimerExpiry s) := by
  unfold minPushTimerExpiry
  split
  · exact State.Steady.settle (State.Steady.choose ((steady_of_lineLaws h).of_handling rfl))
  · exact h

theorem coldWaitExpiry_lineLaws : LineLaws (coldWaitExpiry s) := by
  obtain ⟨poised, runs⟩ := steady_of_lineLaws h
  unfold coldWaitExpiry
  split
  · rename_i timer waits
    have run := poised.wait (by rw [waits]; nofun)
    exact State.Steady.settle (State.Steady.choose ⟨poised.setColdWait run .expired, runs⟩)
  all_goals exact h

/-! ### Timers of the ring and the table, and the link -/

theorem batchDelayExpiry_lineLaws : LineLaws (batchDelayExpiry s) := by
  unfold batchDelayExpiry
  split
  · dsimp only
    split <;> exact lineLaws_of_lineShown h rfl
  · exact h

theorem fetchTimeout_lineLaws (key : Key) : LineLaws (fetchTimeout key s) := by
  unfold fetchTimeout
  split
  · exact lineLaws_of_lineShown h rfl
  · exact h

theorem frameReceived_lineLaws (f : Frame) : LineLaws (frameReceived f s) := by
  have formed : ∀ t : State, LineLaws t → LineLaws (t.formReply f) := by
    intro t laws
    unfold State.formReply
    split
    · exact lineLaws_of_lineShown laws rfl
    · exact laws
  have dispatched : ∀ t : State, LineLaws t → LineLaws (t.dispatch f.kind f.payload) := by
    intro t laws
    unfold State.dispatch
    split
    iterate 3 exact laws.refuse _
    exact takeRequest_lineLaws laws _
  unfold frameReceived
  split
  · exact h
  split
  · exact lineLaws_of_lineShown h rfl
  unfold State.checkFrame
  split
  · exact lineLaws_of_lineShown h rfl
  split
  · exact lineLaws_of_lineShown h rfl
  split
  · exact lineLaws_of_lineShown h rfl
  · exact formed _ (dispatched _ (lineLaws_of_lineShown h rfl))

theorem abandonFrame_lineLaws : LineLaws s.abandonFrame := by
  unfold State.abandonFrame
  split
  · exact lineLaws_of_lineShown h rfl
  · exact h

theorem lengthByteDiscard_lineLaws (length : Nat) : LineLaws (lengthByteDiscard length s) := by
  unfold lengthByteDiscard
  split
  · exact abandonFrame_lineLaws h
  · exact h

theorem syncByteBeginsFrame_lineLaws : LineLaws (syncByteBeginsFrame s) := by
  unfold syncByteBeginsFrame
  split
  · exact lineLaws_of_lineShown h rfl
  · exact h

end

/-! ### The resets -/

/-- An asserted PRESS_STOP is taken on a stopped line, which it leaves stopped (R103). -/
theorem State.takePressStop_lineLaws {s : State} (h : LineLaws s) (stopped : s.cadence.line = .stopped) :
    LineLaws s.takePressStop := by
  obtain ⟨-, -, ready⟩ := (lineLaws_iff s).1 h
  unfold State.takePressStop
  split
  · obtain ⟨poised, runs⟩ := (steady_of_lineLaws h).pressStopAsserts
    refine (lineLaws_iff _).2 ⟨poised, runs, ?_⟩
    unfold State.pressStopAsserts State.addPressStop State.afterCauseAdded
    split
    · split
      · exact ready
      · rw [if_neg (by simp [stopped])]; exact ready
    · exact ready
  · exact h

/-- The cadence unit, the outputs and the line state known to the tracker after either reset (R103). -/
theorem lineLaws_of_reset {s : State} (cadence : s.cadence = resetCadence) (line : s.tracker.line = .stopped)
    (outputs : (s.pins.push, s.pins.skip, s.pins.extract, s.pins.divert) = (false, false, false, false))
    (ready : s.pins.pressReady = false) : LineLaws s := by
  have known : LineKnown s := by rw [LineKnown, cadence, line]; rfl
  have follows : OutputsFollow s := by rw [OutputsFollow, cadence, outputs]; exact ⟨rfl, rfl⟩
  refine ⟨?_, ?_, ?_, known, ?_, follows, ?_⟩
  · rw [CausesDecideHold, cadence]; exact ⟨nofun, nofun⟩
  · rw [CallOnlyInRun, cadence]; exact nofun
  · rw [ColdWaitOnlyInRun, cadence]; exact fun waits => absurd rfl waits
  · rw [PressReadyFollows, cadence, ready]; rfl
  · rw [PurgeInStep, cadence]; exact ⟨Nat.zero_le _, nofun⟩

theorem State.restart_lineLaws (s : State) : LineLaws s.restart := by
  obtain ⟨t, blocks⟩ : ∃ t : State, s.restartBlocks = t.restartTracker.restartLine := ⟨_, rfl⟩
  rw [State.restart_eq, blocks]
  exact State.takePressStop_lineLaws (lineLaws_of_reset rfl rfl rfl rfl) rfl

theorem powerOnReset_lineLaws (s : State) : LineLaws (powerOnReset s) :=
  State.takePressStop_lineLaws (lineLaws_of_reset (s := s.powerOnBlocks) rfl rfl rfl rfl) rfl

theorem replySent_lineLaws {s : State} (h : LineLaws s) : LineLaws (replySent s) := by
  rcases replySent_cases s with ⟨-, r⟩ | ⟨-, -, -, -, r⟩ | ⟨-, -, -, r⟩ <;> rw [r]
  · exact h
  · exact s.endReply.restart_lineLaws
  · exact lineLaws_of_lineShown h rfl

theorem restartTakesEffect_lineLaws {s : State} (h : LineLaws s) : LineLaws (restartTakesEffect s) := by
  unfold restartTakesEffect
  split
  · exact s.restart_lineLaws
  · exact h

/-! ### Commands and steps -/

/-- Every command keeps the laws of the line. -/
theorem exec_lineLaws {i : Instr} {s t : State} (h : LineLaws s) (e : exec i s = .next t) : LineLaws t := by
  by_cases request : (encodeRequest i).isSome = true
  · rw [exec_request request s] at e
    cases e
    exact takeRequest_lineLaws h i
  cases i
  case frameReceived f => cases e; exact frameReceived_lineLaws h f
  case idleGapAbandon => cases e; exact abandonFrame_lineLaws h
  case framingErrorAbandon => cases e; exact abandonFrame_lineLaws h
  case lengthByteDiscard n => cases e; exact lengthByteDiscard_lineLaws h n
  case syncByteBeginsFrame => cases e; exact syncByteBeginsFrame_lineLaws h
  case replySent => cases e; exact replySent_lineLaws h
  case restartTakesEffect => cases e; exact restartTakesEffect_lineLaws h
  case powerOnReset => cases e; exact powerOnReset_lineLaws s
  case sliceDone sequence energy => cases e; exact sliceDone_lineLaws h sequence energy
  case sliceFault sequence energy => cases e; exact sliceFault_lineLaws h sequence energy
  case convReadyFall => cases e; exact convReadyFall_lineLaws h
  case sliceTimerExpiry => cases e; exact sliceTimerExpiry_lineLaws h
  case guardAsserted zone => cases e; exact guardAsserted_lineLaws h zone
  case guardNegated zone => cases e; exact guardNegated_lineLaws h zone
  case pyroTemperatureMessage value => cases e; exact pyroTemperatureMessage_lineLaws h value
  case readingTimerExpiry => cases e; exact readingTimerExpiry_lineLaws h
  case surveyTimerExpiry => cases e; exact surveyTimerExpiry_lineLaws h
  case pressCall => cases e; exact pressCall_lineLaws h
  case pressStopAsserted => cases e; exact pressStopAsserted_lineLaws h
  case pressStopNegated => cases e; exact pressStopNegated_lineLaws h
  case holdDelayExpiry => cases e; exact holdDelayExpiry_lineLaws h
  case pushDone => cases e; exact pushDone_lineLaws h
  case extractDone => cases e; exact extractDone_lineLaws h
  case divertDone => cases e; exact divertDone_lineLaws h
  case handlingTimerExpiry => cases e; exact handlingTimerExpiry_lineLaws h
  case minPushTimerExpiry => cases e; exact minPushTimerExpiry_lineLaws h
  case coldWaitExpiry => cases e; exact coldWaitExpiry_lineLaws h
  case batchDelayExpiry => cases e; exact batchDelayExpiry_lineLaws h
  case fetchTimeout key => cases e; exact fetchTimeout_lineLaws h key
  case convReadyRise | pressCallNegated | pyroNoTarget => cases e; exact lineLaws_of_lineShown h rfl
  case readRecipe selector => cases selector <;> exact absurd rfl request
  all_goals exact absurd rfl request

/-- Every step keeps the laws of the line. -/
theorem step_lineLaws {s t : State} (h : LineLaws s) (e : step s = .next t) : LineLaws t := by
  unfold step stepQueue at e
  split at e
  · rename_i rest _
    have taken : LineLaws { s with pending := rest } := lineLaws_of_lineShown h rfl
    exact exec_lineLaws taken e
  unfold idleStep at e
  split at e
  · exact exec_lineLaws h e
  split at e
  · cases e; exact lineLaws_of_lineShown h rfl
  unfold State.passTime at e
  split at e
  · cases e; exact lineLaws_of_lineShown h rfl
  · exact exec_lineLaws h e

/-- Settles O55: a change of line state clears call and cold wait and takes the causes into account, an operation starts
with handling idle, and the end of every event sets PRESS_READY's level. -/
theorem lineLawsKept : Obligations.LineLawsKept := fun _ _ laws h => step_lineLaws laws h

end Sys2Proof.Machine
end

section
/-! SUPPORT. What the choice and a change of line state keep of the part (O10 to O14, O47 to O49). -/

namespace Sys2Proof.Machine

set_option Elab.async false

/-! ### PRESS_READY at its level -/

/-- Where PRESS_READY stands at its level the end of an event changes nothing (R85). -/
theorem State.settle_of_follows {s : State} (follows : PressReadyFollows s) : s.settle = s := by
  rw [State.settle, ← follows]

/-- Outside RUN PRESS_READY is negated (R85). -/
theorem Cadence.pressReadyLevel_of_line {c : Cadence} (other : c.line ≠ .run) : c.pressReadyLevel = false := by
  simp [Cadence.pressReadyLevel, other]

/-- With an operation in flight PRESS_READY is negated (R85). -/
theorem Cadence.pressReadyLevel_of_busy {c : Cadence} (busy : c.operation.isSome = true) :
    c.pressReadyLevel = false := by
  simp only [Cadence.pressReadyLevel, Bool.and_eq_false_iff, Option.isNone_eq_false_iff]
  exact .inr busy

theorem State.moveLine_follows (s : State) (new : LineState) : PressReadyFollows (s.moveLine new) := by
  rw [PressReadyFollows, s.moveLine_pins new]

/-! ### What a change of line state keeps -/

/-- What the choice and every part of a change of line state keep: the causes and the marks of the cadence unit, the
billets of the train, a slice in flight, the recipes and all that stands outside their units. -/
structure LineMoved (s t : State) : Prop where
  marks   : (t.cadence.manual, t.cadence.pressStop, t.cadence.supply, t.cadence.noLoad, t.cadence.occupancyUnknown,
      t.cadence.holdDelay, t.cadence.minPush, t.cadence.purgeStep) =
    (s.cadence.manual, s.cadence.pressStop, s.cadence.supply, s.cadence.noLoad, s.cadence.occupancyUnknown,
      s.cadence.holdDelay, s.cadence.minPush, s.cadence.purgeStep)
  billets : SameBillets s t
  slice   : SliceKept s t
  recipes : t.recipes = s.recipes
  outside : t.outside = s.outside

section
variable {s t u : State}

theorem LineMoved.refl (s : State) : LineMoved s s := ⟨rfl, rfl, fun _ => ⟨rfl, rfl⟩, rfl, rfl⟩

theorem LineMoved.trans (h : LineMoved s t) (k : LineMoved t u) : LineMoved s u := by
  refine ⟨k.marks.trans h.marks, k.billets.trans h.billets, fun flight => ?_, k.recipes.trans h.recipes,
    k.outside.trans h.outside⟩
  obtain ⟨slice, timer⟩ := h.slice flight
  obtain ⟨slice', timer'⟩ := k.slice (by rw [slice]; exact flight)
  exact ⟨slice'.trans slice, timer'.trans timer⟩

theorem LineMoved.settle (h : LineMoved s t) : LineMoved s t.settle :=
  ⟨h.marks, h.billets, h.slice, h.recipes, h.outside⟩

theorem LineMoved.accept (h : LineMoved s t) (data : List Byte) : LineMoved s (t.accept data) :=
  ⟨h.marks, h.billets, h.slice, h.recipes, h.outside⟩

theorem LineMoved.sameOutside (h : LineMoved s t) : SameOutside s t := sameOutside_of_outside h.outside

theorem LineMoved.train_eq_nil_iff (h : LineMoved s t) : t.tracker.train = [] ↔ s.tracker.train = [] := by
  rw [← List.map_eq_nil_iff (f := billetOf), show t.tracker.train.map billetOf = s.tracker.train.map billetOf
    from h.billets, List.map_eq_nil_iff]

/-- Without a cause before there is none after. -/
theorem LineMoved.held (h : LineMoved s t) : t.cadence.held = s.cadence.held := by
  have marks := h.marks
  simp only [Prod.mk.injEq] at marks
  obtain ⟨manual, pressStop, supply, -⟩ := marks
  rw [Cadence.held, manual, pressStop, supply, Cadence.held]

end

variable (s : State)

/-- The choice writes the operation, its timer, the cold wait and the pending call of the cadence unit at most (R91). -/
theorem State.choose_cadence : s.choose.cadence = { s.cadence with
    operation := s.choose.cadence.operation
    handlingTimer := s.choose.cadence.handlingTimer
    coldWait := s.choose.cadence.coldWait
    pendingCall := s.choose.cadence.pendingCall } := by
  have pushes : ∀ t : State, t.startPush.cadence = { t.cadence with
      coldWait := .stopped
      operation := some (.push t.loadDecision.2)
      handlingTimer := some (t.timer t.settings.handlingTimeout) } := fun t => by
    obtain ⟨-, -, -, -, -, -, -, -, cadence⟩ := t.startPush_frame
    exact cadence
  rcases s.choose_cases with h | ⟨-, -, ⟨v, -, -, h⟩ | ⟨-, -, h⟩ | ⟨-, -, -, h⟩ | ⟨-, -, -, h⟩⟩ <;> rw [h]
  · rfl
  · simp [State.startExtract]
  · rw [pushes]
  · unfold State.startColdWait
    split
    · rw [pushes]
    · rfl

theorem State.choose_lineMoved : LineMoved s s.choose := by
  obtain ⟨-, recipes, arbiter, -⟩ := s.choose_frame
  have cadence := s.choose_cadence
  refine ⟨?_, ?_, ?_, recipes, s.choose_outside⟩
  · rw [cadence]
  · have trains := congrArg (List.map billetOf) s.choose_trainIs
    rw [List.map_map, List.map_map] at trains
    exact trains
  · rw [SliceKept, arbiter]; exact fun _ => ⟨rfl, rfl⟩

theorem State.moveLine_lineMoved (new : LineState) : LineMoved s (s.moveLine new) := by
  obtain ⟨-, -, recipes, -⟩ := s.moveLine_frame new
  exact ⟨by rw [s.moveLine_cadence new], s.moveLine_sameBillets new, (s.moveLine_reported new).2, recipes,
    s.moveLine_outside new⟩

/-- A change to a state other than RUN makes no choice (R75). -/
theorem State.changeLine_of_other {new : LineState} (other : new ≠ .run) : s.changeLine new = s.moveLine new := by
  unfold State.changeLine
  exact if_neg other

theorem State.changeLine_run : s.changeLine .run = (s.moveLine .run).stopIfDrained.choose := by
  unfold State.changeLine
  exact if_pos rfl

theorem State.stopIfDrained_lineMoved : LineMoved s s.stopIfDrained := by
  unfold State.stopIfDrained
  split
  · exact s.moveLine_lineMoved .stopped
  · exact .refl s

theorem State.changeLine_lineMoved (new : LineState) : LineMoved s (s.changeLine new) := by
  unfold State.changeLine
  dsimp only
  split
  · exact ((s.moveLine_lineMoved new).trans (State.stopIfDrained_lineMoved _)).trans (State.choose_lineMoved _)
  · exact s.moveLine_lineMoved new

theorem State.Reported.stopIfDrained {s : State} (h : s.Reported) : s.stopIfDrained.Reported := by
  unfold State.stopIfDrained
  split
  · exact (s.moveLine_reported .stopped).1
  · exact h

theorem State.changeLine_reported (new : LineState) : (s.changeLine new).Reported := by
  have moved := (s.moveLine_reported new).1
  unfold State.changeLine
  dsimp only
  split
  · exact moved.stopIfDrained.choose
  · exact moved

theorem State.drained_iff : s.drained = true ↔ s.cadence.line = .run ∧ LineEmptied s := by
  simp [State.drained, LineEmptied, and_assoc]

/-- A release of the line: RUN, or STOPPED where it is drained (R76, R84). -/
theorem State.changeLine_run_line :
    (s.changeLine .run).cadence.line = (if LineEmptied s then .stopped else .run) ∧
    (s.changeLine .run).tracker.line = (s.changeLine .run).cadence.line := by
  have moved := s.moveLine_lineMoved .run
  obtain ⟨-, -, -, -, -, -, -, known, -, line, -, operation, -⟩ := s.moveLine_frame .run
  have emptied : LineEmptied (s.moveLine .run) ↔ LineEmptied s := by
    have marks := moved.marks
    simp only [Prod.mk.injEq] at marks
    obtain ⟨-, -, -, noLoad, -⟩ := marks
    rw [LineEmptied, noLoad, moved.train_eq_nil_iff, operation]
  obtain ⟨-, -, -, -, -, -, -, chosen, -, -, -, -, known', -⟩ := (s.moveLine .run).stopIfDrained.choose_frame
  rw [State.changeLine_run, chosen, known']
  unfold State.stopIfDrained
  by_cases empty : LineEmptied s
  · obtain ⟨-, -, -, -, -, -, -, stopped, -, line', -⟩ := (s.moveLine .run).moveLine_frame .stopped
    rw [if_pos ((State.drained_iff _).2 ⟨line, emptied.2 empty⟩), if_pos empty, stopped, line']
    exact ⟨rfl, rfl⟩
  · rw [if_neg fun d => empty (emptied.1 ((State.drained_iff _).1 d).2), if_neg empty, known, line]
    exact ⟨rfl, rfl⟩

/-- What a line left without a cause is released to (R76, R84). `s` is the line as it was, `r` the line with the causes
removed. -/
theorem State.changeLine_released {s r : State} (free : r.cadence.held = false)
    (same : (r.cadence.noLoad, r.cadence.occupancyUnknown, r.cadence.operation, r.tracker, r.arbiter, r.recipes) =
      (s.cadence.noLoad, s.cadence.occupancyUnknown, s.cadence.operation, s.tracker, s.arbiter, s.recipes) := by rfl) :
    ReleasedLeaves s (r.changeLine .run).settle := by
  have moved := (r.changeLine_lineMoved .run).settle
  have reported := (r.changeLine_reported .run).settle
  obtain ⟨line, known⟩ := r.changeLine_run_line
  have marks := moved.marks
  simp only [Prod.mk.injEq] at marks same
  obtain ⟨-, -, -, noLoad, occupancy, -⟩ := marks
  obtain ⟨noLoad', occupancy', operation', tracker', arbiter', recipes'⟩ := same
  have emptied : LineEmptied r ↔ LineEmptied s := by rw [LineEmptied, noLoad', tracker', operation']
  have billets := moved.billets
  have slice := moved.slice
  rw [SameBillets, tracker'] at billets
  rw [SliceKept, arbiter'] at slice
  exact ⟨line.trans (if_congr emptied rfl rfl), known, moved.held.trans free, noLoad.trans noLoad',
    occupancy.trans occupancy', reported.demand, billets, slice, moved.recipes.trans recipes'⟩

/-- What the entry to HOLD leaves of a line in RUN (R76, R75, R88). -/
theorem State.moveLine_holdEntered {s : State} (run : s.cadence.line = .run) :
    HoldEntered s.cadence s (s.moveLine .hold) := by
  have moved := s.moveLine_lineMoved .hold
  obtain ⟨-, ring, -, -, -, -, -, known, -⟩ := s.moveLine_frame .hold
  obtain ⟨-, declined⟩ := s.moveLine_pulses .hold
  simp only [run, true_and] at declined
  refine ⟨?_, known, s.moveLine_announces rfl, (s.moveLine_reported .hold).1.demand, declined, moved.billets,
    moved.slice, moved.recipes, ring⟩
  have cadence := s.moveLine_cadence .hold
  rw [if_pos run, if_pos run] at cadence
  exact cadence

end Sys2Proof.Machine
end

section
/-! PROOF. The requests of the line (O10 to O14). -/

namespace Sys2Proof.Machine

set_option Elab.async false

variable {s : State}

/-! ### START -/

theorem State.powerFit_iff (s : State) : s.powerFit = true ↔ s.arbiter.enable = true ∧ s.pins.convReady = true := by
  simp [State.powerFit]

/-- The state with the no-load flag cleared (R81). -/
def State.clearNoLoad (s : State) : State := { s with cadence.noLoad := false }

theorem startRequest_taken (taken : StartTaken s) :
    startRequest s = ((s.clearNoLoad.changeLine (if s.cadence.held then .hold else .run)).settle).accept [] := by
  obtain ⟨stopped, known, enable, ready⟩ := taken
  unfold startRequest
  rw [if_neg (fun running => running stopped), if_neg (by simp [known]),
    if_neg (by simp [s.powerFit_iff.2 ⟨enable, ready⟩])]
  rfl

/-- A line that START has cleared of the no-load flag is not drained, so that it stays in the state it is taken to
(R81, R84). -/
theorem State.changeLine_cleared_line {c : State} (cleared : c.cadence.noLoad = false) {new : LineState}
    (other : new = .run ∨ new = .hold) :
    (c.changeLine new).cadence.line = new ∧ (c.changeLine new).tracker.line = (c.changeLine new).cadence.line := by
  rcases other with rfl | rfl
  · obtain ⟨line, known⟩ := c.changeLine_run_line
    rw [if_neg fun empty => by rw [LineEmptied, cleared] at empty; cases empty.1] at line
    exact ⟨line, known⟩
  · obtain ⟨-, -, -, -, -, -, -, known, -, line, -⟩ := c.moveLine_frame .hold
    rw [c.changeLine_of_other (by decide), line, known]
    exact ⟨rfl, rfl⟩

/-- Nothing is started on the way to HOLD, nor with an operation in flight (R75, R91). -/
theorem State.changeLine_starts_nothing {c : State} (cleared : c.cadence.noLoad = false) {new : LineState}
    (idle : new ≠ .run ∨ c.cadence.operation.isSome = true) :
    (c.changeLine new).cadence.operation = c.cadence.operation ∧ (c.changeLine new).ring = c.ring := by
  obtain ⟨-, ring, -, -, -, -, -, -, -, -, -, operation, -⟩ := c.moveLine_frame new
  have stays : c.changeLine new = c.moveLine new := by
    by_cases run : new = .run
    · subst run
      have busy := idle.resolve_left fun other => other rfl
      have stands : (c.moveLine .run).stopIfDrained = c.moveLine .run := by
        have marks := (c.moveLine_lineMoved .run).marks
        simp only [Prod.mk.injEq] at marks
        obtain ⟨-, -, -, noLoad, -⟩ := marks
        unfold State.stopIfDrained
        exact if_neg fun d => by
          obtain ⟨-, empty, -⟩ := (State.drained_iff _).1 d
          rw [noLoad, cleared] at empty
          cases empty
      rw [State.changeLine_run, stands, State.choose_busy (by rw [operation]; exact busy)]
    · exact c.changeLine_of_other run
  rw [stays]
  exact ⟨operation, ring⟩

theorem startRequest_leaves (taken : StartTaken s) : StartLeaves s (startRequest s) := by
  rw [startRequest_taken taken]
  obtain ⟨-, known, -⟩ := taken
  have production : (if s.cadence.held then LineState.hold else .run) = .run ∨
      (if s.cadence.held then LineState.hold else .run) = .hold := by
    cases s.cadence.held <;> simp
  have moved := s.clearNoLoad.changeLine_lineMoved (if s.cadence.held then .hold else .run)
  have reported := s.clearNoLoad.changeLine_reported (if s.cadence.held then .hold else .run)
  obtain ⟨line, told⟩ := State.changeLine_cleared_line (c := s.clearNoLoad) rfl production
  have marks := moved.marks
  simp only [Prod.mk.injEq] at marks
  obtain ⟨manual, pressStop, supply, noLoad, occupancy, -, minPush, -⟩ := marks
  refine ⟨line, told, noLoad, manual, pressStop, supply, occupancy.trans known, minPush, rfl, moved.sameOutside,
    moved.billets, moved.slice, reported.demand, moved.recipes, fun held => ?_, fun idle => ?_⟩
  · rw [if_pos held, State.changeLine_of_other _ (by decide)]
    have announced := s.clearNoLoad.moveLine_announces (new := .hold) rfl
    exact announced
  · refine State.changeLine_starts_nothing (c := s.clearNoLoad) rfl (idle.imp_left fun held => ?_)
    rw [if_pos held]
    decide

/-- Settles O10: the checks in their order, then the change of line state that the causes present ask for. -/
theorem startTakesLineIntoProduction : Obligations.StartTakesLineIntoProduction := by
  refine fun s => ⟨fun taken => ⟨_, rfl, startRequest_leaves taken⟩, fun running => ?_, fun stopped unknown => ?_,
    fun stopped known unfit => ?_⟩
  all_goals refine congrArg Host.Outcome.next ?_; show startRequest s = s.refuse _; unfold startRequest
  · rw [if_pos running]
  · rw [if_neg (fun running => running stopped), if_pos unknown]
  · rw [if_neg (fun running => running stopped), if_neg (by simp [known]),
      if_pos (by rcases unfit with h | h <;> simp [State.powerFit, h])]

/-! ### STOP -/

theorem stopRequest_taken (production : InProduction s) : stopRequest s = (s.moveLine .stopped).accept [] := by
  unfold stopRequest
  rw [if_pos production, State.changeLine_of_other s (by decide), State.settle_of_follows (s.moveLine_follows .stopped)]

theorem stopRequest_leaves (production : InProduction s) : StopLeaves s (stopRequest s) := by
  rw [stopRequest_taken production]
  have moved := s.moveLine_lineMoved .stopped
  obtain ⟨-, ring, -, -, -, -, -, known, -, line, -⟩ := s.moveLine_frame .stopped
  have pins := s.moveLine_pins .stopped
  rw [Cadence.pressReadyLevel_of_line (by rw [line]; decide)] at pins
  exact ⟨s.moveLine_cadence .stopped, known, (s.moveLine_reported .stopped).1.noDemand (by rw [known]; rfl),
    s.moveLine_announces rfl, pins, (s.moveLine_pulses .stopped).2, rfl, moved.sameOutside, moved.billets, moved.slice,
    moved.recipes, ring⟩

/-- Settles O11: the change to STOPPED withdraws all demand and declines the call of a line in RUN. -/
theorem stopLeavesProduction : Obligations.StopLeavesProduction := by
  refine fun s => ⟨fun production => ⟨_, rfl, stopRequest_leaves production⟩, fun elsewhere => ?_⟩
  exact congrArg Host.Outcome.next (if_neg elsewhere)

/-! ### HOLD -/

/-- A cause added in RUN takes the line to HOLD, and elsewhere leaves it (R76). -/
theorem State.afterCauseAdded_of_run (run : s.cadence.line = .run) : s.afterCauseAdded = s.moveLine .hold := by
  unfold State.afterCauseAdded
  rw [if_pos run, State.changeLine_of_other s (by decide)]

theorem State.afterCauseAdded_of_other (other : s.cadence.line ≠ .run) : s.afterCauseAdded = s := by
  unfold State.afterCauseAdded
  exact if_neg other

theorem State.moveLine_hold_pins (s : State) :
    (s.moveLine .hold).pins = { s.pins with pressReady := false, alert := (s.moveLine .hold).pins.alert } := by
  obtain ⟨-, -, -, -, -, -, -, -, -, line, -⟩ := s.moveLine_frame .hold
  have pins := s.moveLine_pins .hold
  rw [Cadence.pressReadyLevel_of_line (by rw [line]; decide)] at pins
  exact pins

theorem holdRequest_of_run (run : s.cadence.line = .run) (free : s.cadence.manual = false) :
    holdRequest s = (({ s with cadence.manual := true } : State).moveLine .hold).accept [] := by
  unfold holdRequest
  rw [if_pos (.inl run), if_neg (by simp [free]),
    State.afterCauseAdded_of_run (s := { s with cadence.manual := true }) run,
    State.settle_of_follows (State.moveLine_follows _ .hold)]

/-- Settles O12: the cause is added, and a line in RUN changes to HOLD. -/
theorem holdAddsManual : Obligations.HoldAddsManual := by
  refine fun s => ⟨fun run free => ?_, fun held => ?_, fun elsewhere => ?_⟩
  · have moved := State.moveLine_lineMoved { s with cadence.manual := true } .hold
    exact ⟨_, congrArg Host.Outcome.next (holdRequest_of_run run free),
      State.moveLine_holdEntered (s := { s with cadence.manual := true }) run,
      State.moveLine_hold_pins { s with cadence.manual := true }, rfl, moved.sameOutside⟩
  · refine congrArg Host.Outcome.next ?_
    have level : ({ s.cadence with manual := true } : Cadence).pressReadyLevel = false :=
      Cadence.pressReadyLevel_of_line (by rw [held]; decide)
    have added : (if s.cadence.manual then s else ({ s with cadence.manual := true } : State).afterCauseAdded) =
        { s with cadence.manual := true } := by
      split
      · rename_i manual
        rw [← manual]
      · exact State.afterCauseAdded_of_other (s := { s with cadence.manual := true }) (by rw [held]; decide)
    show holdRequest s = _
    unfold holdRequest
    rw [if_pos (.inr held), added, State.settle, level]
    rfl
  · exact congrArg Host.Outcome.next (if_neg elsewhere)

/-! ### RESUME -/

theorem State.afterCauseRemoved_of_released {before : Bool} (hold : s.cadence.line = .hold) (was : before = true)
    (free : s.cadence.held = false) : s.afterCauseRemoved before = s.changeLine .run := by
  unfold State.afterCauseRemoved
  exact if_pos ⟨hold, was, free⟩

theorem State.afterCauseRemoved_of_held {before : Bool}
    (stays : ¬ (s.cadence.line = .hold ∧ before = true ∧ s.cadence.held = false)) : s.afterCauseRemoved before = s := by
  unfold State.afterCauseRemoved
  exact if_neg stays

/-- The state with the causes removed that RESUME removes (R80). -/
def State.removeResumed (s : State) : State := { s with cadence.manual := false, cadence.supply := false }

theorem resumeRequest_fit (fit : s.powerFit = true) :
    resumeRequest s =
      ((s.removeResumed.afterCauseRemoved (s.cadence.manual || s.cadence.supply)).settle).accept [] :=
  if_pos fit

theorem State.removeResumed_held (s : State) : s.removeResumed.cadence.held = s.cadence.pressStop := by
  simp [State.removeResumed, Cadence.held]

theorem resumeRequest_released (fit : s.powerFit = true) (releases : ResumeReleases s) :
    resumeRequest s = ((s.removeResumed.changeLine .run).settle).accept [] := by
  obtain ⟨hold, causes, pressStop⟩ := releases
  rw [resumeRequest_fit fit, State.afterCauseRemoved_of_released (s := s.removeResumed) hold (by simpa using causes)
    (s.removeResumed_held.trans pressStop)]

theorem resumeRequest_held (fit : s.powerFit = true) (stays : ¬ ResumeReleases s) (follows : PressReadyFollows s) :
    resumeRequest s = s.removeResumed.accept [] := by
  have held : ¬ (s.removeResumed.cadence.line = .hold ∧ (s.cadence.manual || s.cadence.supply) = true ∧
      s.removeResumed.cadence.held = false) := fun ⟨hold, was, free⟩ =>
    stays ⟨hold, by simpa using was, s.removeResumed_held.symm.trans free⟩
  rw [resumeRequest_fit fit, State.afterCauseRemoved_of_held (s := s.removeResumed) held,
    State.settle_of_follows (s := s.removeResumed) follows]

/-- Settles O13: the line is released where MANUAL or SUPPLY was its last cause. -/
theorem resumeRemovesCauses : Obligations.ResumeRemovesCauses := by
  refine fun s => ⟨fun enable ready releases => ?_, fun enable ready stays follows => ?_, fun unfit => ?_⟩
  · obtain ⟨-, -, free⟩ := id releases
    have released := State.changeLine_released (s := s) (s.removeResumed_held.trans free)
    have outside := ((s.removeResumed.changeLine_lineMoved .run).settle.accept []).outside
    have taken := resumeRequest_released (s.powerFit_iff.2 ⟨enable, ready⟩) releases
    generalize s.removeResumed.changeLine .run = t at released outside taken
    exact ⟨_, congrArg Host.Outcome.next taken, released, rfl, sameOutside_of_outside outside⟩
  · exact congrArg Host.Outcome.next (resumeRequest_held (s.powerFit_iff.2 ⟨enable, ready⟩) stays follows)
  · refine congrArg Host.Outcome.next (if_neg fun fit => ?_)
    obtain ⟨enable, ready⟩ := s.powerFit_iff.1 fit
    rcases unfit with off | low
    · rw [enable] at off; cases off
    · rw [ready] at low; cases low

/-! ### DRAIN -/

theorem drainRequest_stops (run : s.cadence.line = .run) (train : s.tracker.train = []) (idle : s.cadence.operation = none) :
    drainRequest s = (({ s with cadence.noLoad := true } : State).moveLine .stopped).accept [] := by
  have drained : State.drained { s with cadence.noLoad := true } = true :=
    (State.drained_iff _).2 ⟨run, rfl, train, idle⟩
  unfold drainRequest State.stopIfDrained
  rw [if_pos (.inl run), if_pos drained, State.settle_of_follows (State.moveLine_follows _ .stopped)]

theorem drainRequest_leaves (run : s.cadence.line = .run) (train : s.tracker.train = [])
    (idle : s.cadence.operation = none) : DrainStops s (drainRequest s) := by
  rw [drainRequest_stops run train idle]
  have moved := State.moveLine_lineMoved { s with cadence.noLoad := true } .stopped
  obtain ⟨-, ring, -, -, -, -, -, known, -, line, -, operation, -⟩ :=
    State.moveLine_frame { s with cadence.noLoad := true } .stopped
  have reported := (State.moveLine_reported { s with cadence.noLoad := true } .stopped).1
  have cadence := State.moveLine_cadence { s with cadence.noLoad := true } .stopped
  refine ⟨line, known, ?_, ?_, operation.trans idle, moved.train_eq_nil_iff.2 train, State.moveLine_announces _ rfl, ?_,
    reported.noDemand (by rw [known]; rfl), rfl, moved.sameOutside, moved.slice, moved.recipes, ring⟩
  · exact congrArg Cadence.noLoad cadence
  · exact (congrArg Cadence.pendingCall cadence).trans (if_pos run)
  · exact (State.moveLine_follows _ .stopped).trans (Cadence.pressReadyLevel_of_line (by rw [line]; decide))

/-- Settles O14: the no-load flag is set, and a line in RUN found drained changes to STOPPED. -/
theorem drainSetsNoLoad : Obligations.DrainSetsNoLoad := by
  refine fun s => ⟨fun run train idle => ⟨_, rfl, drainRequest_leaves run train idle⟩, fun production stays follows => ?_,
    fun elsewhere => congrArg Host.Outcome.next (if_neg elsewhere)⟩
  refine congrArg Host.Outcome.next ((if_pos production).trans ?_)
  have running : State.stopIfDrained { s with cadence.noLoad := true } = { s with cadence.noLoad := true } := by
    refine if_neg fun drained => ?_
    obtain ⟨run, -, train, idle⟩ := (State.drained_iff _).1 drained
    rcases stays with hold | loaded | busy
    · rw [show s.cadence.line = .run from run] at hold; cases hold
    · exact loaded train
    · exact busy idle
  rw [running, State.settle_of_follows (s := { s with cadence.noLoad := true }) follows]
  rfl

end Sys2Proof.Machine
end

section
/-! PROOF. Calls of the press and its stop (O45 to O47). -/

namespace Sys2Proof.Machine

set_option Elab.async false

/-! ### A call -/

/-- Settles O46: outside RUN a call is declined. -/
theorem callOutsideRunDeclined : Obligations.CallOutsideRunDeclined := by
  intro s other
  refine congrArg Host.Outcome.next ((if_neg other).trans ?_)
  unfold State.decline
  rw [State.raise_eq_sourcesRaised, State.count_eq_eventCounted]
  rfl

/-- The start of an operation, as the tables give it (R89, R95). -/
theorem State.startOperation_eq (s : State) (o : Operation) : s.startOperation o = operationStarted s o := by
  unfold State.startOperation operationStarted
  rcases o with (_ | slot) | _ | _ <;> simp [State.timer]

/-- Where the choice has nothing to start it leaves the state (R91). -/
theorem State.choose_of_idle {s : State} (idle : ChoiceIdle s.cadence) : s.choose = s := by
  unfold State.choose
  by_cases fit : s.cadence.line = .run ∧ s.cadence.operation = none
  · obtain ⟨run, free⟩ := fit
    rw [if_pos ⟨run, free⟩]
    rcases idle with other | busy | ⟨v, exit, accept, uncalled⟩ | ⟨exit, waits⟩
    · exact absurd run other
    · rw [free] at busy; cases busy
    · simp only [exit]
      rw [if_neg (by simp [accept]), if_neg fun ⟨good, called⟩ => by rw [uncalled good] at called; cases called]
    · simp only [exit]
      rcases waits with minPush | ⟨cold, timer, wait⟩
      · rw [if_pos minPush]
      · have unfit : s.cadence.pushFit = false := by simp [Cadence.pushFit, cold, wait]
        split
        · rfl
        · rw [if_neg (by simp [unfit]), if_neg (by simp [wait])]
  · exact if_neg fit

/-- The start of an extraction of the exit billet (R98). -/
theorem State.startExtract_eq {s : State} {r : BilletRecord} (exit : s.tracker.exitRecord = some r) :
    s.startExtract = operationStarted
      { s with
        cadence := { s.cadence with pendingCall := false }
        tracker := { s.tracker with train := { r with extracting := true } :: s.tracker.train.tail } }
      .extract := by
  unfold State.startExtract
  rw [State.updateExit_of_exit (s := { s with cadence := { s.cadence with pendingCall := false } }) exit,
    State.startOperation_eq]

/-- Settles O45: the call taken starts the EXTRACT, and the call not taken is pending. -/
theorem callInRun : Obligations.CallInRun := by
  intro s run follows
  refine ⟨fun r ready exit => congrArg Host.Outcome.next ?_, fun low idle => congrArg Host.Outcome.next ?_⟩
  · have taken : pressCall s = ({ s with pins.pressCall := true } : State).startExtract.settle :=
      (if_pos run).trans (if_pos ready)
    rw [taken, State.startExtract_eq (s := { s with pins.pressCall := true }) exit, State.settle,
      Cadence.pressReadyLevel_of_busy rfl]
    rfl
  · have waits : pressCall s =
        ({ s with pins.pressCall := true, cadence.pendingCall := true } : State).choose.settle :=
      (if_pos run).trans (if_neg (by simp [low]))
    rw [waits, State.choose_of_idle idle]
    exact State.settle_of_follows
      (s := { s with pins.pressCall := true, cadence.pendingCall := true }) follows

/-! ### PRESS_STOP -/

variable {s : State}

/-- The PRESS_STOP cause outside RUN (R76). -/
theorem State.addPressStop_of_other (other : s.cadence.line ≠ .run) :
    s.addPressStop = { s with cadence.pressStop := true } := by
  unfold State.addPressStop
  split
  · rename_i present
    rw [← present]
  · exact State.afterCauseAdded_of_other (s := { s with cadence.pressStop := true }) other

/-- The PRESS_STOP cause in RUN (R76). -/
theorem State.addPressStop_of_run (run : s.cadence.line = .run) (free : s.cadence.pressStop = false) :
    s.addPressStop = ({ s with cadence.pressStop := true } : State).moveLine .hold := by
  unfold State.addPressStop
  rw [if_neg (by simp [free])]
  exact State.afterCauseAdded_of_run (s := { s with cadence.pressStop := true }) run

/-- The assertion of PRESS_STOP with a delay of 0 (R78). -/
theorem pressStopAsserted_at_once (zero : s.settings.holdDelay = 0) :
    pressStopAsserted s = ({ s with pins.pressStop := true } : State).addPressStop.settle :=
  congrArg State.settle (if_pos zero)

theorem holdDelayExpiry_running (runs : s.cadence.holdDelay.isSome = true) :
    holdDelayExpiry s = ({ s with cadence.holdDelay := none } : State).addPressStop.settle :=
  if_pos runs

/-- The assertion loads the hold delay, or adds the cause at once (R78). -/
theorem pressStopAsserted_leaves (follows : PressReadyFollows s) :
    (s.settings.holdDelay ≠ 0 →
      pressStopAsserted s = { s with
        pins := { s.pins with pressStop := true }
        cadence := { s.cadence with holdDelay := some ⟨s.tracker.clock, s.settings.holdDelay * 1000⟩ } }) ∧
    (s.settings.holdDelay = 0 → s.cadence.line ≠ .run →
      pressStopAsserted s =
        { s with pins := { s.pins with pressStop := true }, cadence := { s.cadence with pressStop := true } }) ∧
    (s.settings.holdDelay = 0 → s.cadence.line = .run → s.cadence.pressStop = false →
      (pressStopAsserted s).pins.pressStop = true ∧ (pressStopAsserted s).pins.pressReady = false ∧
        HoldEntered { s.cadence with pressStop := true } s (pressStopAsserted s)) := by
  refine ⟨fun delay => ?_, fun zero other => ?_, fun zero run free => ?_⟩
  · refine (congrArg State.settle (if_neg delay)).trans ?_
    exact State.settle_of_follows (s := { s with
      pins.pressStop := true, cadence.holdDelay := some ⟨s.tracker.clock, s.settings.holdDelay * 1000⟩ }) follows
  · rw [pressStopAsserted_at_once zero, State.addPressStop_of_other (s := { s with pins.pressStop := true }) other]
    exact State.settle_of_follows (s := { s with pins.pressStop := true, cadence.pressStop := true }) follows
  · rw [pressStopAsserted_at_once zero, State.addPressStop_of_run (s := { s with pins.pressStop := true }) run free,
      State.settle_of_follows (State.moveLine_follows _ .hold)]
    have pins := State.moveLine_hold_pins { s with pins.pressStop := true, cadence.pressStop := true }
    have entered := State.moveLine_holdEntered
      (s := { s with pins.pressStop := true, cadence.pressStop := true }) run
    exact ⟨congrArg Pins.pressStop pins, congrArg Pins.pressReady pins, entered⟩

/-- The expiry of the hold delay adds the cause (R78). -/
theorem holdDelayExpiry_leaves (follows : PressReadyFollows s) :
    (s.cadence.holdDelay.isSome = true → s.cadence.line ≠ .run →
      holdDelayExpiry s = { s with cadence := { s.cadence with holdDelay := none, pressStop := true } }) ∧
    (s.cadence.holdDelay.isSome = true → s.cadence.line = .run → s.cadence.pressStop = false →
      (holdDelayExpiry s).pins.pressReady = false ∧ SameOutside s (holdDelayExpiry s) ∧
        HoldEntered { s.cadence with holdDelay := none, pressStop := true } s (holdDelayExpiry s)) := by
  refine ⟨fun runs other => ?_, fun runs run free => ?_⟩
  · rw [holdDelayExpiry_running runs,
      State.addPressStop_of_other (s := { s with cadence.holdDelay := none }) other]
    exact State.settle_of_follows (s := { s with cadence.holdDelay := none, cadence.pressStop := true }) follows
  · rw [holdDelayExpiry_running runs,
      State.addPressStop_of_run (s := { s with cadence.holdDelay := none }) run free,
      State.settle_of_follows (State.moveLine_follows _ .hold)]
    have pins := State.moveLine_hold_pins { s with cadence.holdDelay := none, cadence.pressStop := true }
    have entered := State.moveLine_holdEntered
      (s := { s with cadence.holdDelay := none, cadence.pressStop := true }) run
    have outside := (State.moveLine_lineMoved
      { s with cadence.holdDelay := none, cadence.pressStop := true } .hold).outside
    exact ⟨congrArg Pins.pressReady pins, sameOutside_of_outside outside, entered⟩

/-- The state with PRESS_STOP negated, its delay stopped and its cause removed (R78). -/
def State.removePressStop (s : State) : State :=
  { s with pins.pressStop := false, cadence.holdDelay := none, cadence.pressStop := false }

/-- The negation of PRESS_STOP releases the line it alone holds, and leaves it elsewhere (R78, R76). -/
theorem pressStopNegated_released (hold : s.cadence.line = .hold) (present : s.cadence.pressStop = true)
    (manual : s.cadence.manual = false) (supply : s.cadence.supply = false) :
    pressStopNegated s = (s.removePressStop.changeLine .run).settle := by
  refine (if_pos present).trans (congrArg State.settle ?_)
  exact State.afterCauseRemoved_of_released (s := s.removePressStop) hold rfl
    (by simp [Cadence.held, State.removePressStop, manual, supply])

theorem pressStopNegated_kept (follows : PressReadyFollows s) (stays : s.cadence.line ≠ .hold ∨
    s.cadence.pressStop = false ∨ s.cadence.manual = true ∨ s.cadence.supply = true) :
    pressStopNegated s = s.removePressStop := by
  unfold pressStopNegated
  by_cases present : s.cadence.pressStop = true
  · have held : ¬ (s.removePressStop.cadence.line = .hold ∧ true = true ∧ s.removePressStop.cadence.held = false) := by
      simp only [State.removePressStop, Cadence.held]
      grind
    rw [if_pos present, ← State.settle_of_follows (s := s.removePressStop) follows]
    exact congrArg State.settle (State.afterCauseRemoved_of_held (s := s.removePressStop) held)
  · have absent := Bool.eq_false_iff.2 present
    rw [if_neg present, State.removePressStop, ← absent]

/-- Settles O47: each change of PRESS_STOP and the expiry of its delay. -/
theorem pressStopHoldsThroughDelay : Obligations.PressStopHoldsThroughDelay := by
  intro s follows
  obtain ⟨loads, adds, holds⟩ := pressStopAsserted_leaves follows
  obtain ⟨expires, enters⟩ := holdDelayExpiry_leaves follows
  refine ⟨fun delay => congrArg Host.Outcome.next (loads delay),
    fun zero other => congrArg Host.Outcome.next (adds zero other), fun zero run free => ⟨_, rfl, holds zero run free⟩,
    fun stopped => congrArg Host.Outcome.next (if_neg (by simp [stopped])),
    fun runs other => congrArg Host.Outcome.next (expires runs other), fun runs run free => ⟨_, rfl, enters runs run free⟩,
    fun hold present manual supply => ?_, fun stays => congrArg Host.Outcome.next (pressStopNegated_kept follows stays)⟩
  have taken := pressStopNegated_released hold present manual supply
  have moved := s.removePressStop.changeLine_lineMoved .run
  have released := State.changeLine_released (s := s) (r := s.removePressStop)
    (by simp [Cadence.held, State.removePressStop, manual, supply])
  have marks := moved.marks
  obtain ⟨-, -, -, -, -, inputs, -⟩ := moved.sameOutside
  generalize s.removePressStop.changeLine .run = t at taken released marks inputs
  simp only [Prod.mk.injEq] at marks inputs
  obtain ⟨-, -, -, -, -, delay, -⟩ := marks
  obtain ⟨-, input, -⟩ := inputs
  exact ⟨t.settle, congrArg Host.Outcome.next taken, input, delay, released⟩

end Sys2Proof.Machine
end

section
/-! SUPPORT. The load decision as the tables give it: the skips, the head loaded, RING_LOW (O49, O51). -/

namespace Sys2Proof.Machine

set_option Elab.async false

/-! ### Batching (R135) -/

/-- Two raises of one source, with no level and no attention set changed between them, are one. -/
theorem State.raiseIf_twice (s : State) (ring : Ring) (counters : Vector Counter 4) (wires : Wires) (a b : Bool)
    (x : Source) :
    ({ s.raiseIf a x with ring := ring, counters := counters, wires := wires } : State).raiseIf b x =
      ({ s with ring := ring, counters := counters, wires := wires } : State).raiseIf (a || b) x := by
  cases a <;> cases b <;>
    simp [State.raiseIf, State.raise, State.setAttention, BitVec.or_assoc]

/-- One retirement, in the words of the block that takes it. -/
theorem batchedOne_eq (s : State) (b : Batching) (o : BilletOrder) :
    batchedOne s b o =
      if batchRaises s.settings.batchThreshold (if o.report then addSaturating top16 b.count 1 else b.count)
          o.report o.delay then ⟨0, none, true⟩
      else ⟨if o.report then addSaturating top16 b.count 1 else b.count,
        if o.delay then some ⟨s.tracker.clock, s.settings.batchDelay⟩ else b.timer, b.raised⟩ := by
  refine if_congr ?_ rfl rfl
  cases o.report <;> simp [batchRaises, addSaturating, top16]

/-- The state with batching as given, and ORDER_DONE raised where it says so (R135). -/
def State.batched (s : State) (b : Batching) : State :=
  ({ s with ring.batch := b.count, ring.batchTimer := b.timer } : State).raiseIf b.raised .orderDone

/-- A retirement is taken into batching (R135). -/
theorem State.batch_eq (s : State) (o : BilletOrder) :
    s.batch o = s.batched (batchedOne s ⟨s.ring.batch, s.ring.batchTimer, false⟩ o) := by
  rw [batchedOne_eq]
  unfold State.batch State.raiseOrderDone
  cases o.report <;> cases o.delay <;> simp only [if_true, if_false, Bool.false_eq_true] <;> split <;> rfl

/-- What has been raised before bears on what has been raised, and on nothing else (R135). -/
theorem batchedOne_raised (s : State) (count : Nat) (timer : Option RunningTimer) (raised : Bool) (o : BilletOrder) :
    batchedOne s ⟨count, timer, raised⟩ o =
      { batchedOne s ⟨count, timer, false⟩ o with raised := raised || (batchedOne s ⟨count, timer, false⟩ o).raised } := by
  simp only [batchedOne_eq]
  generalize batchRaises _ _ _ _ = raises
  cases raises <;> simp

/-- Batching reads the settings and the line clock of the state (R135). -/
theorem batchedOne_congr {s t : State} (settings : t.settings = s.settings) (clock : t.tracker.clock = s.tracker.clock)
    (b : Batching) (o : BilletOrder) : batchedOne t b o = batchedOne s b o := by
  rw [batchedOne_eq, batchedOne_eq, settings, clock]

/-- A retirement is taken into batching that stands as given (R135). -/
theorem State.batch_of {s u : State} {b : Batching} (o : BilletOrder) (count : s.ring.batch = b.count)
    (timer : s.ring.batchTimer = b.timer) (settings : s.settings = u.settings)
    (clock : s.tracker.clock = u.tracker.clock) :
    s.batch o = s.batched (batchedOne u ⟨b.count, b.timer, false⟩ o) := by
  rw [State.batch_eq, batchedOne_congr settings clock, count, timer]

/-! ### The slots of a load decision -/

theorem slotOn_zero (i : Fin 64) : slotOn i 0 = i := by
  ext; simp [slotOn, Nat.mod_eq_of_lt i.isLt]

theorem slotOn_succ (i : Fin 64) (k : Nat) : slotOn i k + 1 = slotOn i (k + 1) := by
  ext; simp [slotOn, Fin.val_add]; omega

/-- The distance of a slot from the load pointer says where it stands. -/
theorem eq_slotOn_iff {i j : Fin 64} {k : Nat} (k64 : k < 64) : (j.val + 64 - i.val) % 64 = k ↔ j = slotOn i k := by
  rw [Fin.ext_iff]
  simp only [slotOn]
  omega

theorem slotsSkipped_zero (r : Ring) : slotsSkipped r 0 = r.slots := by
  ext i h; simp [slotsSkipped]

theorem slotsSkipped_get (r : Ring) (k : Nat) (i : Fin 64) :
    (slotsSkipped r k)[i] = if (i.val + 64 - r.load.val) % 64 < k then
      match r.slots[i].toSkip with
      | some o => .done o (emptyStatus .noRecipe)
      | none => r.slots[i]
    else r.slots[i] := by
  simp only [slotsSkipped, Fin.getElem_fin, Vector.getElem_mapIdx]
  rfl

/-- One skip more makes the head's slot DONE (R129). -/
theorem slotsSkipped_succ {r : Ring} {k : Nat} {o : BilletOrder} (k64 : k < 64)
    (head : r.slots[slotOn r.load k].toSkip = some o) :
    slotsSkipped r (k + 1) = (slotsSkipped r k).set (slotOn r.load k) (.done o (emptyStatus .noRecipe)) := by
  have each : ∀ j : Fin 64, (slotsSkipped r (k + 1))[j] =
      ((slotsSkipped r k).set (slotOn r.load k) (.done o (emptyStatus .noRecipe)))[j] := by
    intro j
    have here := eq_slotOn_iff (i := r.load) (j := j) k64
    simp only [Fin.getElem_fin, Vector.getElem_set]
    simp only [← Fin.getElem_fin, slotsSkipped_get]
    by_cases same : j = slotOn r.load k
    · subst same
      rw [if_pos (by have := here.2 rfl; omega), if_pos rfl, head]
    · rw [if_neg (c := (slotOn r.load k).val = j.val) fun value => same (Fin.ext value.symm)]
      exact if_congr (by have := mt here.1 same; omega) rfl rfl
  ext i h
  exact each ⟨i, h⟩

/-- The head after the skips is the head of before, but that a slot skipped is skipped no more. -/
theorem slotsSkipped_head (r : Ring) {k : Nat} (k64 : k < 64) :
    (slotsSkipped r k)[slotOn r.load k] = r.slots[slotOn r.load k] := by
  rw [slotsSkipped_get, if_neg]
  rw [(eq_slotOn_iff k64).2 rfl]
  omega

theorem slotsSkipped_around (r : Ring) : (slotsSkipped r 64)[slotOn r.load 64].toSkip = none := by
  rw [slotsSkipped_get, if_pos (Nat.mod_lt _ (by decide))]
  split
  · rfl
  · assumption

/-! ### The skips (R129) -/

/-- The state after `k` skips, with batching as given, but for ORDER_DONE. -/
def State.headsSkipped (s : State) (k : Nat) (b : Batching) : State :=
  { s with
    ring.slots := slotsSkipped s.ring k
    ring.load := slotOn s.ring.load k
    ring.queued := s.ring.queued - k
    ring.batch := b.count
    ring.batchTimer := b.timer
    counters := s.counters.mapIdx (fun _ c =>
      if c.selection = 7 then { c with count := c.count + BitVec.ofNat 32 k } else c)
    wires.skipPulses := s.wires.skipPulses + k }

/-- The state after the skips of the orders of a list, oldest first: each retired, with its skip pulse. -/
def State.passed (s : State) (orders : List BilletOrder) : State :=
  (s.headsSkipped orders.length (batchedAll s orders)).raiseIf (batchedAll s orders).raised .orderDone

theorem State.passed_nil (s : State) : s.passed [] = s := by
  have counters : s.counters.mapIdx (fun _ c =>
      if c.selection = 7 then { c with count := c.count + BitVec.ofNat 32 0 } else c) = s.counters := by
    ext i h
    simp
  simp only [State.passed, State.headsSkipped, List.length_nil, slotsSkipped_zero, slotOn_zero, counters]
  rfl

@[simp] theorem State.passed_ring (s : State) (orders : List BilletOrder) :
    (s.passed orders).ring.slots = slotsSkipped s.ring orders.length ∧
    (s.passed orders).ring.load = slotOn s.ring.load orders.length ∧
    (s.passed orders).ring.queued = s.ring.queued - orders.length := by
  simp [State.passed, State.headsSkipped]

theorem batchedAll_snoc (s : State) (orders : List BilletOrder) (o : BilletOrder) :
    batchedAll s (orders ++ [o]) = batchedOne s (batchedAll s orders) o := by
  simp [batchedAll]

theorem Slot.toSkip_eq_some_iff {x : Slot} {o : BilletOrder} :
    x.toSkip = some o ↔ x = .queued o ∧ o.resolution = .noRecipe := by
  cases x <;> simp [Slot.toSkip]
  grind

/-- The retirement of an order marked NO_RECIPE (R132). -/
theorem State.retire_skipped {s : State} {i : Fin 64} {o : BilletOrder} (head : s.ring.slots[i] = .queued o) :
    s.retire i (emptyStatus .noRecipe) =
      ((s.setSlot i (.done o (emptyStatus .noRecipe))).count .orderSkipped).batch o := by
  unfold State.retire
  rw [head]
  rfl

theorem skipCounted_succ (counters : Vector Counter 4) (k : Nat) :
    counters.mapIdx (fun _ c => if c.selection = 7 then { c with count := c.count + BitVec.ofNat 32 (k + 1) } else c) =
      (counters.mapIdx (fun _ c =>
        if c.selection = 7 then { c with count := c.count + BitVec.ofNat 32 k } else c)).mapIdx
          (fun _ c => c.tick CountedEvent.orderSkipped.number) := by
  ext i h
  simp only [Vector.getElem_mapIdx, Counter.tick]
  by_cases counts : counters[i].selection = 7
  · simp [counts, CountedEvent.number, BitVec.ofNat_add, BitVec.add_assoc]
  · simp [counts, CountedEvent.number]

/-- One skip more (R129). -/
theorem State.passed_snoc (s : State) {orders : List BilletOrder} {o : BilletOrder} (room : orders.length < 64)
    (head : s.ring.slots[slotOn s.ring.load orders.length].toSkip = some o) :
    (((s.passed orders).retire (slotOn s.ring.load orders.length) (emptyStatus .noRecipe)).advanceLoad).skipPulse =
      s.passed (orders ++ [o]) := by
  have atHead : (s.passed orders).ring.slots[slotOn s.ring.load orders.length] = .queued o := by
    rw [(s.passed_ring orders).1, slotsSkipped_head s.ring room]
    exact (Slot.toSkip_eq_some_iff.1 head).1
  have raised : ∀ (t : State) (b : Batching), (t.batched b).advanceLoad.skipPulse =
      (({ t with ring.batch := b.count, ring.batchTimer := b.timer } : State).advanceLoad.skipPulse).raiseIf b.raised
        .orderDone := fun t b => by unfold State.batched; cases b.raised <;> rfl
  rw [State.retire_skipped atHead, State.batch_of (u := s) (b := batchedAll s orders), raised]
  rotate_left
  iterate 4 simp [State.passed, State.headsSkipped]
  rw [State.passed, State.passed, batchedAll_snoc, List.length_append, List.length_singleton]
  generalize batchedAll s orders = b
  obtain ⟨count, timer, given⟩ := b
  rw [batchedOne_raised s count timer given]
  generalize batchedOne s ⟨count, timer, false⟩ o = c
  refine (State.raiseIf_twice _ _ _ _ given c.raised .orderDone).trans ?_
  congr 1
  simp only [State.headsSkipped, slotsSkipped_succ room head, ← slotOn_succ, ← Nat.sub_sub, ← Nat.add_assoc,
    skipCounted_succ]
  cases given <;> rfl

/-- The orders a load decision skips from the `k`th slot on, at most `n` of them. -/
def skippedFrom (s : State) (k : Nat) : Nat → List BilletOrder
  | 0 => []
  | n + 1 => match s.ring.slots[slotOn s.ring.load k].toSkip with
    | some o => o :: skippedFrom s (k + 1) n
    | none => []

theorem skippedOrders_eq (s : State) : skippedOrders s = skippedFrom s 0 (min s.ring.queued 64) := by
  have counted : ∀ n k, (((List.range' k n).map fun j => s.ring.slots[slotOn s.ring.load j].toSkip).takeWhile
      Option.isSome).reduceOption = skippedFrom s k n := by
    intro n
    induction n with
    | zero => exact fun _ => rfl
    | succ n ih =>
      intro k
      rw [List.range'_succ, List.map_cons, skippedFrom]
      cases s.ring.slots[slotOn s.ring.load k].toSkip with
      | none => rfl
      | some o =>
        rw [List.takeWhile_cons_of_pos rfl, List.reduceOption_cons_of_some, ih]
  rw [skippedOrders, List.range_eq_range', counted]

theorem State.skipHeads_of_kept {t : State} (kept : t.ring.slots[t.ring.load].toSkip = none) (n : Nat) :
    t.skipHeads n = t := by
  cases n with
  | zero => rfl
  | succ n =>
    unfold State.skipHeads
    split
    · rename_i order head
      rw [if_neg]
      intro marked
      rw [Slot.toSkip_eq_some_iff.2 ⟨head, marked⟩] at kept
      cases kept
    all_goals rfl

/-- The skips go on until a slot that is not to be skipped, or all round the ring (R129). -/
theorem State.passed_skipHeads (s : State) (n : Nat) (orders : List BilletOrder) (room : orders.length ≤ 64) :
    (s.passed orders).skipHeads n = s.passed (orders ++ skippedFrom s orders.length (min n (64 - orders.length))) := by
  induction n generalizing orders with
  | zero => simp [skippedFrom, State.skipHeads]
  | succ n ih =>
    obtain ⟨slots, load, -⟩ := s.passed_ring orders
    rcases Nat.lt_or_eq_of_le room with less | full
    · have atHead : (s.passed orders).ring.slots[(s.passed orders).ring.load] =
          s.ring.slots[slotOn s.ring.load orders.length] := by
        rw [← slotsSkipped_head s.ring less]
        simp only [slots, load]
      rw [show min (n + 1) (64 - orders.length) = min n (64 - (orders.length + 1)) + 1 by omega, skippedFrom]
      split
      · rename_i o head
        obtain ⟨queued, marked⟩ := Slot.toSkip_eq_some_iff.1 head
        have head' : (s.passed orders).ring.slots[(s.passed orders).ring.load] = .queued o := by rw [atHead]; exact queued
        have next := ih (orders ++ [o]) (by simpa using less)
        rw [← s.passed_snoc less head, List.length_append, List.length_singleton] at next
        unfold State.skipHeads
        rw [head']
        dsimp only
        rw [if_pos marked, load, next, List.append_assoc]
        rfl
      · rename_i kept
        rw [State.skipHeads_of_kept (by rw [atHead]; exact kept), List.append_nil]
    · have around : (s.passed orders).ring.slots[(s.passed orders).ring.load].toSkip = none := by
        simp only [slots, load, full]
        exact slotsSkipped_around s.ring
      rw [State.skipHeads_of_kept around, show min (n + 1) (64 - orders.length) = 0 by omega, skippedFrom, List.append_nil]

theorem State.skipHeads_eq (s : State) : s.skipHeads s.ring.queued = s.passed (skippedOrders s) := by
  have skipped := s.passed_skipHeads s.ring.queued [] (by simp)
  rw [s.passed_nil] at skipped
  rw [skippedOrders_eq]
  exact skipped

/-! ### The head (R129) and RING_LOW (R138) -/

theorem Slot.toLoading_eq (x : Slot) : x.toLoading = slotLoading x := by
  cases x <;> rfl

theorem State.passed_loadableHead (s : State) (orders : List BilletOrder) :
    (s.passed orders).loadableHead = headLoaded s orders.length := by
  obtain ⟨slots, load, queued⟩ := s.passed_ring orders
  have recipes : (s.passed orders).recipes = s.recipes := by simp [State.passed, State.headsSkipped]
  unfold State.loadableHead headLoaded
  rw [queued, recipes]
  refine if_congr Nat.sub_eq_zero_iff_le rfl ?_
  simp only [slots, load] <;> rfl

theorem State.ringLow_eq (s : State) (before : Nat) :
    s.ringLow before =
      if s.settings.ringLowMark < before ∧ s.ring.queued ≤ s.settings.ringLowMark then sourcesRaised s 0b100#11
      else s := by
  unfold State.ringLow State.raiseIf
  rw [State.raise_eq_sourcesRaised]
  exact if_congr (by simp) rfl rfl

/-- A load decision that loads a gap. -/
theorem loadDecided_none (s : State) (orders : List BilletOrder) :
    loadDecided s orders none = (s.passed orders).ringLow s.ring.queued := by
  rw [State.ringLow_eq]
  unfold loadDecided State.passed State.raiseIf
  rw [State.raise_eq_sourcesRaised]
  dsimp only
  generalize batchedAll s orders = b
  obtain ⟨count, timer, raised⟩ := b
  cases raised <;> rfl

/-- A load decision that loads the head. -/
theorem loadDecided_some (s : State) (orders : List BilletOrder) {i : Fin 64} :
    loadDecided s orders (some i) =
      (((s.passed orders).setSlot i (s.passed orders).ring.slots[i].toLoading).advanceLoad).ringLow s.ring.queued := by
  rw [State.ringLow_eq, Slot.toLoading_eq]
  unfold loadDecided State.passed State.raiseIf
  rw [State.raise_eq_sourcesRaised]
  simp only [Option.isSome_some, if_true, ← slotOn_succ, ← Nat.sub_sub]
  generalize batchedAll s orders = b
  obtain ⟨count, timer, raised⟩ := b
  cases raised <;> rfl

/-- The load decision of a push start outside a drain (R94). -/
theorem State.loadDecision_eq {s : State} (loads : s.cadence.noLoad = false) :
    s.loadDecision = (loadDecided s (skippedOrders s) (headLoaded s (skippedOrders s).length),
      headLoaded s (skippedOrders s).length) := by
  unfold State.loadDecision
  rw [if_neg (by simp [loads]), State.skipHeads_eq]
  dsimp only
  rw [State.passed_loadableHead]
  cases headLoaded s (skippedOrders s).length with
  | none => rw [loadDecided_none]
  | some i => rw [loadDecided_some]

end Sys2Proof.Machine
end

section
/-! PROOF. The waits of the choice end in pushes (O51). -/

namespace Sys2Proof.Machine

set_option Elab.async false

variable {s : State}

/-! ### The start of a push (R94 to R96) -/

theorem State.loadDecision_of_noLoad (drains : s.cadence.noLoad = true) : s.loadDecision = (s, none) := by
  unfold State.loadDecision
  exact if_pos drains

theorem State.startPush_settle_eq (s : State) : s.startPush.settle = pushStarted s := by
  have busy : s.startPush.settle = { s.startPush with pins.pressReady := false } := by
    rw [State.settle, Cadence.pressReadyLevel_of_busy rfl]
  rw [busy]
  unfold State.startPush pushStarted
  cases drains : s.cadence.noLoad with
  | true =>
    rw [State.loadDecision_of_noLoad drains]
    dsimp only
    rw [State.startOperation_eq]
    rfl
  | false =>
    rw [State.loadDecision_eq drains]
    dsimp only
    rw [State.startOperation_eq]
    rfl

/-- The load decision neither reads nor moves the cadence unit's cold wait. -/
theorem loadDecided_coldWait (s : State) (w : ColdWait) (skipped : List BilletOrder) (loaded : Option (Fin 64)) :
    loadDecided { s with cadence.coldWait := w } skipped loaded =
      { loadDecided s skipped loaded with cadence.coldWait := w } := by
  have batching : batchedAll { s with cadence.coldWait := w } skipped = batchedAll s skipped := rfl
  unfold loadDecided
  rw [batching]
  generalize batchedAll s skipped = b
  obtain ⟨count, timer, raised⟩ := b
  dsimp only
  generalize skipped.length + (if loaded.isSome = true then 1 else 0) = gone
  cases raised <;> simp only [Bool.false_eq_true, if_false, if_true] <;> split <;> rfl

/-- The start of a push does not read the cold wait, and stops it (R93). -/
theorem pushStarted_coldWait (s : State) (w : ColdWait) :
    pushStarted { s with cadence.coldWait := w } = pushStarted s := by
  unfold pushStarted
  cases s.cadence.noLoad with
  | true => rfl
  | false =>
    simp only [loadDecided_coldWait]
    rfl

theorem State.choose_of_pushes (pushes : ChoicePushes s.cadence) : s.choose = s.startPush := by
  obtain ⟨run, idle, exit, free, fit⟩ := pushes
  have ready : s.cadence.pushFit = true := by
    rcases fit with h | h | h <;> simp [Cadence.pushFit, h]
  unfold State.choose
  rw [if_pos ⟨run, idle⟩, exit]
  dsimp only
  rw [if_neg (by simp [free]), if_pos ready]

/-- With position 11 cold and no cold wait begun the choice begins one (R91, R93). -/
theorem State.choose_of_cold (run : s.cadence.line = .run) (idle : s.cadence.operation = none)
    (exit : s.cadence.exitVerdict = none) (free : s.cadence.minPush = none)
    (cold : s.cadence.readiness = .notReady) (stopped : s.cadence.coldWait = .stopped) :
    s.choose = s.startColdWait := by
  unfold State.choose
  rw [if_pos ⟨run, idle⟩, exit]
  dsimp only
  rw [if_neg (by simp [free]), if_neg (by simp [Cadence.pushFit, cold, stopped]), if_pos stopped]

/-- Settles O51: the expiry of either wait makes the choice, which starts the push. -/
theorem waitsEndInPushes : Obligations.WaitsEndInPushes := by
  intro s follows
  have expired : s.cadence.minPush.isSome = true →
      minPushTimerExpiry s = ({ s with cadence.minPush := none } : State).choose.settle := fun runs => if_pos runs
  have waited : ∀ timer, s.cadence.coldWait = .running timer →
      coldWaitExpiry s = ({ s with cadence.coldWait := .expired } : State).choose.settle := fun timer runs => by
    unfold coldWaitExpiry
    rw [runs]
  refine ⟨fun runs pushes => ?_, fun runs idle => ?_, fun runs run free exit cold stopped => ⟨fun waits => ?_,
    fun zero => ?_⟩, fun stopped => ?_, fun timer runs => ⟨fun pushes => ?_, fun idle => ?_⟩, fun stands => ?_⟩
  all_goals refine congrArg Host.Outcome.next ?_
  · rw [expired runs, State.choose_of_pushes pushes, State.startPush_settle_eq]
  · rw [expired runs, State.choose_of_idle idle]
    exact State.settle_of_follows (s := { s with cadence.minPush := none }) follows
  · rw [expired runs,
      State.choose_of_cold (s := { s with cadence.minPush := none }) run free exit rfl cold stopped,
      State.startColdWait, if_neg waits]
    exact State.settle_of_follows (s := { s with
      cadence := { s.cadence with minPush := none, coldWait := .running ⟨s.tracker.clock, s.settings.coldWait⟩ } })
      follows
  · rw [expired runs,
      State.choose_of_cold (s := { s with cadence.minPush := none }) run free exit rfl cold stopped,
      State.startColdWait, if_pos zero, State.startPush_settle_eq]
    exact pushStarted_coldWait { s with cadence.minPush := none } .expired
  · exact if_neg (by simp [stopped])
  · rw [waited timer runs, State.choose_of_pushes pushes, State.startPush_settle_eq]
    exact pushStarted_coldWait s .expired
  · rw [waited timer runs, State.choose_of_idle idle]
    exact State.settle_of_follows (s := { s with cadence.coldWait := .expired }) follows
  · show coldWaitExpiry s = s
    unfold coldWaitExpiry
    split
    · rename_i timer runs
      exact absurd runs (stands timer)
    · rfl
    · rfl

end Sys2Proof.Machine
end

section
/-! SUPPORT. The orders, the batching and the counts through the choice and the test of R84 (O48, O49). -/

namespace Sys2Proof.Machine

set_option Elab.async false

/-- What the part has made of the ring and the counts where a load decision has skipped some orders: their retirements
taken into batching and counted, every slot that was not QUEUED as it was. -/
structure Skips (orders : List BilletOrder) (s t : State) : Prop where
  pointers  : (t.ring.reclaim, t.ring.occupied, t.ring.tail) = (s.ring.reclaim, s.ring.occupied, s.ring.tail)
  kept      : ∀ i : Fin 64, s.ring.slots[i].isQueued = false → t.ring.slots[i] = s.ring.slots[i]
  batching  : (t.ring.batch, t.ring.batchTimer) = ((batchedAll s orders).count, (batchedAll s orders).timer)
  orderDone : t.isPending .orderDone = (s.isPending .orderDone || (batchedAll s orders).raised)
  selection : ∀ k : Fin 4, t.counters[k].selection = s.counters[k].selection
  counted   : Counted 7 orders.length s t
  others    : ∀ event, event ≠ 7 → event ≠ 13 → Counted event 0 s t

section
variable {s t u : State} {orders : List BilletOrder}

theorem Skips.refl (s : State) : Skips [] s s := by
  refine ⟨rfl, fun _ _ => rfl, rfl, ?_, fun _ => rfl, .same rfl, fun _ _ _ => .same rfl⟩
  exact (Bool.or_false _).symm

/-- What is skipped is read in the ring, the attention sets and the counters. -/
theorem Skips.of_same (h : Skips orders s t)
    (same : (u.ring, u.attention, u.counters) = (t.ring, t.attention, t.counters) := by rfl) : Skips orders s u := by
  simp only [Prod.mk.injEq] at same
  obtain ⟨ring, attention, counters⟩ := same
  have pending : u.isPending .orderDone = t.isPending .orderDone := by rw [State.isPending, attention, State.isPending]
  obtain ⟨pointers, kept, batching, orderDone, selection, counted, others⟩ := h
  refine ⟨?_, fun i h => ?_, ?_, pending.trans orderDone, fun k => ?_, ?_, fun event a b => ?_⟩
  · rw [ring]; exact pointers
  · rw [ring]; exact kept i h
  · rw [ring]; exact batching
  · rw [counters]; exact selection k
  · rw [Counted, counters]; exact counted
  · rw [Counted, counters]; exact others event a b

theorem State.raiseIf_orderDone (s : State) (b : Bool) {x : Source} (other : x ≠ .orderDone) :
    (s.raiseIf b x).isPending .orderDone = s.isPending .orderDone := by
  have bit : x.bit.getLsbD Source.orderDone.number = false := by
    revert other
    cases x <;> decide
  unfold State.raiseIf
  split
  · simp only [State.isPending, State.raise_pending, BitVec.getLsbD_or, bit, Bool.or_false]
  · rfl

theorem Skips.raiseIf (h : Skips orders s t) (b : Bool) {x : Source} (other : x ≠ .orderDone) :
    Skips orders s (t.raiseIf b x) := by
  have orderDone := t.raiseIf_orderDone b other
  refine ⟨?_, fun i free => ?_, ?_, orderDone.trans h.orderDone, fun k => ?_, ?_, fun event a c => ?_⟩
  · simp only [State.raiseIf_frame]; exact h.pointers
  · simp only [State.raiseIf_frame]; exact h.kept i free
  · simp only [State.raiseIf_frame]; exact h.batching
  · simp only [State.raiseIf_frame]; exact h.selection k
  · simp only [Counted, State.raiseIf_frame]; exact h.counted
  · simp only [Counted, State.raiseIf_frame]; exact h.others event a c

/-- A call declined is counted as event 13 (R87). -/
theorem Skips.decline (h : Skips orders s t) : Skips orders s t.decline := by
  have raised : Skips orders s (({ t with wires.declinePulses := t.wires.declinePulses + 1 } : State).raise .pressDeclined) :=
    (h.of_same (u := { t with wires.declinePulses := t.wires.declinePulses + 1 })).raiseIf true (by decide)
  unfold State.decline
  generalize ({ t with wires.declinePulses := t.wires.declinePulses + 1 } : State).raise .pressDeclined = v at raised
  refine ⟨raised.pointers, raised.kept, raised.batching, raised.orderDone, fun k => ?_, ?_, fun event a b => ?_⟩
  · exact (v.count_selection .callDeclined k k.isLt).trans (raised.selection k)
  · exact raised.counted.trans (v.count_other (e := .callDeclined) (by decide)) raised.selection
  · exact (raised.others event a b).trans (v.count_other (e := .callDeclined) b) raised.selection

theorem Skips.declinePending (h : Skips orders s t) : Skips orders s t.declinePending := by
  unfold State.declinePending
  split
  · exact (h.of_same (u := { t with cadence.pendingCall := false })).decline
  · exact h

/-- A change of line state skips no order (R75). -/
theorem State.moveLine_skips (s : State) (new : LineState) : Skips [] s (s.moveLine new) := by
  obtain ⟨-, attention, counters, ring⟩ := s.noticed_pins new
  have noticed : Skips [] s (s.noticed new) := (Skips.refl s).of_same (by rw [ring, attention, counters])
  have announced : ∀ v : State, Skips [] s v → Skips [] s (v.settle.raiseIf new.announced .line) := fun v h =>
    (h.of_same (u := v.settle)).raiseIf _ (by decide)
  by_cases run : s.cadence.line = .run
  · rw [State.moveLine_of_run run]
    exact announced _ (noticed.declinePending.of_same (u := (s.noticed new).declinePending.stopColdWait))
  · rw [State.moveLine_of_other run]
    exact announced _ noticed

end

/-! ### The load decision -/

theorem Slot.toSkip_of_not_queued {x : Slot} (other : x.isQueued = false) : x.toSkip = none := by
  cases x with
  | queued o => cases other
  | _ => rfl

theorem State.passed_skips (s : State) (orders : List BilletOrder) : Skips orders s (s.passed orders) := by
  obtain ⟨slots, -⟩ := s.passed_ring orders
  have counters : (s.passed orders).counters = s.counters.mapIdx (fun _ c =>
      if c.selection = 7 then { c with count := c.count + BitVec.ofNat 32 orders.length } else c) := by
    simp only [State.passed, State.raiseIf_frame]
    rfl
  refine ⟨by simp [State.passed, State.headsSkipped], fun i other => ?_, by simp [State.passed, State.headsSkipped], ?_,
    fun k => ?_, fun k selected => ?_, fun event other _ k selected => ?_⟩
  · simp only [slots, slotsSkipped_get, Slot.toSkip_of_not_queued other, ite_self]
  · unfold State.passed State.raiseIf
    cases (batchedAll s orders).raised with
    | true => simp only [if_true, State.raise_isPending, Bool.or_true]
    | false => exact (Bool.or_false _).symm
  · simp only [counters, Fin.getElem_fin, Vector.getElem_mapIdx]
    split <;> rfl
  · simp only [counters, Fin.getElem_fin, Vector.getElem_mapIdx] at selected ⊢
    rw [if_pos selected]
  · simp only [counters, Fin.getElem_fin, Vector.getElem_mapIdx] at selected ⊢
    rw [if_neg fun seven => other (selected.symm.trans seven)]
    simp

/-- The head loaded is left LOADING, and no slot that was not QUEUED is touched (R129). -/
theorem Skips.load {s t : State} {orders : List BilletOrder} (h : Skips orders s t) (i : Fin 64) :
    Skips orders s (t.setSlot i t.ring.slots[i].toLoading).advanceLoad := by
  refine ⟨h.pointers, fun j other => ?_, h.batching, h.orderDone, h.selection, h.counted, h.others⟩
  have stands := h.kept j other
  show (t.setSlot i t.ring.slots[i].toLoading).ring.slots[j] = _
  rw [State.setSlot_slots]
  split
  · rename_i here
    rw [here, stands]
    cases x : s.ring.slots[j] with
    | queued o => rw [x] at other; cases other
    | _ => rfl
  · exact stands

/-- The orders a push start in RUN skips (R94). -/
def State.toSkip (s : State) : List BilletOrder := if s.cadence.noLoad = true then [] else skippedOrders s

theorem State.loadDecision_skips (s : State) : Skips s.toSkip s s.loadDecision.1 := by
  unfold State.toSkip
  cases drains : s.cadence.noLoad with
  | true => rw [State.loadDecision_of_noLoad drains]; exact .refl s
  | false =>
    rw [State.loadDecision_eq drains]
    have passed := s.passed_skips (skippedOrders s)
    dsimp only
    cases headLoaded s (skippedOrders s).length with
    | none => rw [loadDecided_none]; exact passed.raiseIf _ (by decide)
    | some i => rw [loadDecided_some]; exact (passed.load i).raiseIf _ (by decide)

theorem State.startPush_skips (s : State) : Skips s.toSkip s s.startPush :=
  s.loadDecision_skips.of_same

/-! ### The choice and a completion -/

/-- Where the choice starts a push it skips the orders that push skips, and elsewhere none (R91). -/
theorem State.choose_skips {s : State} (idle : s.cadence.operation = none) :
    Skips (if s.cadence.line = .run ∧ s.choose.cadence.operation.any Operation.isPush = true then s.toSkip else [])
      s s.choose := by
  rcases s.choose_cases with h | ⟨run, -, ⟨v, -, -, h⟩ | ⟨-, -, h⟩ | ⟨-, -, -, h⟩ | ⟨-, -, -, h⟩⟩ <;> rw [h]
  · rw [idle, if_neg (by simp)]
    exact .refl s
  · rw [if_neg (by simp [Operation.isPush])]
    exact (Skips.refl s).of_same
  · rw [if_neg (by simp [State.startExtract, Operation.isPush])]
    exact (Skips.refl s).of_same (by simp [State.startExtract])
  · rw [if_pos ⟨run, rfl⟩]
    exact s.startPush_skips
  · unfold State.startColdWait
    split
    · rw [if_pos ⟨run, rfl⟩]
      obtain ⟨pointers, kept, batching, orderDone, selection, counted, others⟩ :=
        State.startPush_skips { s with cadence.coldWait := .expired }
      exact ⟨pointers, kept, batching, orderDone, selection, counted, others⟩
    · rw [if_neg (by simp [idle])]
      exact (Skips.refl s).of_same

/-- What a completion in production is followed by (R84, R91): a drained line stops, and elsewhere the choice is made. -/
theorem State.afterCompletion_cases (s : State) :
    (s.cadence.noLoad = true ∧ s.cadence.line = .run ∧ s.tracker.train = [] ∧ s.cadence.operation = none ∧
      s.afterCompletion = s.moveLine .stopped) ∨
    s.afterCompletion = s.choose.settle := by
  unfold State.afterCompletion State.stopIfDrained
  split
  · rename_i drained
    obtain ⟨run, noLoad, empty, idle⟩ := s.drained_iff.1 drained
    obtain ⟨-, -, -, -, -, -, -, -, -, line, -⟩ := s.moveLine_frame .stopped
    refine .inl ⟨noLoad, run, empty, idle, ?_⟩
    rw [State.choose_of_idle (.inl (by rw [line]; decide)), State.settle_of_follows (s.moveLine_follows .stopped)]
  · exact .inr rfl

theorem State.afterCompletion_skips {s : State} (idle : s.cadence.operation = none) :
    Skips (if s.cadence.line = .run ∧ s.cadence.noLoad = false ∧
        s.afterCompletion.cadence.operation.any Operation.isPush = true then skippedOrders s else [])
      s s.afterCompletion := by
  rcases s.afterCompletion_cases with ⟨noLoad, -, -, -, h⟩ | h <;> rw [h]
  · rw [if_neg (by simp [noLoad])]
    exact s.moveLine_skips .stopped
  · have chosen := (State.choose_skips idle).of_same (u := s.choose.settle)
    unfold State.toSkip at chosen
    simp only [State.settle_frame]
    cases noLoad : s.cadence.noLoad with
    | true =>
      rw [noLoad, if_pos rfl, ite_self] at chosen
      rw [if_neg (by simp)]
      exact chosen
    | false =>
      rw [noLoad, if_neg Bool.false_ne_true] at chosen
      simpa using chosen

end Sys2Proof.Machine
end

section
/-! PROOF. The exit record leaves and its order is retired (O49). -/

namespace Sys2Proof.Machine

set_option Elab.async false

variable {s t u : State} {r : BilletRecord} {o : BilletOrder} {v : OrderVerdict}

/-! ### The retirement (R132, R150) -/

/-- A retirement is counted under its event, and no other event is counted (R132 step 3). -/
theorem State.countRetirement_counted (s : State) (v : OrderVerdict) {event : Nat} (named : 1 ≤ event) :
    Counted event (if v.event = event then 1 else 0) s (s.countRetirement v) := by
  unfold State.countRetirement
  cases counted : v.counted with
  | some e =>
    have number : v.event = e.number := by cases v <;> cases counted <;> rfl
    split
    · rename_i here
      rw [← here, number]
      exact s.count_counted e
    · rename_i other
      exact s.count_other fun same => other (number.trans same.symm)
  | none =>
    have uncounted : v.event = 0 := by revert counted; cases v <;> decide
    rw [if_neg (by omega)]
    exact .same rfl

/-- A use count lowered (R150). -/
theorem RecipeTable.changeUse_useOf (table : RecipeTable) (ref : RecipeRef) (f : Nat → Nat) (zero : f 0 = 0) :
    (table.changeUse (.recipe ref) f).useOf ref = f (table.useOf ref) := by
  cases ref with
  | entry i =>
    simp only [RecipeTable.changeUse, RecipeTable.useOf, Fin.getElem_fin, Vector.getElem_set_self]
    cases table.entries[i.val] with
    | none => exact zero.symm
    | some e => rfl
  | window w => simp [RecipeTable.changeUse, RecipeTable.useOf]

theorem State.batched_frame (s : State) (b : Batching) :
    (s.batched b).ring = { s.ring with batch := b.count, batchTimer := b.timer } ∧
    (s.batched b).tracker = s.tracker ∧ (s.batched b).recipes = s.recipes ∧ (s.batched b).cadence = s.cadence ∧
    (s.batched b).counters = s.counters ∧
    (s.batched b).isPending .orderDone = (s.isPending .orderDone || b.raised) := by
  unfold State.batched State.raiseIf
  cases b.raised with
  | true => exact ⟨rfl, rfl, rfl, rfl, rfl, by simp only [if_true, State.raise_isPending, Bool.or_true]⟩
  | false => exact ⟨rfl, rfl, rfl, rfl, rfl, (Bool.or_false _).symm⟩

/-- What the removal of the exit record `r` and the retirement of its order `o` make of the state (R16, R132). -/
structure ExitGone (v : OrderVerdict) (r : BilletRecord) (o : BilletOrder) (s u : State) : Prop where
  slot      : u.ring.slots[r.slot] = .done o (statusOf v s.tracker.clock r)
  others    : ∀ i : Fin 64, u.ring.slots[i].toSkip = s.ring.slots[i].toSkip
  pointers  : (u.ring.reclaim, u.ring.load, u.ring.tail, u.ring.occupied, u.ring.queued) =
    (s.ring.reclaim, s.ring.load, s.ring.tail, s.ring.occupied, s.ring.queued)
  train     : u.tracker.train = s.tracker.train.tail
  timer     : u.tracker.readingTimer = none
  cadence   : u.cadence = { s.cadence with exitVerdict := none }
  use       : ∀ ref, o.resolution = .recipe ref → u.recipes.useOf ref = s.recipes.useOf ref - 1
  outside   : u.outside = s.outside
  counted   : ∀ event, 2 ≤ event → Counted event (if v.event = event then 1 else 0) s u
  batching  : (u.ring.batch, u.ring.batchTimer) =
    ((batchedOne s ⟨s.ring.batch, s.ring.batchTimer, false⟩ o).count,
      (batchedOne s ⟨s.ring.batch, s.ring.batchTimer, false⟩ o).timer)
  orderDone : u.isPending .orderDone =
    (s.isPending .orderDone || (batchedOne s ⟨s.ring.batch, s.ring.batchTimer, false⟩ o).raised)

/-- The state without its exit record `r`, whose order `o` is DONE with verdict `v` and lowers its use count, but for what
the retirement counts and batches (R16, R132). -/
def State.exitCleared (s : State) (v : OrderVerdict) (r : BilletRecord) (o : BilletOrder) : State :=
  (s.dropExit.setSlot r.slot (.done o (recordStatus v s.tracker.clock r))).dropUse o.resolution

/-- The removal of an exit record whose order is IN_LINE (R16, R132). -/
theorem State.removeExit_of_inLine (exit : s.tracker.exitRecord = some r)
    (inLine : s.ring.slots[r.slot] = .inLine o) (f : BilletRecord → OrderVerdict) (kept : f r ≠ .restartLost) :
    s.removeExit f =
      { ((s.exitCleared (f r) r o).countRetirement (f r)).batched (batchedOne s ⟨s.ring.batch, s.ring.batchTimer, false⟩ o) with
        cadence.exitVerdict := none } := by
  unfold State.removeExit
  rw [exit]
  dsimp only
  have retired : s.dropExit.retire r.slot (recordStatus (f r) s.tracker.clock r) =
      (s.exitCleared (f r) r o).afterRetirement o (f r) := by
    unfold State.retire
    rw [show s.dropExit.ring.slots[r.slot] = .inLine o from inLine]
    rfl
  rw [retired]
  unfold State.afterRetirement
  dsimp only
  rw [if_neg kept, State.batch_of (u := s) (b := ⟨s.ring.batch, s.ring.batchTimer, false⟩)]
  all_goals simp only [State.countRetirement_frame]
  all_goals rfl

theorem State.removeExit_gone (exit : s.tracker.exitRecord = some r) (inLine : s.ring.slots[r.slot] = .inLine o)
    (f : BilletRecord → OrderVerdict) (kept : f r ≠ .restartLost) : ExitGone (f r) r o s (s.removeExit f) := by
  have cadence := s.removeExit_cadence f
  have outside : (s.removeExit f).outside = s.outside := by
    unfold State.removeExit
    rw [exit]
    exact State.retire_outside _ _ _
  have removed := State.removeExit_of_inLine exit inLine f kept
  obtain ⟨b, taken⟩ : ∃ b, batchedOne s ⟨s.ring.batch, s.ring.batchTimer, false⟩ o = b := ⟨_, rfl⟩
  rw [taken] at removed
  rw [removed] at outside cadence ⊢
  obtain ⟨ring, tracker, recipes, -, counters, orderDone⟩ := ((s.exitCleared (f r) r o).countRetirement (f r)).batched_frame b
  obtain ⟨-, ring', recipes', tracker', -, -, attention, -⟩ := (s.exitCleared (f r) r o).countRetirement_frame (f r)
  have whole : (((s.exitCleared (f r) r o).countRetirement (f r)).batched b).ring =
      { (s.exitCleared (f r) r o).ring with batch := b.count, batchTimer := b.timer } := by rw [ring, ring']
  have slots : ∀ i : Fin 64, (((s.exitCleared (f r) r o).countRetirement (f r)).batched b).ring.slots[i] =
      if r.slot = i then .done o (recordStatus (f r) s.tracker.clock r) else s.ring.slots[i] := fun i => by
    rw [whole]
    exact State.setSlot_slots _ _ _ _
  refine ⟨(slots r.slot).trans (if_pos rfl), fun i => ?_, ?_, ?_, ?_, cadence, fun ref resolved => ?_, outside,
    fun event named => ?_, ?_, ?_⟩
  · refine (congrArg Slot.toSkip (slots i)).trans ?_
    split
    · rename_i here
      rw [← here, inLine]
      rfl
    · rfl
  · have pointers := congrArg (fun x : Ring => (x.reclaim, x.load, x.tail, x.occupied, x.queued)) whole
    exact pointers
  · exact congrArg Tracker.train (tracker.trans tracker')
  · exact congrArg Tracker.readingTimer (tracker.trans tracker')
  · have lowered := s.recipes.changeUse_useOf ref (· - 1) rfl
    rw [← resolved] at lowered
    exact (congrArg (fun table => table.useOf ref) (recipes.trans recipes')).trans lowered
  · have counted := (s.exitCleared (f r) r o).countRetirement_counted (f r) (event := event) (by omega)
    rw [Counted, ← counters] at counted
    exact counted
  · rw [taken]
    exact congrArg (fun x : Ring => (x.batch, x.batchTimer)) whole
  · rw [taken]
    refine orderDone.trans (congrArg (· || b.raised) ?_)
    rw [State.isPending, attention]
    rfl

/-! ### The completion that follows (R84, R91) -/

theorem State.afterCompletion_lineMoved (s : State) : LineMoved s s.afterCompletion :=
  (s.stopIfDrained_lineMoved.trans (State.choose_lineMoved _)).settle

/-- The exit is empty in one of two trains of the same billets where it is in the other. -/
theorem LineMoved.exitRecord (h : LineMoved s t) (empty : s.tracker.exitRecord = none) :
    t.tracker.exitRecord = none := by
  have billets := h.billets
  unfold Tracker.exitRecord at *
  rw [SameBillets] at billets
  cases after : t.tracker.train with
  | nil => rfl
  | cons x rest =>
    cases before : s.tracker.train with
    | nil => rw [after, before] at billets; cases billets
    | cons y rest' =>
      rw [after, before] at billets
      rw [before] at empty
      simp only [List.map_cons, List.cons.injEq, Prod.mk.injEq] at billets
      obtain ⟨⟨-, -, -, position, -⟩, -⟩ := billets
      dsimp only at empty ⊢
      rw [position]
      split at empty
      · cases empty
      · rename_i other
        exact if_neg other

/-- A change of line state stops a reading timer on entry to PURGING alone (R20). -/
theorem State.moveLine_readingTimer (s : State) (new : LineState) :
    (s.moveLine new).tracker.readingTimer = if new = .purging then none else s.tracker.readingTimer := by
  have noticed : (s.noticed new).tracker.readingTimer = (s.lineTaken new).tracker.readingTimer := by
    simp [State.noticed_eq, State.recheckExit]
  rw [(s.moveLine_noticed new).1, noticed]
  rfl

/-- A completion leaves an empty exit empty, and a stopped reading timer stopped. -/
theorem State.afterCompletion_exit (empty : s.tracker.exitRecord = none) (exit : s.cadence.exitVerdict = none)
    (stopped : s.tracker.readingTimer = none) :
    s.afterCompletion.cadence.exitVerdict = none ∧ s.afterCompletion.tracker.readingTimer = none := by
  rcases s.afterCompletion_cases with ⟨-, -, -, -, h⟩ | h <;> rw [h]
  · have known := (s.moveLine_reported .stopped).1.exit
    rw [ExitKnown, (s.moveLine_lineMoved .stopped).exitRecord empty] at known
    exact ⟨known, (s.moveLine_readingTimer .stopped).trans stopped⟩
  · obtain ⟨-, -, -, -, -, -, -, -, -, verdict, -⟩ := s.choose_frame
    exact ⟨verdict.trans exit, s.choose_timers.1.trans stopped⟩

/-! ### Batching over the event (R135) -/

theorem batchedFold_raised (s : State) (orders : List BilletOrder) (count : Nat) (timer : Option RunningTimer)
    (raised : Bool) :
    orders.foldl (batchedOne s) ⟨count, timer, raised⟩ =
      { orders.foldl (batchedOne s) ⟨count, timer, false⟩ with
        raised := raised || (orders.foldl (batchedOne s) ⟨count, timer, false⟩).raised } := by
  induction orders generalizing count timer raised with
  | nil => simp
  | cons o orders ih =>
    rw [List.foldl_cons, List.foldl_cons, batchedOne_raised]
    obtain ⟨count', timer', given⟩ := batchedOne s ⟨count, timer, false⟩ o
    rw [ih count' timer' given, ih]
    simp [Bool.or_assoc]

/-- The retirements of an order and of those skipped after it, taken into batching one after the other. -/
theorem ExitGone.batchedAll (gone : ExitGone v r o s u) (orders : List BilletOrder) :
    batchedAll s (o :: orders) = { batchedAll u orders with
      raised := (batchedOne s ⟨s.ring.batch, s.ring.batchTimer, false⟩ o).raised || (batchedAll u orders).raised } := by
  have outside := gone.outside
  simp only [State.outside, Prod.mk.injEq] at outside
  obtain ⟨settings, -, -, clock, -⟩ := outside
  have batching := gone.batching
  simp only [Prod.mk.injEq] at batching
  obtain ⟨count, timer⟩ := batching
  have one : batchedOne u = batchedOne s := by
    funext b o
    exact batchedOne_congr settings clock b o
  rw [Machine.batchedAll, Machine.batchedAll, List.foldl_cons, one, count, timer, ← batchedFold_raised]

/-- The orders that a load decision skips are those of before the retirement. -/
theorem ExitGone.skippedOrders (gone : ExitGone v r o s u) : skippedOrders u = skippedOrders s := by
  have pointers := gone.pointers
  simp only [Prod.mk.injEq] at pointers
  obtain ⟨-, load, -, -, queued⟩ := pointers
  simp only [Machine.skippedOrders, load, queued, gone.others]

/-- Below a record at the exit no record stands at the exit (R2). -/
theorem ExitGone.empty (gone : ExitGone v r o s u) (ordered : TrainOrdered s) (exit : s.tracker.exitRecord = some r) :
    u.tracker.exitRecord = none := by
  obtain ⟨train, at12⟩ := Tracker.exitRecord_eq_some_iff.1 exit
  obtain ⟨descending, -⟩ := ordered
  rw [train, List.pairwise_cons] at descending
  obtain ⟨below, -⟩ := descending
  unfold Tracker.exitRecord
  rw [gone.train]
  cases rest : s.tracker.train.tail with
  | nil => rfl
  | cons x xs =>
    have under := below x (by simp [rest])
    exact if_neg (by omega)

/-- What the removal and what follows it leave, `orders` being the orders skipped after it. -/
theorem ExitGone.retired (gone : ExitGone v r o s u) (ordered : TrainOrdered s)
    (exit : s.tracker.exitRecord = some r) (counts : v ≠ .noRecipe) (moved : LineMoved u t) {orders : List BilletOrder}
    (skips : Skips orders u t) (retirements : retiredWith o s t = o :: orders) (verdict : t.cadence.exitVerdict = none)
    (timer : t.tracker.readingTimer = none) : ExitRetired v r o s t := by
  obtain ⟨train, -⟩ := Tracker.exitRecord_eq_some_iff.1 exit
  obtain ⟨pointers, kept, batching, orderDone, selection, counted, others⟩ := skips
  have gonePointers := gone.pointers
  have outside := moved.outside.trans gone.outside
  have goneOutside := sameOutside_of_outside gone.outside
  simp only [Prod.mk.injEq] at pointers gonePointers batching
  obtain ⟨reclaim, occupied, tail⟩ := pointers
  obtain ⟨reclaim', -, tail', occupied', -⟩ := gonePointers
  obtain ⟨count, delay⟩ := batching
  obtain ⟨-, -, -, -, -, -, selection', -⟩ := goneOutside
  refine ⟨?_, ?_, moved.exitRecord (gone.empty ordered exit), verdict, timer, reclaim.trans reclaim',
    occupied.trans occupied', tail.trans tail', fun ref resolved => ?_, sameOutside_of_outside outside,
    fun event low high => ?_, ?_, ?_, ?_, ?_⟩
  · rw [kept _ (by rw [gone.slot]; rfl), gone.slot]
  · have length := congrArg List.length moved.billets
    rw [List.length_map, List.length_map, gone.train] at length
    rw [length, train]
    rfl
  · rw [moved.recipes, gone.use ref resolved]
  · exact (gone.counted event low).trans (others event (by omega) (by omega)) selection'
  · have seven := gone.counted 7 (by omega)
    rw [if_neg (by revert counts; cases v <;> decide)] at seven
    rw [retirements, List.length_cons, Nat.add_sub_cancel, ← Nat.zero_add orders.length]
    exact seven.trans counted selection'
  · rw [retirements, gone.batchedAll, count]
  · rw [retirements, gone.batchedAll, delay]
  · rw [retirements, gone.batchedAll, orderDone, gone.orderDone, Bool.or_assoc]

/-- A removal from the exit, in production, with what follows it. -/
theorem State.removeExit_completed (idle : s.cadence.operation = none) (ordered : TrainOrdered s)
    (exit : s.tracker.exitRecord = some r) (inLine : s.ring.slots[r.slot] = .inLine o)
    (f : BilletRecord → OrderVerdict) (kept : f r ≠ .restartLost) (counts : f r ≠ .noRecipe) :
    ExitRetired (f r) r o s (s.removeExit f).afterCompletion := by
  have gone := State.removeExit_gone exit inLine f kept
  have cadence := gone.cadence
  generalize s.removeExit f = u at gone cadence
  have skips := State.afterCompletion_skips (s := u) (by rw [cadence]; exact idle)
  obtain ⟨verdict, timer⟩ := State.afterCompletion_exit (gone.empty ordered exit) (by rw [cadence]) gone.timer
  refine gone.retired ordered exit counts u.afterCompletion_lineMoved skips ?_ verdict timer
  rw [gone.skippedOrders, cadence]
  rfl

/-! ### The completions (R99, R100, R111) -/

theorem rejectOf_eq_some {x : Verdict} (reject : rejectOf x = some v) :
    x.atDiversion = v ∧ v ≠ .restartLost ∧ v ≠ .noRecipe := by
  cases x <;> cases reject <;> exact ⟨rfl, by decide, by decide⟩

theorem divertDone_of_purging (divert : s.cadence.operation = some .divert) (purging : s.cadence.line = .purging) :
    divertDone s = ((s.endOperation.removeExit fun _ => .purged).startOperation (.push none)).settle := by
  unfold divertDone
  rw [divert]
  exact if_pos purging

theorem divertDone_of_production (divert : s.cadence.operation = some .divert) (other : s.cadence.line ≠ .purging) :
    divertDone s = (s.endOperation.removeExit fun r => r.verdict.atDiversion).afterCompletion := by
  unfold divertDone
  rw [divert]
  exact if_neg other

/-- In a purge the removal is followed by the gap push (R111, R112). -/
theorem ExitGone.purged (gone : ExitGone .purged r o s u) (ordered : TrainOrdered s)
    (exit : s.tracker.exitRecord = some r) (purging : s.cadence.line = .purging) :
    ExitRetired .purged r o s (u.startOperation (.push none)).settle := by
  have moved : LineMoved u (u.startOperation (.push none)).settle := ⟨rfl, rfl, fun _ => ⟨rfl, rfl⟩, rfl, rfl⟩
  have skips : Skips [] u (u.startOperation (.push none)).settle := (Skips.refl u).of_same
  have retirements : retiredWith o s (u.startOperation (.push none)).settle = [o] := by
    unfold retiredWith
    rw [if_neg (by simp [purging])]
  refine gone.retired ordered exit (by decide) moved skips retirements ?_ gone.timer
  exact congrArg Cadence.exitVerdict gone.cadence

/-- Settles O49: the exit record leaves, its order is retired, and what the choice then skips is retired after it. -/
theorem exitLeavesAndRetires : Obligations.ExitLeavesAndRetires := by
  refine fun s => ⟨fun r o extract _ ordered exit inLine => ?_, fun r o v divert other ordered exit inLine reject => ?_,
    fun r o divert purging ordered exit inLine => ?_, fun divert purging empty => congrArg Host.Outcome.next ?_,
    fun other => congrArg Host.Outcome.next ?_, fun other => congrArg Host.Outcome.next ?_⟩
  · have done : extractDone s = (s.endOperation.removeExit fun _ => .delivered).afterCompletion := by
      unfold extractDone
      rw [extract]
    exact ⟨_, congrArg Host.Outcome.next done, State.removeExit_completed (s := s.endOperation) rfl ordered exit inLine
      (fun _ => .delivered) (by decide) (by decide)⟩
  · obtain ⟨rfl, kept, counts⟩ := rejectOf_eq_some reject
    exact ⟨_, congrArg Host.Outcome.next (divertDone_of_production divert other),
      State.removeExit_completed (s := s.endOperation) rfl ordered exit inLine (fun r => r.verdict.atDiversion) kept
        counts⟩
  · have gone := State.removeExit_gone (s := s.endOperation) exit inLine (fun _ => .purged) (by decide)
    exact ⟨_, congrArg Host.Outcome.next (divertDone_of_purging divert purging), gone.purged ordered exit purging, rfl⟩
  · have unchanged : (s.endOperation.removeExit fun _ => .purged) =
        { s.endOperation with cadence.exitVerdict := none } := by
      unfold State.removeExit
      rw [show s.endOperation.tracker.exitRecord = none from empty]
    refine (divertDone_of_purging divert purging).trans ?_
    rw [unchanged, State.startOperation_eq, State.settle, Cadence.pressReadyLevel_of_busy rfl]
    rfl
  · show extractDone s = s
    unfold extractDone
    split
    · rename_i extract
      exact absurd extract other
    all_goals rfl
  · show divertDone s = s
    unfold divertDone
    split
    · rename_i divert
      exact absurd divert other
    all_goals rfl

end Sys2Proof.Machine
end

section
/-! SUPPORT. What a push completion makes of the column, the budgets and the reports (O48). -/

namespace Sys2Proof.Machine

set_option Elab.async false

/-! ### Budgets through evaluation and grant -/

/-- A channel has kept its remaining budget, and is not spent where it was not. -/
def Zone.Budgeted (c d : Zone) : Prop := d.remaining = c.remaining ∧ (c.state ≠ .spent → d.state ≠ .spent)

theorem Zone.Budgeted.refl (c : Zone) : c.Budgeted c := ⟨rfl, id⟩

theorem Zone.Budgeted.trans {c d e : Zone} (h : c.Budgeted d) (k : d.Budgeted e) : c.Budgeted e :=
  ⟨k.1.trans h.1, fun unspent => k.2 (h.2 unspent)⟩

theorem Zone.Budgeted.arrive (c : Zone) : c.Budgeted c.arrive := by
  refine ⟨rfl, fun unspent => ?_⟩
  unfold Zone.arrive
  dsimp only
  split <;> simp_all

theorem Zone.Budgeted.withdraw (c : Zone) : c.Budgeted c.withdraw := by
  refine ⟨rfl, fun unspent => ?_⟩
  unfold Zone.withdraw
  dsimp only
  split <;> simp_all

/-- Every channel has kept its remaining budget, and none has become spent (R66, R67). -/
def Budgets (s t : State) : Prop := ∀ y : Fin 6, s.arbiter.zones[y].Budgeted t.arbiter.zones[y]

section
variable {s t u : State}

theorem Budgets.trans (h : Budgets s t) (k : Budgets t u) : Budgets s u := fun y => (h y).trans (k y)

theorem Budgets.of_zones (same : t.arbiter.zones = s.arbiter.zones) : Budgets s t := fun y => by
  rw [same]
  exact .refl _

theorem Budgets.updateZone (s : State) (z : Fin 6) {f : Zone → Zone} (one : ∀ c : Zone, c.Budgeted (f c)) :
    Budgets s (s.updateZone z f) := by
  intro y
  rw [State.updateZone_zones]
  split
  · rename_i same
    rw [← same]
    exact one _
  · exact .refl _

theorem State.evaluateZone_budgets (s : State) (z : Fin 6) : Budgets s (s.evaluateZone z) := by
  rcases s.evaluateZone_cases z with ⟨-, h⟩ | ⟨-, h⟩ <;> rw [h]
  · exact .of_zones rfl
  · refine (Budgets.of_zones rfl).trans (Budgets.updateZone (s.setDemand z (s.demandNow z)) z fun c => ?_)
    split
    · exact .arrive c
    · exact .withdraw c

theorem State.evaluateAll_budgets (s : State) : Budgets s s.evaluateAll :=
  State.evaluateAll_induction (p := Budgets s) s (.of_zones rfl) fun _ z h => h.trans (State.evaluateZone_budgets _ z)

theorem State.orderSlice_budgets (s : State) (z : Fin 6) (forced : Bool) (n : Nat) :
    Budgets s (s.orderSlice z forced n) := by
  intro y
  rw [State.orderSlice_zones]
  split
  · rename_i same
    rw [← same]
    exact ⟨rfl, fun _ => by simp⟩
  · exact .refl _

theorem State.grantAmong_budgets (s : State) (zones : List (Fin 6)) : Budgets s (s.grantAmong zones) := by
  induction zones generalizing s with
  | nil => exact .of_zones rfl
  | cons z rest ih =>
    have drop : Budgets s (s.updateZone z Zone.dropDose) := .updateZone s z fun c => by
      refine ⟨rfl, fun unspent => ?_⟩
      unfold Zone.dropDose
      dsimp only
      split <;> simp_all
    have clear : Budgets s (s.updateZone z fun c => { c with forced := false }) :=
      .updateZone s z fun c => ⟨rfl, id⟩
    unfold State.grantAmong
    split
    · split
      · split
        · dsimp only
          split
          · exact drop.trans (State.orderSlice_budgets _ _ _ _)
          · exact drop.trans (ih _)
        · exact clear.trans (State.orderSlice_budgets _ _ _ _)
      · exact s.orderSlice_budgets _ _ _
    · exact ih s

theorem State.grant_budgets (s : State) : Budgets s s.grant := by
  unfold State.grant
  split
  · exact s.grantAmong_budgets _
  · exact .of_zones rfl

/-- A change of line state keeps every budget (R75). -/
theorem State.moveLine_budgets (s : State) (new : LineState) : Budgets s (s.moveLine new) := by
  have arbiter : (s.lineTaken new).evaluateAll.recheckExit.reportReadiness.arbiter =
      (s.lineTaken new).evaluateAll.arbiter := by simp [State.recheckExit]
  have noticed : Budgets s (s.noticed new) := by
    rw [State.noticed_eq]
    exact ((Budgets.of_zones rfl).trans (s.lineTaken new).evaluateAll_budgets).trans
      ((Budgets.of_zones (by rw [arbiter])).trans (State.grant_budgets _))
  obtain ⟨-, arbiter', -⟩ := s.moveLine_noticed new
  exact noticed.trans (.of_zones (by rw [arbiter']))

theorem State.choose_budgets (s : State) : Budgets s s.choose := by
  obtain ⟨-, -, arbiter, -⟩ := s.choose_frame
  exact .of_zones (by rw [arbiter])

theorem State.afterCompletion_budgets (s : State) : Budgets s s.afterCompletion := by
  rcases s.afterCompletion_cases with ⟨-, -, -, -, h⟩ | h <;> rw [h]
  · exact s.moveLine_budgets .stopped
  · exact s.choose_budgets.trans (.of_zones rfl)

/-- A reload leaves the budget that R67 gives, and no channel spent. -/
theorem Zone.reloaded_budget (c : Zone) : c.reloaded.remaining = reloadedBudget c ∧ c.reloaded.state ≠ .spent := by
  unfold Zone.reloaded reloadedBudget
  cases state : c.state <;> simp [state]
  split <;> simp

end

/-! ### The column moved (R15) -/

variable {s : State}

/-- The record of an order that enters is the one the tables give (R4, R5). -/
theorem State.newRecord_eq (s : State) (i : Fin 64) (o : BilletOrder) (ref : RecipeRef) :
    s.newRecord i o ref = loadedRecord s i o ref := by
  unfold State.newRecord loadedRecord exitGoalOf clampTo
  cases o.entryTemp <;> cases o.exitOverride <;> simp

theorem State.enteringRecords_eq (s : State) (loaded : Option (Fin 64)) :
    s.enteringRecords loaded = newRecords s loaded := by
  cases loaded with
  | none => rfl
  | some i =>
    unfold State.enteringRecords State.boundRecords newRecords
    rw [show s.advanceTrain.ring = s.ring from rfl]
    dsimp only
    cases s.ring.slots[i] with
    | loading o =>
      cases resolution : o.resolution with
      | recipe ref =>
        simp only [resolution, State.newRecord_eq]
        rfl
      | noRecipe => simp only [resolution]
    | _ => rfl

theorem movedUp_updated (s : State) (r : BilletRecord) : movedUp s.tracker.line (s.updated r) = pushedUp s r := by
  obtain ⟨tm, sx, holdTime, aged, h⟩ := s.updated_shape r
  simp only [movedUp, pushedUp, h]

/-- Whether a record arrives at the exit is whether one stood at position 11 (R19). -/
theorem State.arrives_iff (s : State) :
    ((s.updateTrain.tracker.recordAt 11).isSome && s.updateTrain.tracker.line != .purging) = true ↔
      (∃ r ∈ s.tracker.train, r.position = 11) ∧ s.tracker.line ≠ .purging := by
  simp [Tracker.recordAt, State.updated_position]

/-- After the train has moved up, the order bound and the survey started touch neither the line state known to the tracker
nor the reading timer, and nothing outside (R15 steps 3 and 4). -/
theorem State.columnPushed_advanced (s : State) (loaded : Option (Fin 64)) :
    ((s.columnPushed loaded).tracker.line, (s.columnPushed loaded).tracker.readingTimer, (s.columnPushed loaded).outside,
      (s.columnPushed loaded).counters) =
    (s.advanceTrain.tracker.line, s.advanceTrain.tracker.readingTimer, s.advanceTrain.outside,
      s.advanceTrain.counters) := by
  have surveyed : ∀ (t : State) (b : Bool), ((t.startSurvey b).tracker.line, (t.startSurvey b).tracker.readingTimer,
      (t.startSurvey b).outside, (t.startSurvey b).counters) =
      (t.tracker.line, t.tracker.readingTimer, t.outside, t.counters) := by
    intro t b
    unfold State.startSurvey
    split <;> rfl
  unfold State.columnPushed
  dsimp only
  rw [surveyed]
  cases loaded with
  | none => rfl
  | some slot =>
    dsimp only
    unfold State.bindOrder
    split
    · dsimp only
      split <;> rfl
    · rfl

theorem State.columnPushed_tracker (s : State) (loaded : Option (Fin 64)) :
    (s.columnPushed loaded).tracker.line = s.tracker.line ∧
    (s.columnPushed loaded).tracker.readingTimer =
      (if (∃ r ∈ s.tracker.train, r.position = 11) ∧ s.tracker.line ≠ .purging then
        some ⟨s.tracker.clock, s.settings.readingTimeout⟩ else s.tracker.readingTimer) := by
  have advanced := s.columnPushed_advanced loaded
  simp only [Prod.mk.injEq] at advanced
  obtain ⟨line, timer, -⟩ := advanced
  exact ⟨line, timer.trans (if_congr s.arrives_iff rfl rfl)⟩

theorem State.columnPushed_outside (s : State) (loaded : Option (Fin 64)) :
    (s.columnPushed loaded).outside = s.outside ∧ (s.columnPushed loaded).counters = s.counters := by
  have advanced := s.columnPushed_advanced loaded
  simp only [Prod.mk.injEq] at advanced
  obtain ⟨-, -, outside, counters⟩ := advanced
  exact ⟨outside, counters⟩

end Sys2Proof.Machine
end

section
/-! PROOF. A push completion moves the column, reloads the budgets and goes on with a purge (O48). -/

namespace Sys2Proof.Machine

set_option Elab.async false

variable {s t p : State} {loaded : Option (Fin 64)}

/-! ### Steps 2 to 6 of the completion (R97) -/

/-- The column taken as pushed, with the budgets reloaded, all demand evaluated and all reported, but for the
minimum-push timer and the counts (R97). -/
def State.pushReported (s : State) (loaded : Option (Fin 64)) : State :=
  ((((s.columnPushed loaded).updateZones Zone.reloaded).evaluateAll.reportExit).reportReadiness).grant

theorem State.pushReported_frame (s : State) (loaded : Option (Fin 64)) :
    (s.pushReported loaded).ring = (s.columnPushed loaded).ring ∧
    (s.pushReported loaded).recipes = s.recipes ∧ (s.pushReported loaded).settings = s.settings ∧
    (s.pushReported loaded).pins = s.pins ∧ (s.pushReported loaded).counters = s.counters ∧
    (s.pushReported loaded).tracker.train = (s.columnPushed loaded).tracker.train ∧
    (s.pushReported loaded).tracker.line = s.tracker.line ∧
    (s.pushReported loaded).tracker.readingTimer = (s.columnPushed loaded).tracker.readingTimer ∧
    (s.pushReported loaded).cadence = { s.cadence with
      exitVerdict := (s.pushReported loaded).cadence.exitVerdict
      readiness := (s.pushReported loaded).cadence.readiness } := by
  obtain ⟨line, -⟩ := s.columnPushed_tracker loaded
  obtain ⟨-, counters⟩ := s.columnPushed_outside loaded
  simp [State.pushReported, State.reportExit, State.reportReadiness, line, counters]

theorem State.pushReported_outside (s : State) (loaded : Option (Fin 64)) :
    (s.pushReported loaded).outside = s.outside := by
  have settings : ∀ c : Zone, c.reloaded.settings = c.settings := fun c => by
    unfold Zone.reloaded
    split <;> rfl
  have reloaded : ((s.columnPushed loaded).updateZones Zone.reloaded).outside = (s.columnPushed loaded).outside := by
    simp only [State.outside, State.updateZones_zones, settings]
    rfl
  unfold State.pushReported
  simp only [State.grant_outside, State.reportReadiness_outside, State.reportExit_outside, State.evaluateAll_outside,
    reloaded]
  exact (s.columnPushed_outside loaded).1

/-- With all demand up to date the reports and the grant complete what is reported. -/
theorem State.reportExit_grant_reported (demand : DemandEvaluated s) :
    (s.reportExit.reportReadiness).grant.Reported := by
  refine State.reportReadiness_grant_reported (s := s.reportExit) (fun z => ?_) rfl
  rw [State.demandNow_congr (s := s) (t := s.reportExit) z rfl rfl rfl rfl rfl]
  exact demand z

theorem State.pushReported_reported (s : State) (loaded : Option (Fin 64)) : (s.pushReported loaded).Reported :=
  State.reportExit_grant_reported (State.evaluateAll_demandEvaluated _)

theorem State.reportExit_grant_budgets (s : State) : Budgets s (s.reportExit.reportReadiness).grant :=
  (Budgets.of_zones (t := s.reportExit.reportReadiness) rfl).trans (State.grant_budgets _)

theorem State.pushReported_budgets (s : State) (loaded : Option (Fin 64)) (z : Fin 6) :
    (s.pushReported loaded).arbiter.zones[z].remaining = reloadedBudget s.arbiter.zones[z] ∧
    (s.pushReported loaded).arbiter.zones[z].state ≠ .spent := by
  obtain ⟨-, -, arbiter, -⟩ := s.columnPushed_frame loaded
  have reloaded := State.updateZones_zones (s.columnPushed loaded) z Zone.reloaded
  rw [arbiter] at reloaded
  obtain ⟨budget, unspent⟩ := s.arbiter.zones[z].reloaded_budget
  rw [← reloaded] at budget unspent
  have kept : Budgets ((s.columnPushed loaded).updateZones Zone.reloaded) (s.pushReported loaded) :=
    (State.evaluateAll_budgets _).trans (State.reportExit_grant_budgets _)
  generalize s.pushReported loaded = q at *
  obtain ⟨remaining, stays⟩ := kept z
  exact ⟨remaining.trans budget, stays unspent⟩

theorem State.pushReported_sliceKept (s : State) (loaded : Option (Fin 64)) : SliceKept s (s.pushReported loaded) := by
  obtain ⟨-, -, arbiter, -⟩ := s.columnPushed_frame loaded
  obtain ⟨-, -, -, -, slice, timer⟩ := ((s.columnPushed loaded).updateZones Zone.reloaded).evaluateAll_global
  refine sliceKept_grant (slice.trans ?_) (timer.trans ?_)
  · show (s.columnPushed loaded).arbiter.slice = _
    rw [arbiter]
  · show (s.columnPushed loaded).arbiter.sliceTimer = _
    rw [arbiter]

/-- What steps 2 to 6 leave, for the state `p` after them. -/
structure PushTaken (loaded : Option (Fin 64)) (s p : State) : Prop where
  train    : p.tracker.train = s.tracker.train.map (pushedUp s) ++ newRecords s loaded
  budgets  : ∀ z : Fin 6, p.arbiter.zones[z].remaining = reloadedBudget s.arbiter.zones[z] ∧
    p.arbiter.zones[z].state ≠ .spent
  timer    : p.tracker.readingTimer = (if (∃ r ∈ s.tracker.train, r.position = 11) ∧ s.tracker.line ≠ .purging then
    some ⟨s.tracker.clock, s.settings.readingTimeout⟩ else s.tracker.readingTimer)
  pushes   : Counted 14 1 s p
  loads    : Counted 1 (if loaded.isSome then 1 else 0) s p
  minPush  : p.cadence.minPush = minPushLoaded s
  reported : p.Reported
  inLine   : ∀ i o, loaded = some i → s.ring.slots[i] = .loading o → p.ring.slots[i] = .inLine o
  outside  : p.outside = s.outside
  slice    : SliceKept s p
  recipes  : p.recipes = s.recipes
  line     : p.tracker.line = s.tracker.line

/-- The state with the minimum-push timer loaded (R92). -/
def State.minPushTimed (s : State) : State :=
  { s with cadence.minPush := s.timerUnlessZero s.settings.minPushInterval }

theorem State.pushCompleted_eq (s : State) (loaded : Option (Fin 64)) :
    s.pushCompleted loaded =
      if loaded.isSome then ((s.pushReported loaded).minPushTimed.count .pushCompleted).count .billetLoaded
      else (s.pushReported loaded).minPushTimed.count .pushCompleted := by
  unfold State.pushCompleted State.pushReported State.minPushTimed
  rfl

/-- The counts of a push completion (R97 step 6). -/
theorem State.pushCompleted_counted (s : State) (loaded : Option (Fin 64)) :
    Counted 14 1 s (s.pushCompleted loaded) ∧
    Counted 1 (if loaded.isSome then 1 else 0) s (s.pushCompleted loaded) := by
  obtain ⟨-, -, -, -, counters, -⟩ := s.pushReported_frame loaded
  rw [State.pushCompleted_eq]
  have pushed := (s.pushReported loaded).minPushTimed.count_counted .pushCompleted
  have unloaded := (s.pushReported loaded).minPushTimed.count_other (e := .pushCompleted) (event := 1) (by decide)
  have selection : ∀ k : Fin 4, ((s.pushReported loaded).minPushTimed.count .pushCompleted).counters[k].selection =
      (s.pushReported loaded).minPushTimed.counters[k].selection := fun k => State.count_selection _ _ k k.isLt
  have counters' : (s.pushReported loaded).minPushTimed.counters = s.counters := counters
  generalize (s.pushReported loaded).minPushTimed = q at *
  have based : ∀ {event n : Nat} {x : State}, Counted event n q x → Counted event n s x := fun {event n x} h k => by
    rw [← counters']
    exact h k
  cases loaded with
  | none => exact ⟨based pushed, based unloaded⟩
  | some i =>
    refine ⟨based (pushed.trans (State.count_other _ (e := .billetLoaded) (by decide)) selection), based ?_⟩
    exact unloaded.trans (State.count_counted _ .billetLoaded) selection

theorem State.pushCompleted_taken (s : State) (loaded : Option (Fin 64)) :
    PushTaken loaded s (s.pushCompleted loaded) := by
  obtain ⟨ring, recipes, settings, -, -, train, line, timer, -⟩ := s.pushReported_frame loaded
  obtain ⟨pushes, loads⟩ := s.pushCompleted_counted loaded
  have reported := s.pushReported_reported loaded
  have budgets := s.pushReported_budgets loaded
  have outside := s.pushReported_outside loaded
  have slice := s.pushReported_sliceKept loaded
  have completed := s.pushCompleted_eq loaded
  obtain ⟨-, reads⟩ := s.columnPushed_tracker loaded
  generalize s.pushReported loaded = q at *
  have clock : q.tracker.clock = s.tracker.clock := by
    simp only [State.outside, Prod.mk.injEq] at outside
    obtain ⟨-, -, -, clock, -⟩ := outside
    exact clock
  have counts : ∃ counters, s.pushCompleted loaded = { q.minPushTimed with counters := counters } := by
    rw [completed]
    split <;> exact ⟨_, rfl⟩
  have outside' : (s.pushCompleted loaded).outside = q.minPushTimed.outside := by
    rw [completed]
    split <;> simp
  obtain ⟨counters, whole⟩ := counts
  rw [whole] at pushes loads outside' ⊢
  refine ⟨?_, budgets, timer.trans reads, pushes, loads, ?_, reported.of_same rfl rfl rfl rfl rfl rfl,
    fun i o loads loading => ?_, outside'.trans outside, slice, recipes, line⟩
  · refine train.trans ((s.columnPushed_train loaded).trans ?_)
    rw [s.enteringRecords_eq]
    exact congrArg (· ++ newRecords s loaded) (List.map_congr_left fun r _ => movedUp_updated s r)
  · show q.timerUnlessZero q.settings.minPushInterval = minPushLoaded s
    rw [minPushLoaded, State.timerUnlessZero, State.timer, settings, clock]
  · subst loads
    show q.ring.slots[i] = .inLine o
    rw [ring, State.columnPushed_ring_order loading]
    simp

/-- A push completion leaves the cadence unit but for the minimum-push timer and what the tracker reports, and every
level (R97). -/
theorem State.pushCompleted_cadence (s : State) (loaded : Option (Fin 64)) :
    (s.pushCompleted loaded).cadence = { s.cadence with
      minPush := (s.pushCompleted loaded).cadence.minPush
      exitVerdict := (s.pushCompleted loaded).cadence.exitVerdict
      readiness := (s.pushCompleted loaded).cadence.readiness } ∧
    (s.pushCompleted loaded).pins = s.pins := by
  obtain ⟨-, -, -, pins, -, -, -, -, cadence⟩ := s.pushReported_frame loaded
  rw [State.pushCompleted_eq]
  generalize s.pushReported loaded = q at *
  have timed : q.minPushTimed.cadence = { s.cadence with
      minPush := q.minPushTimed.cadence.minPush
      exitVerdict := q.minPushTimed.cadence.exitVerdict
      readiness := q.minPushTimed.cadence.readiness } :=
    congrArg (fun c : Cadence => { c with minPush := q.timerUnlessZero q.settings.minPushInterval }) cadence
  split <;> exact ⟨timed, pins⟩

/-! ### What follows the completion -/

/-- What the completion leaves, `p` being the state after steps 2 to 6 and `t` the state after what follows them. -/
theorem PushTaken.leaves (taken : PushTaken loaded s p) (moved : LineMoved p t) (train : TrainIs t p.tracker.train)
    (kept : Budgets p t) (timer : t.tracker.readingTimer = p.tracker.readingTimer) {orders : List BilletOrder}
    (skips : Skips orders p t) (reported : t.Reported) : PushDoneLeaves loaded s t := by
  have marks := moved.marks
  simp only [Prod.mk.injEq] at marks
  obtain ⟨-, -, -, -, -, -, minPush, -⟩ := marks
  obtain ⟨-, -, -, -, -, -, selection, -⟩ := sameOutside_of_outside taken.outside
  refine ⟨?_, fun z => ?_, timer.trans taken.timer, ?_, ?_, minPush.trans taken.minPush, reported.demand,
    reported.granted, reported.exit, reported.readiness, fun i o loads loading => ?_,
    sameOutside_of_outside (moved.outside.trans taken.outside), fun flight => ?_, moved.recipes.trans taken.recipes⟩
  · rw [← taken.train]
    exact train
  · obtain ⟨remaining, unspent⟩ := kept z
    obtain ⟨remaining', unspent'⟩ := taken.budgets z
    exact ⟨remaining.trans remaining', unspent unspent'⟩
  · exact taken.pushes.trans (skips.others 14 (by decide) (by decide)) selection
  · exact taken.loads.trans (skips.others 1 (by decide) (by decide)) selection
  · have inLine := taken.inLine i o loads loading
    rw [skips.kept i (by rw [inLine]; rfl), inLine]
  · obtain ⟨slice, timer⟩ := taken.slice flight
    obtain ⟨slice', timer'⟩ := moved.slice (by rw [slice]; exact flight)
    exact ⟨slice'.trans slice, timer'.trans timer⟩

/-- A drained line has an empty train, so that a completion rewrites no record but for an extraction mark. -/
theorem State.afterCompletion_train (s : State) :
    TrainIs s.afterCompletion s.tracker.train ∧
    s.afterCompletion.tracker.readingTimer = s.tracker.readingTimer := by
  rcases s.afterCompletion_cases with ⟨-, -, empty, -, h⟩ | h <;> rw [h]
  · have still := (s.moveLine_lineMoved .stopped).train_eq_nil_iff.2 empty
    exact ⟨by rw [TrainIs, still, empty], s.moveLine_readingTimer .stopped⟩
  · exact ⟨s.choose_trainIs, s.choose_timers.1⟩

/-- A push completion in production (R97). -/
theorem PushTaken.completed (taken : PushTaken loaded s p) (line : p.cadence.line = s.cadence.line)
    (free : p.cadence.operation = none) :
    PushDoneLeaves loaded s p.afterCompletion ∧
    (s.cadence.line ≠ .run →
      p.afterCompletion.cadence.line = s.cadence.line ∧ p.afterCompletion.cadence.operation = none) := by
  obtain ⟨train, timer⟩ := p.afterCompletion_train
  refine ⟨taken.leaves p.afterCompletion_lineMoved train p.afterCompletion_budgets timer
    (State.afterCompletion_skips free) taken.reported.stopIfDrained.choose.settle, fun other => ?_⟩
  rcases p.afterCompletion_cases with ⟨-, run, -⟩ | h
  · exact absurd (line.symm.trans run) other
  · rw [h, State.choose_of_idle (.inl (by rw [line]; exact other))]
    exact ⟨line, free⟩

/-! ### The purge goes on (R112, R113) -/

/-- Two updates at one time are one (R7). -/
theorem thermalUpdate_twice (ambient : Nat) (line : LineState) (body : Body) (now : Clock) (r : BilletRecord) :
    thermalUpdate ambient line body now (thermalUpdate ambient line body now r) =
      thermalUpdate ambient line body now r := by
  have still : elapsed now now = 0 := by simp [elapsed]
  cases line <;> simp [thermalUpdate, still, lossOver, equalOver, addSaturating, top32]

/-- An update neither reads nor writes position and verdict (R7). -/
theorem thermalUpdate_placed (ambient : Nat) (line : LineState) (body : Body) (now : Clock) (r : BilletRecord)
    (position : Nat) (verdict : Verdict) :
    thermalUpdate ambient line body now { r with position := position, verdict := verdict } =
      { thermalUpdate ambient line body now r with position := position, verdict := verdict } := rfl

theorem pushedUp_eq (s : State) (r : BilletRecord) :
    pushedUp s r = { s.updated r with
      position := r.position + 1
      verdict := if r.position = 11 ∧ s.tracker.line ≠ .purging then .awaiting else r.verdict } := rfl

theorem State.bodyOf_pushedUp (p s : State) (r : BilletRecord) : p.bodyOf (pushedUp s r) = p.bodyOf r := by
  obtain ⟨tm, sx, holdTime, aged, h⟩ := s.updated_shape r
  rw [pushedUp, h]
  rfl

/-- A record moved up is up to date (R15 step 1). -/
theorem PushTaken.fresh (taken : PushTaken loaded s p) (r : BilletRecord) : p.updated (pushedUp s r) = pushedUp s r := by
  have outside := taken.outside
  simp only [State.outside, Prod.mk.injEq] at outside
  obtain ⟨settings, -, -, clock, -⟩ := outside
  have body : p.bodyOf r = s.bodyOf r := by rw [State.bodyOf, taken.recipes, State.bodyOf]
  have same : ∀ x, p.updated x = thermalUpdate s.settings.ambient s.tracker.line (p.bodyOf x) s.tracker.clock x := by
    intro x
    rw [State.updated, settings, clock, taken.line]
  rw [same, State.bodyOf_pushedUp, body, pushedUp_eq, thermalUpdate_placed, State.updated, thermalUpdate_twice]

/-- The re-check rewrites no record of a train without a verdict GOOD (R24). -/
theorem State.recheckExit_train {s : State} (ungood : ∀ r ∈ s.tracker.train, r.verdict ≠ .good) :
    s.recheckExit.tracker.train = s.tracker.train := by
  show (s.updateExit s.rechecked).tracker.train = _
  unfold State.updateExit
  cases train : s.tracker.train with
  | nil => exact train
  | cons x rest =>
    have same : s.rechecked x = x := if_neg fun ⟨good, _⟩ => ungood x (by simp [train]) good
    dsimp only
    rw [same]
    split
    · rfl
    · exact train

/-- A change of line state leaves a train that is up to date and without a verdict GOOD (R10, R24). -/
theorem State.moveLine_train {s : State} (new : LineState) (fresh : s.tracker.train.map s.updated = s.tracker.train)
    (ungood : ∀ r ∈ s.tracker.train, r.verdict ≠ .good) :
    (s.moveLine new).tracker.train = s.tracker.train := by
  have taken : (s.lineTaken new).evaluateAll.tracker.train = s.tracker.train := by
    simp only [State.evaluateAll_tracker]
    exact fresh
  have rechecked := State.recheckExit_train (s := (s.lineTaken new).evaluateAll) (by rw [taken]; exact ungood)
  have noticed : (s.noticed new).tracker.train = (s.lineTaken new).evaluateAll.recheckExit.tracker.train := by
    rw [State.noticed_eq]
    simp
  rw [(s.moveLine_noticed new).1, noticed, rechecked, taken]

/-- Without a record at the exit every record stands below it (R2). -/
theorem belowExit_of_empty (ordered : TrainOrdered s) (empty : s.tracker.exitRecord = none) :
    ∀ r ∈ s.tracker.train, r.position ≠ 12 := by
  obtain ⟨descending, bounded⟩ := ordered
  unfold Tracker.exitRecord at empty
  cases train : s.tracker.train with
  | nil => simp
  | cons x rest =>
    rw [train] at empty descending bounded
    obtain ⟨below, -⟩ := List.pairwise_cons.1 descending
    have top := bounded x List.mem_cons_self
    have off : x.position ≠ 12 := fun at12 => by simp [at12] at empty
    intro r member
    rcases List.mem_cons.1 member with rfl | member
    · exact off
    · have under := below r member
      omega

/-- After a purge push no record has a verdict (R15, R111). -/
theorem PushTaken.unjudged (taken : PushTaken none s p) (purging : s.tracker.line = .purging)
    (ordered : TrainOrdered s) (empty : s.tracker.exitRecord = none) (unjudged : UnjudgedBelowExit s) :
    p.tracker.train.map p.updated = p.tracker.train ∧ ∀ r ∈ p.tracker.train, r.verdict ≠ .good := by
  have moved : p.tracker.train = s.tracker.train.map (pushedUp s) := taken.train.trans (List.append_nil _)
  constructor
  · rw [moved, List.map_map]
    exact List.map_congr_left fun r _ => taken.fresh r
  · rw [moved]
    simp only [List.mem_map, forall_exists_index, and_imp, forall_apply_eq_imp_iff₂]
    intro r member
    have none := unjudged r member (belowExit_of_empty ordered empty r member)
    show (if r.position = 11 ∧ s.tracker.line ≠ .purging then Verdict.awaiting else r.verdict) ≠ .good
    rw [if_neg (by simp [purging]), none]
    decide

/-- The state with a purge step as given, and the occupancy mark as given (R112, R113). -/
def State.purgeSet (s : State) (step : Nat) (unknown : Bool) : State :=
  { s with cadence.purgeStep := step, cadence.occupancyUnknown := unknown }

theorem PushTaken.purgeSet (taken : PushTaken loaded s p) (step : Nat) (unknown : Bool) :
    PushTaken loaded s (p.purgeSet step unknown) := by
  obtain ⟨train, budgets, timer, pushes, loads, minPush, reported, inLine, outside, slice, recipes, line⟩ := taken
  exact ⟨train, budgets, timer, pushes, loads, minPush, reported.of_same rfl rfl rfl rfl rfl rfl, inLine, outside, slice,
    recipes, line⟩

/-- Before step 13 a purge push is followed by the next step's diversion (R112). -/
theorem PushTaken.diverted (taken : PushTaken loaded s p) (purging : s.tracker.line = .purging) :
    PushDoneLeaves loaded s p.startPurgeDivert.settle ∧ NoDemand p.startPurgeDivert.settle := by
  have reported : p.startPurgeDivert.settle.Reported := taken.reported.of_same rfl rfl rfl rfl rfl rfl
  have moved : LineMoved p p.startPurgeDivert.settle := ⟨rfl, rfl, fun _ => ⟨rfl, rfl⟩, rfl, rfl⟩
  have skips : Skips [] p p.startPurgeDivert.settle := (Skips.refl p).of_same
  exact ⟨taken.leaves moved rfl (.of_zones rfl) rfl skips reported,
    reported.noDemand ((congrArg LineState.heats (taken.line.trans purging)).trans rfl)⟩

/-- After step 13 the purge ends, with the line STOPPED (R113). -/
theorem PushTaken.stopped (taken : PushTaken none s p) (purging : s.tracker.line = .purging)
    (ordered : TrainOrdered s) (empty : s.tracker.exitRecord = none) (unjudged : UnjudgedBelowExit s) :
    PushDoneLeaves none s (p.moveLine .stopped) ∧ NoDemand (p.moveLine .stopped) := by
  obtain ⟨fresh, ungood⟩ := taken.unjudged purging ordered empty unjudged
  have train := State.moveLine_train .stopped fresh ungood
  have reported := (p.moveLine_reported .stopped).1
  obtain ⟨-, -, -, -, -, -, -, known, -⟩ := p.moveLine_frame .stopped
  exact ⟨taken.leaves (p.moveLine_lineMoved .stopped) (congrArg (List.map unmarked) train)
    (p.moveLine_budgets .stopped) (p.moveLine_readingTimer .stopped) (p.moveLine_skips .stopped) reported,
    reported.noDemand (by rw [known]; rfl)⟩

/-! ### PUSH_DONE -/

theorem pushDone_of_push (push : s.cadence.operation = some (.push loaded)) :
    pushDone s = if s.cadence.line = .purging then ((s.endOperation.pushCompleted loaded).purgeNext).settle
      else (s.endOperation.pushCompleted loaded).afterCompletion := by
  unfold pushDone
  rw [push]

/-- A push completion in a purge (R112, R113). -/
theorem pushDone_purges (push : s.cadence.operation = some (.push none)) (purging : s.cadence.line = .purging)
    (ordered : TrainOrdered s) (empty : s.tracker.exitRecord = none) (known : LineKnown s)
    (unjudged : UnjudgedBelowExit s) :
    PushDoneLeaves none s (pushDone s) ∧ NoDemand (pushDone s) ∧
    (s.cadence.purgeStep < 13 → (pushDone s).cadence.line = .purging ∧ (pushDone s).cadence.operation = some .divert ∧
      (pushDone s).cadence.purgeStep = s.cadence.purgeStep + 1 ∧ (pushDone s).pins.divert = true ∧
      (pushDone s).pins.push = false) ∧
    (13 ≤ s.cadence.purgeStep → (pushDone s).cadence.line = .stopped ∧ (pushDone s).cadence.operation = none ∧
      (pushDone s).cadence.purgeStep = 0 ∧ (pushDone s).cadence.occupancyUnknown = false ∧
      (pushDone s).isPending .line = true) := by
  have taken := s.endOperation.pushCompleted_taken none
  obtain ⟨cadence, pins⟩ := s.endOperation.pushCompleted_cadence none
  have heated : s.tracker.line = .purging := known.trans purging
  rw [pushDone_of_push push, if_pos purging]
  generalize s.endOperation.pushCompleted none = p at *
  have step : p.cadence.purgeStep = s.cadence.purgeStep := by rw [cadence]; rfl
  have line : p.cadence.line = .purging := by rw [cadence]; exact purging
  have free : p.cadence.operation = none := by rw [cadence]; rfl
  unfold State.purgeNext
  by_cases last : p.cadence.purgeStep < 13
  · rw [if_pos last]
    obtain ⟨leaves, cold⟩ := (taken.purgeSet (p.cadence.purgeStep + 1) p.cadence.occupancyUnknown).diverted heated
    have push' : p.pins.push = false := congrArg Pins.push pins
    exact ⟨leaves, cold, fun _ => ⟨line, rfl, congrArg (· + 1) step, rfl, push'⟩, fun past => by omega⟩
  · rw [if_neg last]
    have stopped : (({ p with cadence.occupancyUnknown := false, cadence.purgeStep := 0 } : State).changeLine
        .stopped).settle = (p.purgeSet 0 false).moveLine .stopped := by
      rw [State.changeLine_of_other _ (by decide), State.settle_of_follows (State.moveLine_follows _ .stopped)]
      rfl
    rw [stopped]
    obtain ⟨leaves, cold⟩ := (taken.purgeSet 0 false).stopped heated ordered empty unjudged
    have after := (p.purgeSet 0 false).moveLine_cadence .stopped
    obtain ⟨-, -, -, -, -, -, -, -, -, line', -, operation, -⟩ := (p.purgeSet 0 false).moveLine_frame .stopped
    exact ⟨leaves, cold, fun below => by omega, fun _ => ⟨line', operation.trans free,
      congrArg Cadence.purgeStep after, congrArg Cadence.occupancyUnknown after,
      State.moveLine_announces _ (by decide)⟩⟩

/-- Settles O48: the column moved, and what follows it in production and in a purge. -/
theorem pushDoneMovesColumn : Obligations.PushDoneMovesColumn := by
  refine fun s => ⟨fun loaded push other _ _ _ => ?_, fun loaded push purging ordered empty known unjudged steps => ?_,
    fun idle => congrArg Host.Outcome.next ?_⟩
  · have taken := s.endOperation.pushCompleted_taken loaded
    obtain ⟨cadence, -⟩ := s.endOperation.pushCompleted_cadence loaded
    have done := (pushDone_of_push push).trans (if_neg other)
    generalize s.endOperation.pushCompleted loaded = p at *
    exact ⟨_, congrArg Host.Outcome.next done, taken.completed (by rw [cadence]) (by rw [cadence]; rfl)⟩
  · obtain ⟨-, purges⟩ := steps
    obtain ⟨-, divert | gap⟩ := purges purging
    · rw [push] at divert
      cases divert
    · obtain rfl : loaded = none := by
        rw [push] at gap
        cases gap
        rfl
      exact ⟨_, rfl, pushDone_purges push purging ordered empty known unjudged⟩
  · show pushDone s = s
    unfold pushDone
    split
    · rename_i loaded push
      exact absurd push (idle loaded)
    all_goals rfl

end Sys2Proof.Machine
end

section
/-! PROOF. PURGE and DECLARE EMPTY (O15, O16). -/

namespace Sys2Proof.Machine

set_option Elab.async false

variable {s : State}

/-! ### PURGE -/

/-- PURGE changes the line to PURGING at step 1, and starts the step's diversion (R110, R111). -/
theorem purgeRequest_taken (taken : PurgeTaken s) :
    purgeRequest s =
      (((s.purgeSet 1 s.cadence.occupancyUnknown).moveLine .purging).startPurgeDivert.settle).accept [] := by
  unfold purgeRequest
  rw [if_pos taken, State.changeLine_of_other _ (by decide)]
  rfl

/-- The entry to PURGING from a state other than RUN declines no call and raises nothing; of the pins it moves PRESS_READY
alone (R75, R85, R88). -/
theorem State.moveLine_purging_frame (other : s.cadence.line ≠ .run) :
    (s.moveLine .purging).pins = { s.pins with pressReady := false } ∧
    (s.moveLine .purging).attention = s.attention ∧ (s.moveLine .purging).counters = s.counters := by
  have entered : s.moveLine .purging = (s.noticed .purging).settle := State.moveLine_of_other other .purging
  obtain ⟨pins, attention, counters, -⟩ := s.noticed_pins .purging
  obtain ⟨-, -, -, -, -, -, -, -, -, line, -⟩ := s.moveLine_frame .purging
  have level := State.moveLine_follows s .purging
  rw [PressReadyFollows, Cadence.pressReadyLevel_of_line (by rw [line]; decide)] at level
  rw [entered] at level ⊢
  refine ⟨?_, attention, counters⟩
  rw [← level, ← pins]
  rfl

theorem PurgeTaken.line_ne_run (taken : PurgeTaken s) : s.cadence.line ≠ .run := by
  obtain ⟨stopped | faulted, -⟩ := taken
  · rw [stopped]; decide
  · rw [faulted]; decide

/-- What a purge leaves, `p` being the line as it stands in PURGING before the diversion (R110, R111, R20). -/
theorem purgeRequest_leaves (taken : PurgeTaken s) : PurgeLeaves s (purgeRequest s) := by
  rw [purgeRequest_taken taken]
  have other : (s.purgeSet 1 s.cadence.occupancyUnknown).cadence.line ≠ .run := taken.line_ne_run
  obtain ⟨pins, attention, counters⟩ := State.moveLine_purging_frame other
  have moved := (s.purgeSet 1 s.cadence.occupancyUnknown).moveLine_lineMoved .purging
  have reported := ((s.purgeSet 1 s.cadence.occupancyUnknown).moveLine_reported .purging).1
  have timer := (s.purgeSet 1 s.cadence.occupancyUnknown).moveLine_readingTimer .purging
  have cadence := (s.purgeSet 1 s.cadence.occupancyUnknown).moveLine_cadence .purging
  rw [if_neg other, if_neg other] at cadence
  obtain ⟨-, ring, -, settings, -, -, -, known, clock, -⟩ :=
    (s.purgeSet 1 s.cadence.occupancyUnknown).moveLine_frame .purging
  generalize (s.purgeSet 1 s.cadence.occupancyUnknown).moveLine .purging = p at *
  have diverts : p.startPurgeDivert.settle.cadence = { p.cadence with
      operation := some .divert
      handlingTimer := some ⟨s.tracker.clock, s.settings.handlingTimeout⟩ } := by
    simp only [State.settle_frame, State.startPurgeDivert, State.startOperation_cadence, State.timer, clock, settings]
    rfl
  have asserts : p.startPurgeDivert.settle.pins = { p.pins with divert := true, pressReady := false } := by
    have level : p.startPurgeDivert.cadence.pressReadyLevel = false := Cadence.pressReadyLevel_of_busy rfl
    rw [State.settle, level]
    rfl
  refine ⟨?_, known, timer, reported.noDemand (congrArg LineState.heats known), ?_, attention, rfl, moved.sameOutside,
    moved.billets, moved.slice, moved.recipes, ring, counters⟩
  · exact diverts.trans (congrArg (fun c : Cadence => { c with
      operation := some .divert
      handlingTimer := some ⟨s.tracker.clock, s.settings.handlingTimeout⟩ }) cadence)
  · exact asserts.trans (by rw [pins]; rfl)

/-- Settles O15: PURGING is entered at step 1, and the first diversion starts on the handling machines found idle. -/
theorem purgeStartsDiverting : Obligations.PurgeStartsDiverting :=
  fun _ => ⟨fun taken => ⟨_, rfl, purgeRequest_leaves taken⟩,
    fun refused => congrArg Host.Outcome.next (if_neg refused)⟩

/-! ### DECLARE EMPTY -/

/-- Settles O16: each of the three checks refuses in its turn, and past them the flag is cleared. -/
theorem declareEmptyClearsOccupancyUnknown : Obligations.DeclareEmptyClearsOccupancyUnknown := by
  refine fun s => ⟨fun line => ?_, fun _ busy => ?_, fun stopped idle loaded => ?_, fun stopped idle empty => ?_⟩
  all_goals refine congrArg Host.Outcome.next (?_ : declareEmptyRequest s = _); unfold declareEmptyRequest
  · rw [if_pos (.inl line)]
    rfl
  · rw [if_pos (.inr busy)]
    rfl
  · rw [if_neg (by simp [stopped, idle]), if_pos loaded]
    rfl
  · rw [if_neg (by simp [stopped, idle]), if_neg (by simp [empty])]
    rfl

end Sys2Proof.Machine
end

section
/-! SUPPORT. What a timeout takes of the column and what a change of line state then leaves of it (O50). -/

namespace Sys2Proof.Machine

set_option Elab.async false

/-! ### The exit record under a change of line state -/

section
variable {s : State} {r : BilletRecord}

/-- A view that does not read what a rewriting of the exit record writes sees none of it. -/
theorem State.updateExit_map {β : Type} (s : State) {f : BilletRecord → BilletRecord} {view : BilletRecord → β}
    (blind : ∀ r, view (f r) = view r) : (s.updateExit f).tracker.train.map view = s.tracker.train.map view := by
  unfold State.updateExit
  split
  · rename_i train
    split
    · simp [train, blind]
    · rfl
  · rfl

/-- A record that a rewriting of the exit record leaves as it is stays in the train. -/
theorem State.mem_updateExit {f : BilletRecord → BilletRecord} (member : r ∈ s.tracker.train) (fixed : f r = r) :
    r ∈ (s.updateExit f).tracker.train := by
  unfold State.updateExit
  split
  · rename_i x rest train
    rw [train] at member
    split
    · rcases List.mem_cons.1 member with rfl | below
      · rw [fixed]
        exact List.mem_cons_self
      · exact List.mem_cons_of_mem _ below
    · rwa [train]
  · exact member

/-- The exit record rewritten in its place is the exit record (R2). -/
theorem State.updateExit_exitRecord (s : State) {f : BilletRecord → BilletRecord}
    (place : ∀ r, (f r).position = r.position) :
    (s.updateExit f).tracker.exitRecord = s.tracker.exitRecord.map f := by
  unfold State.updateExit
  split
  · rename_i x rest train
    split <;> rename_i at12 <;> simp [Tracker.exitRecord, train, place, at12]
  · rename_i train
    simp [Tracker.exitRecord, train]

/-- The exit record of a train with every record rewritten in its place (R2). -/
theorem Tracker.exitRecord_of_map {t u : Tracker} {f : BilletRecord → BilletRecord}
    (place : ∀ r, (f r).position = r.position) (train : u.train = t.train.map f) :
    u.exitRecord = t.exitRecord.map f := by
  unfold Tracker.exitRecord
  rw [train]
  cases t.train with
  | nil => rfl
  | cons x rest => by_cases at12 : x.position = 12 <;> simp [place, at12]

/-- The train after a change of line state: every record updated, then the exit re-checked (R10, R24). -/
theorem State.moveLine_rechecked (s : State) (new : LineState) :
    ∃ t : State, t.tracker.train = s.tracker.train.map s.updated ∧
      (s.moveLine new).tracker.train = (t.updateExit t.rechecked).tracker.train := by
  refine ⟨(s.lineTaken new).evaluateAll, by simp only [State.evaluateAll_tracker]; rfl, ?_⟩
  rw [(s.moveLine_noticed new).1, State.noticed_eq]
  simp only [State.grant_frame, State.reportReadiness_frame]
  rfl

theorem State.rechecked_of_not_good (s : State) (ungood : r.verdict ≠ .good) : s.rechecked r = r :=
  if_neg fun ⟨good, _⟩ => ungood good

theorem State.rechecked_marks (s : State) (r : BilletRecord) :
    (s.rechecked r).position = r.position ∧ (s.rechecked r).extracting = r.extracting := by
  unfold State.rechecked
  split <;> exact ⟨rfl, rfl⟩

theorem State.updated_marks (s : State) (r : BilletRecord) :
    (s.updated r).verdict = r.verdict ∧ (s.updated r).extracting = r.extracting := by
  obtain ⟨tm, sx, holdTime, aged, shape⟩ := s.updated_shape r
  rw [shape]
  exact ⟨rfl, rfl⟩

/-- A record whose verdict is not GOOD keeps it through a change of line state: it is updated and no more (R10, R24). -/
theorem State.updated_mem_moveLine (new : LineState) (member : r ∈ s.tracker.train) (ungood : r.verdict ≠ .good) :
    s.updated r ∈ (s.moveLine new).tracker.train := by
  obtain ⟨t, train, moved⟩ := s.moveLine_rechecked new
  rw [moved]
  refine State.mem_updateExit (by rw [train]; exact List.mem_map_of_mem member) (t.rechecked_of_not_good ?_)
  rw [(s.updated_marks r).1]
  exact ungood

/-- A record that awaits its reading does so in its place after a change of line state (R10, R24). -/
theorem State.moveLine_awaiting (new : LineState) (member : r ∈ s.tracker.train) (awaits : r.verdict = .awaiting) :
    ∃ q ∈ (s.moveLine new).tracker.train, q.slot = r.slot ∧ q.position = r.position ∧ q.verdict = .awaiting := by
  have updated := State.updated_mem_moveLine new member (by rw [awaits]; decide)
  obtain ⟨tm, sx, holdTime, aged, shape⟩ := s.updated_shape r
  rw [shape] at updated
  exact ⟨_, updated, rfl, rfl, awaits⟩

/-- The exit record after a change of line state: updated, then re-checked (R10, R24). -/
theorem State.moveLine_exitRecord (s : State) (new : LineState) :
    ∃ t : State, (s.moveLine new).tracker.exitRecord = s.tracker.exitRecord.map fun r => t.rechecked (s.updated r) := by
  obtain ⟨t, train, moved⟩ := s.moveLine_rechecked new
  refine ⟨t, ?_⟩
  have exit : (s.moveLine new).tracker.exitRecord = (t.updateExit t.rechecked).tracker.exitRecord := by
    unfold Tracker.exitRecord
    rw [moved]
  rw [exit, t.updateExit_exitRecord fun r => (t.rechecked_marks r).1, Tracker.exitRecord_of_map s.updated_position train,
    Option.map_map]
  rfl

end

/-- A view of records that reads neither the verdict nor what an update writes sees nothing of a change of line state
(R10, R24). -/
theorem State.moveLine_view {β : Type} (s : State) (new : LineState) {view : BilletRecord → β}
    (blind : ∀ r v, view { r with verdict := v } = view r) (still : ∀ r, view (s.updated r) = view r) :
    (s.moveLine new).tracker.train.map view = s.tracker.train.map view := by
  rw [s.moveLine_map new blind, List.map_map]
  exact List.map_congr_left fun r _ => still r

/-! ### Sources and counts under a change of line state -/

/-- A change of line state clears no source (R75, R178). -/
theorem State.moveLine_sources {s : State} (new : LineState) {x : Source} (pending : s.isPending x = true) :
    (s.moveLine new).isPending x = true := by
  have raised : ∀ t : State, t.isPending x = true → (t.settle.raiseIf new.announced .line).isPending x = true := by
    intro t h
    unfold State.raiseIf
    split
    · exact State.isPending_raise (s := t.settle) h _
    · exact h
  have noticed := (s.noticed_heldKept new).sources x pending
  by_cases run : s.cadence.line = .run
  · rw [State.moveLine_of_run run]
    exact raised _ ((State.declinePending_heldKept _).sources x noticed)
  · rw [State.moveLine_of_other run]
    exact raised _ noticed

/-- The call declined on the way out of RUN is counted as event 13 (R88, R185). -/
theorem State.moveLine_declines_counted (s : State) (new : LineState) :
    Counted 13 (if s.cadence.line = .run ∧ s.cadence.pendingCall = true then 1 else 0) s (s.moveLine new) := by
  obtain ⟨-, -, counters, -⟩ := s.noticed_pins new
  have call : (s.noticed new).cadence.pendingCall = s.cadence.pendingCall := by rw [s.noticed_cadence new]
  have declined : ∀ t : State, Counted 13 (if t.cadence.pendingCall = true then 1 else 0) t t.declinePending := by
    intro t
    unfold State.declinePending
    split
    · exact State.count_counted _ .callDeclined
    · exact .same rfl
  by_cases run : s.cadence.line = .run
  · have counted := declined (s.noticed new)
    rw [call] at counted
    rw [State.moveLine_of_run run]
    simp only [Counted, State.raiseIf_frame, State.settle_frame, State.stopColdWait_frame, run, true_and]
    simp only [Counted, counters] at counted
    exact counted
  · rw [State.moveLine_of_other run, if_neg fun h => run h.1]
    exact .same (by simp only [State.raiseIf_frame, State.settle_frame, counters])

/-! ### What a timeout takes of the column (R105, R106) -/

/-- A push taken as done gives no pulse (R15). -/
theorem State.columnPushed_wires (s : State) (loaded : Option (Fin 64)) : (s.columnPushed loaded).wires = s.wires := by
  have surveyed : ∀ (t : State) (b : Bool), (t.startSurvey b).wires = t.wires := by
    intro t b
    unfold State.startSurvey
    split <;> rfl
  have bound : ∀ (t : State) (slot : Fin 64), (t.bindOrder slot).wires = t.wires := by
    intro t slot
    unfold State.bindOrder
    split
    · dsimp only
      split <;> rfl
    · rfl
  unfold State.columnPushed
  dsimp only
  rw [surveyed]
  cases loaded with
  | none => rfl
  | some slot => exact bound _ slot

theorem State.timedOut_push_ring (s : State) (loaded : Option (Fin 64)) :
    (s.timedOut (.push loaded)).ring = (s.columnPushed loaded).ring := rfl

/-- Every operation that times out leaves recipes and arbiter, the cadence unit but for what the tracker reports, and the
pins but for ALERT (R105, R106). -/
theorem State.timedOut_frame (s : State) (o : Operation) :
    (s.timedOut o).recipes = s.recipes ∧ (s.timedOut o).arbiter = s.arbiter ∧ (s.timedOut o).outside = s.outside ∧
    (s.timedOut o).cadence = { s.cadence with
      exitVerdict := (s.timedOut o).cadence.exitVerdict
      readiness := (s.timedOut o).cadence.readiness } ∧
    (s.timedOut o).pins = { s.pins with alert := (s.timedOut o).pins.alert } := by
  cases o with
  | push loaded =>
    obtain ⟨outside, -⟩ := s.columnPushed_outside loaded
    obtain ⟨-, recipes, arbiter, cadence, -, pins⟩ := s.columnPushed_frame loaded
    have reported : (s.timedOut (.push loaded)).cadence = { (s.columnPushed loaded).cadence with
        exitVerdict := (s.timedOut (.push loaded)).cadence.exitVerdict
        readiness := (s.timedOut (.push loaded)).cadence.readiness } := rfl
    rw [cadence] at reported
    refine ⟨recipes, arbiter, outside, reported, ?_⟩
    rw [show (s.timedOut (.push loaded)).pins = (s.columnPushed loaded).pins from rfl, pins]
  | extract =>
    refine ⟨by simp [State.timedOut], by simp [State.timedOut], ?_, by simp [State.timedOut], ?_⟩
    · exact (State.count_outside _ _).trans ((State.raise_outside _ _).trans (s.updateExit_outside _))
    · simp [State.timedOut, State.decline]
  | divert => exact ⟨rfl, rfl, rfl, rfl, rfl⟩

/-- The call that an extraction answered is declined as it times out, and no call by another operation (R106). -/
theorem State.timedOut_declines (s : State) (o : Operation) :
    (s.timedOut o).wires.declinePulses = s.wires.declinePulses + (if o = .extract then 1 else 0) ∧
    Counted 13 (if o = .extract then 1 else 0) s (s.timedOut o) := by
  cases o with
  | push loaded =>
    obtain ⟨-, counters⟩ := s.columnPushed_outside loaded
    exact ⟨congrArg Wires.declinePulses (s.columnPushed_wires loaded), .same counters⟩
  | extract =>
    have declined : ∀ t : State, t.decline.wires.declinePulses = t.wires.declinePulses + 1 ∧ Counted 13 1 t t.decline :=
      fun t => ⟨rfl, State.count_counted _ .callDeclined⟩
    obtain ⟨pulses, counted⟩ := declined (s.updateExit fun r => { r with extracting := false })
    simp only [Counted, State.updateExit_frame] at pulses counted
    exact ⟨pulses, counted⟩
  | divert => exact ⟨rfl, .same rfl⟩

end Sys2Proof.Machine
end

section
/-! PROOF. A handling timeout faults the line (O50). -/

namespace Sys2Proof.Machine

set_option Elab.async false

variable {s : State}

/-- The state in which a timeout has ended its operation, taken what it takes of the column, and marked the train SUSPECT
and the occupancy unknown (R104 to R107). -/
def State.faultTaken (s : State) (o : Operation) : State :=
  { (s.endOperation.timedOut o).suspectAll with cadence.occupancyUnknown := true }

/-- A timeout ends in the change to FAULTED (R104). -/
theorem handlingTimerExpiry_running {o : Operation} (inFlight : s.cadence.operation = some o)
    (runs : s.cadence.handlingTimer.isSome = true) :
    handlingTimerExpiry s = (s.faultTaken o).moveLine .faulted := by
  unfold handlingTimerExpiry State.handlingTimeout
  rw [inFlight]
  dsimp only
  rw [if_pos runs, State.changeLine_of_other _ (by decide), State.settle_of_follows (State.moveLine_follows _ .faulted)]
  rfl

/-! ### The line before the change of state -/

/-- A record marked SUSPECT (R104). -/
def suspected (r : BilletRecord) : BilletRecord := { r with suspect := true }

theorem suspected_kept (r : BilletRecord) : (suspected r).slot = r.slot ∧ (suspected r).position = r.position ∧
    (suspected r).verdict = r.verdict := ⟨rfl, rfl, rfl⟩

theorem State.faultTaken_train (s : State) (o : Operation) :
    (s.faultTaken o).tracker.train = (s.endOperation.timedOut o).tracker.train.map suspected := rfl

theorem State.faultTaken_ring (s : State) (o : Operation) :
    (s.faultTaken o).ring = (s.endOperation.timedOut o).ring := rfl

theorem State.faultTaken_exitRecord (s : State) (o : Operation) :
    (s.faultTaken o).tracker.exitRecord = (s.endOperation.timedOut o).tracker.exitRecord.map suspected :=
  Tracker.exitRecord_of_map (fun _ => rfl) rfl

/-- The train with a push taken as done (R105). -/
theorem State.timedOut_push_train (s : State) (loaded : Option (Fin 64)) :
    (s.endOperation.timedOut (.push loaded)).tracker.train =
      s.tracker.train.map (pushedUp s) ++ newRecords s loaded := by
  have pushed := s.endOperation.columnPushed_train loaded
  rw [State.enteringRecords_eq] at pushed
  exact pushed.trans (congrArg (· ++ newRecords s loaded) (List.map_congr_left fun r _ => movedUp_updated s r))

/-- What every timeout has made of the state before the change to FAULTED. -/
theorem State.faultTaken_frame (s : State) (o : Operation) :
    (s.faultTaken o).recipes = s.recipes ∧ (s.faultTaken o).arbiter = s.arbiter ∧
    (s.faultTaken o).outside = s.outside ∧
    (s.faultTaken o).cadence = { s.cadence with
      operation := none, handlingTimer := none, occupancyUnknown := true
      exitVerdict := (s.faultTaken o).cadence.exitVerdict
      readiness := (s.faultTaken o).cadence.readiness } ∧
    (s.faultTaken o).pins = { s.pins with
      push := false, skip := false, extract := false, divert := false
      alert := (s.faultTaken o).pins.alert } := by
  obtain ⟨recipes, arbiter, outside, cadence, pins⟩ := s.endOperation.timedOut_frame o
  exact ⟨recipes, arbiter, outside,
    congrArg (fun c : Cadence => { c with occupancyUnknown := true }) cadence, pins⟩

/-! ### The column in FAULTED -/

/-- Every record of the train is SUSPECT (R104). -/
theorem State.faulted_suspect (s : State) (o : Operation) :
    ∀ r ∈ ((s.faultTaken o).moveLine .faulted).tracker.train, r.suspect = true := by
  have still : ∀ (u : State) (r : BilletRecord), (u.updated r).suspect = r.suspect := fun u r => by
    obtain ⟨tm, sx, holdTime, aged, shape⟩ := u.updated_shape r
    rw [shape]
  have marks := State.moveLine_view (s.faultTaken o) .faulted (view := BilletRecord.suspect) (fun _ _ => rfl) (still _)
  rw [State.faultTaken_train, List.map_map] at marks
  intro r member
  have mark := List.mem_map_of_mem (f := BilletRecord.suspect) member
  rw [marks] at mark
  obtain ⟨x, -, marked⟩ := List.mem_map.1 mark
  exact marked.symm

/-- A push taken as done has moved the column up, with the loaded order's record at its end (R105). -/
theorem State.faulted_push_train (s : State) (loaded : Option (Fin 64)) :
    ((s.faultTaken (.push loaded)).moveLine .faulted).tracker.train.map (fun r => (r.slot, r.position)) =
      (s.tracker.train.map (pushedUp s) ++ newRecords s loaded).map (fun r => (r.slot, r.position)) := by
  have still : ∀ (u : State) (r : BilletRecord), ((u.updated r).slot, (u.updated r).position) = (r.slot, r.position) :=
    fun u r => by
      obtain ⟨tm, sx, holdTime, aged, shape⟩ := u.updated_shape r
      rw [shape]
  rw [State.moveLine_view _ .faulted (fun _ _ => rfl) (still _), State.faultTaken_train, State.timedOut_push_train,
    List.map_map]
  rfl

/-- The order a push loaded is IN_LINE (R105). -/
theorem State.faulted_push_order (s : State) {i : Fin 64} {o : BilletOrder} (loading : s.ring.slots[i] = .loading o) :
    ((s.faultTaken (.push (some i))).moveLine .faulted).ring.slots[i] = .inLine o := by
  obtain ⟨-, ring, -⟩ := (s.faultTaken (.push (some i))).moveLine_frame .faulted
  have bound := State.columnPushed_ring_order (s := s.endOperation) loading
  rw [ring, State.faultTaken_ring, State.timedOut_push_ring, bound]
  simp

/-- A record that a push brings to 12 outside PURGING awaits its reading (R15, R19). -/
theorem pushedUp_arrives {r : BilletRecord} (heated : s.tracker.line ≠ .purging) (at11 : r.position = 11) :
    (pushedUp s r).slot = r.slot ∧ (pushedUp s r).position = 12 ∧ (pushedUp s r).verdict = .awaiting := by
  obtain ⟨tm, sx, holdTime, aged, shape⟩ := s.updated_shape r
  simp [pushedUp, shape, at11, heated]

/-- The record that a push taken as done brings to 12 awaits its reading (R105, R19). -/
theorem State.faulted_push_arrival (loaded : Option (Fin 64)) (heated : s.tracker.line ≠ .purging) {r : BilletRecord}
    (member : r ∈ s.tracker.train) (at11 : r.position = 11) :
    ∃ q ∈ ((s.faultTaken (.push loaded)).moveLine .faulted).tracker.train,
      q.slot = r.slot ∧ q.position = 12 ∧ q.verdict = .awaiting := by
  obtain ⟨slot, at12, awaits⟩ := pushedUp_arrives heated at11
  have marked : suspected (pushedUp s r) ∈ (s.faultTaken (.push loaded)).tracker.train := by
    rw [State.faultTaken_train, State.timedOut_push_train]
    exact List.mem_map_of_mem (List.mem_append_left _ (List.mem_map_of_mem member))
  obtain ⟨slot', position, verdict⟩ := suspected_kept (pushedUp s r)
  obtain ⟨q, stays, slot'', position', awaits'⟩ := State.moveLine_awaiting .faulted marked (verdict.trans awaits)
  exact ⟨q, stays, slot''.trans (slot'.trans slot), position'.trans (position.trans at12), awaits'⟩

/-- The reading timer runs for that record (R105, R19). -/
theorem State.faulted_push_readingTimer (loaded : Option (Fin 64)) (heated : s.tracker.line ≠ .purging)
    {r : BilletRecord} (member : r ∈ s.tracker.train) (at11 : r.position = 11) :
    ((s.faultTaken (.push loaded)).moveLine .faulted).tracker.readingTimer =
      some ⟨s.tracker.clock, s.settings.readingTimeout⟩ := by
  obtain ⟨-, timer⟩ := s.endOperation.columnPushed_tracker loaded
  rw [if_pos ⟨⟨r, member, at11⟩, heated⟩] at timer
  rw [State.moveLine_readingTimer, if_neg (by decide)]
  exact timer

/-- An extraction or a diversion that times out moves no billet and no order (R106, R107). -/
theorem State.faulted_exit_billets {o : Operation} (atExit : o = .extract ∨ o = .divert) :
    SameBillets s ((s.faultTaken o).moveLine .faulted) ∧ ((s.faultTaken o).moveLine .faulted).ring = s.ring := by
  obtain ⟨-, ring, -⟩ := (s.faultTaken o).moveLine_frame .faulted
  have moved := (s.faultTaken o).moveLine_sameBillets .faulted
  have taken : SameBillets s (s.faultTaken o) ∧ (s.faultTaken o).ring = s.ring := by
    rw [SameBillets, State.faultTaken_train, List.map_map]
    rcases atExit with rfl | rfl
    · obtain ⟨-, ring, -⟩ := s.endOperation.updateExit_frame fun r => { r with extracting := false }
      exact ⟨s.endOperation.updateExit_map (view := billetOf) fun _ => rfl, ring⟩
    · exact ⟨rfl, rfl⟩
  obtain ⟨billets, orders⟩ := taken
  exact ⟨moved.trans billets, ring.trans orders⟩

/-- An extraction that times out loses its mark (R106). -/
theorem State.faulted_extract_unmarked (s : State) : ∀ q,
    ((s.faultTaken .extract).moveLine .faulted).tracker.exitRecord = some q → q.extracting = false := by
  intro q exit
  obtain ⟨t, moved⟩ := (s.faultTaken .extract).moveLine_exitRecord .faulted
  have unmarked : (s.endOperation.timedOut .extract).tracker.exitRecord =
      s.tracker.exitRecord.map fun r => { r with extracting := false } :=
    s.endOperation.updateExit_exitRecord fun _ => rfl
  rw [moved, State.faultTaken_exitRecord, unmarked] at exit
  simp only [Option.map_map, Option.map_eq_some_iff, Function.comp_apply] at exit
  obtain ⟨r, -, rfl⟩ := exit
  rw [(t.rechecked_marks _).2, (State.updated_marks _ _).2]
  rfl

/-- The call that an extraction answered is declined (R106). -/
theorem State.faulted_extract_declined (s : State) :
    ((s.faultTaken .extract).moveLine .faulted).isPending .pressDeclined = true := by
  have declined : ∀ t : State, t.decline.isPending .pressDeclined = true := fun t =>
    State.raise_isPending { t with wires.declinePulses := t.wires.declinePulses + 1 } .pressDeclined
  exact State.moveLine_sources (s := s.faultTaken .extract) .faulted
    (declined (s.endOperation.updateExit fun r => { r with extracting := false }))

/-- A diverted record keeps its reject verdict (R107). -/
theorem State.faulted_divert_verdict {r : BilletRecord} (exit : s.tracker.exitRecord = some r)
    (reject : r.verdict.isReject = true) :
    ∃ q, ((s.faultTaken .divert).moveLine .faulted).tracker.exitRecord = some q ∧ q.verdict = r.verdict := by
  obtain ⟨t, moved⟩ := (s.faultTaken .divert).moveLine_exitRecord .faulted
  have exit' : (s.endOperation.timedOut .divert).tracker.exitRecord = some r := exit
  rw [State.faultTaken_exitRecord, exit'] at moved
  obtain ⟨verdict, -⟩ := (s.faultTaken .divert).updated_marks (suspected r)
  have ungood : r.verdict ≠ .good := fun good => by rw [good] at reject; cases reject
  refine ⟨_, moved, ?_⟩
  dsimp only
  rw [t.rechecked_of_not_good (by rw [verdict]; exact ungood), verdict]
  rfl

/-! ### HANDLING_TIMER_EXPIRY -/

/-- What a handling timeout declines: the call an extraction answered, then the pending call of RUN (R106, R88). -/
theorem State.faulted_declines {o : Operation} (inFlight : s.cadence.operation = some o) :
    ((s.faultTaken o).moveLine .faulted).wires.declinePulses = s.wires.declinePulses + declinesAtFault s ∧
    Counted 13 (declinesAtFault s) s ((s.faultTaken o).moveLine .faulted) := by
  obtain ⟨pulses, counted⟩ := s.endOperation.timedOut_declines o
  obtain ⟨-, pulses'⟩ := (s.faultTaken o).moveLine_pulses .faulted
  have counted' := (s.faultTaken o).moveLine_declines_counted .faulted
  obtain ⟨-, -, outside, cadence, -⟩ := s.faultTaken_frame o
  obtain ⟨-, -, -, -, -, -, selection, -⟩ := sameOutside_of_outside outside
  have declines : declinesAtFault s = (if o = .extract then 1 else 0) +
      if s.cadence.line = .run ∧ s.cadence.pendingCall = true then 1 else 0 := by
    rw [declinesAtFault, inFlight]
    simp
  rw [cadence] at pulses' counted'
  rw [declines]
  refine ⟨?_, Counted.trans (t := s.faultTaken o) counted counted' selection⟩
  rw [pulses', ← Nat.add_assoc]
  exact congrArg (· + _) pulses

/-- What a handling timeout leaves, clause by clause of R104 to R107 and R109. -/
theorem handlingTimerExpiry_leaves {o : Operation} (inFlight : s.cadence.operation = some o)
    (runs : s.cadence.handlingTimer.isSome = true) : FaultLeaves s (handlingTimerExpiry s) := by
  rw [handlingTimerExpiry_running inFlight runs]
  have timedOut : ∀ o', s.cadence.operation = some o' → o = o' := fun o' h => Option.some.inj (inFlight.symm.trans h)
  obtain ⟨recipes, arbiter, outside, cadence, pins⟩ := s.faultTaken_frame o
  have moved := (s.faultTaken o).moveLine_lineMoved .faulted
  have reported := ((s.faultTaken o).moveLine_reported .faulted).1
  have budgets := (s.faultTaken o).moveLine_budgets .faulted
  have suspect := s.faulted_suspect o
  have cadence' := (s.faultTaken o).moveLine_cadence .faulted
  have pins' := (s.faultTaken o).moveLine_pins .faulted
  have announced := (s.faultTaken o).moveLine_announces (new := .faulted) rfl
  obtain ⟨-, -, -, -, -, -, -, known, -, line, -⟩ := (s.faultTaken o).moveLine_frame .faulted
  have slice := moved.slice
  rw [SliceKept, arbiter] at slice
  rw [pins, Cadence.pressReadyLevel_of_line (by rw [line]; decide)] at pins'
  rw [cadence] at cadence'
  refine ⟨line, known, congrArg Cadence.operation cadence', congrArg Cadence.handlingTimer cadence',
    congrArg Cadence.occupancyUnknown cadence', (congrArg Cadence.purgeStep cadence' :),
    (congrArg Cadence.minPush cadence' :),
    suspect, reported.noDemand (congrArg LineState.heats known), announced, ?_, fun run => ⟨?_, ?_⟩,
    sameOutside_of_outside (moved.outside.trans outside), slice, moved.recipes.trans recipes, fun z => ?_,
    fun loaded push => ?_, fun loaded i order push loads loading => ?_, fun loaded push heated r member at11 => ?_,
    fun atExit => ?_, fun extract => ?_, fun extract => ?_, fun divert r exit reject => ?_,
    State.faulted_declines inFlight⟩
  · rw [pins']
  · exact (congrArg Cadence.pendingCall cadence').trans (if_pos run)
  · exact (congrArg Cadence.coldWait cadence').trans (if_pos run)
  · obtain ⟨remaining, -⟩ := budgets z
    rw [remaining, arbiter]
  · obtain rfl := timedOut _ push
    exact s.faulted_push_train loaded
  · obtain rfl := timedOut _ push
    subst loads
    exact s.faulted_push_order loading
  · obtain rfl := timedOut _ push
    exact ⟨State.faulted_push_readingTimer loaded heated member at11,
      State.faulted_push_arrival loaded heated member at11⟩
  · exact State.faulted_exit_billets (atExit.imp (timedOut _) (timedOut _))
  · obtain rfl := timedOut _ extract
    exact s.faulted_extract_unmarked
  · obtain rfl := timedOut _ extract
    exact s.faulted_extract_declined
  · obtain rfl := timedOut _ divert
    exact State.faulted_divert_verdict exit reject

/-- Settles O50: what the timeout takes of the column by its operation, then the change to FAULTED. -/
theorem handlingTimeoutFaults : Obligations.HandlingTimeoutFaults := by
  refine fun s => ⟨fun inFlight runs => ?_, fun idle => congrArg Host.Outcome.next ?_⟩
  · obtain ⟨o, inFlight⟩ := Option.isSome_iff_exists.1 inFlight
    exact ⟨_, rfl, handlingTimerExpiry_leaves inFlight runs⟩
  · show handlingTimerExpiry s = s
    unfold handlingTimerExpiry
    rw [idle]

end Sys2Proof.Machine
end

section
/-! PROOF. RECLAIM frees the DONE orders at the oldest end (O28). -/

namespace Sys2Proof.Machine

set_option Elab.async false

/-! ### The ring after `k` reclaims (R128) -/

/-- The ring after its `k` oldest slots have been freed, as `reclaimed` gives it (R128). -/
def Ring.reclaimMany (r : Ring) (k : Nat) : Ring :=
  { r with
    slots := r.slots.mapIdx (fun i x => if (i + 64 - r.reclaim.val) % 64 < k then .free else x)
    reclaim := slotOn r.reclaim k
    occupied := r.occupied - k }

theorem reclaimed_eq (k : Nat) (s : State) :
    reclaimed k s = State.accept { s with ring := s.ring.reclaimMany k } [BitVec.ofNat 8 k] := rfl

theorem Ring.reclaimMany_zero (r : Ring) : r.reclaimMany 0 = r := by
  have slots : r.slots.mapIdx (fun i x => if (i + 64 - r.reclaim.val) % 64 < 0 then Slot.free else x) = r.slots := by
    ext i h
    simp
  simp only [Ring.reclaimMany, slots, slotOn_zero, Nat.sub_zero]

/-- A further slot of the run is untouched by the first reclaim. -/
theorem Ring.reclaimOne_slotOn (r : Ring) {j : Nat} (inside : j + 1 < 64) :
    r.reclaimOne.slots[slotOn r.reclaimOne.reclaim j] = r.slots[slotOn r.reclaim (j + 1)] := by
  have place : slotOn r.reclaimOne.reclaim j = slotOn r.reclaim (j + 1) := by
    ext
    simp only [slotOn, Ring.reclaimOne, Fin.val_add]
    omega
  have other : r.reclaim.val ≠ (slotOn r.reclaim (j + 1)).val := by
    simp only [slotOn]
    omega
  simp only [place]
  simp only [Ring.reclaimOne, Fin.getElem_fin, Vector.getElem_set, if_neg other]

theorem Ring.reclaimMany_succ (r : Ring) {k : Nat} (k64 : k < 64) :
    r.reclaimOne.reclaimMany k = r.reclaimMany (k + 1) := by
  rw [Ring.reclaimMany, Ring.reclaimMany, Ring.mk.injEq]
  refine ⟨?sameSlots, ?sameReclaim, rfl, rfl, ?sameOccupied, rfl, rfl, rfl⟩
  case sameSlots =>
    ext i h
    simp only [Ring.reclaimOne, Vector.getElem_mapIdx, Vector.getElem_set, Fin.val_add]
    by_cases oldest : r.reclaim.val = i
    · rw [if_pos oldest, ite_self, if_pos (by omega)]
    · rw [if_neg oldest]
      exact if_congr (by omega) rfl rfl
  case sameReclaim =>
    ext
    simp only [Ring.reclaimOne, slotOn, Fin.val_add]
    omega
  case sameOccupied =>
    simp only [Ring.reclaimOne]
    omega

/-! ### RECLAIM -/

theorem Slot.isDone_iff (x : Slot) : x.isDone = true ↔ ∃ o status, x = .done o status := by
  cases x <;> simp [Slot.isDone]

/-- Without an occupied slot, or with an oldest slot that is not DONE, nothing is reclaimed (R128). -/
theorem State.reclaimOldest_stops {s : State}
    (stop : s.ring.occupied = 0 ∨ s.ring.slots[s.ring.reclaim].isDone = false) (n : Nat) :
    s.reclaimOldest n = (s, 0) := by
  cases n with
  | zero => rfl
  | succ n =>
    unfold State.reclaimOldest
    split
    · rfl
    · rename_i some_
      have undone := stop.resolve_left some_
      split
      · rename_i oldest
        rw [oldest] at undone
        cases undone
      all_goals rfl

/-- A DONE oldest slot is reclaimed first (R128). -/
theorem State.reclaimOldest_frees {s : State} (some_ : s.ring.occupied ≠ 0)
    (done : s.ring.slots[s.ring.reclaim].isDone = true) (n : Nat) :
    s.reclaimOldest (n + 1) =
      let after := State.reclaimOldest { s with ring := s.ring.reclaimOne } n
      (after.1, after.2 + 1) := by
  obtain ⟨o, status, oldest⟩ := (Slot.isDone_iff _).1 done
  rw [State.reclaimOldest, if_neg some_, oldest]
  rfl

/-- What is counted behind a DONE oldest slot is one less than what is counted with it. -/
theorem ReclaimCount.tail {n k : Nat} {s : State} (count : ReclaimCount (n + 1) (k + 1) s) (n64 : n + 1 ≤ 64) :
    ReclaimCount n k { s with ring := s.ring.reclaimOne } := by
  obtain ⟨most, occupied, done, stop⟩ := count
  have left : s.ring.reclaimOne.occupied = s.ring.occupied - 1 := rfl
  refine ⟨by omega, show k ≤ s.ring.reclaimOne.occupied by omega, fun j below => ?_, ?_⟩
  · rw [show s.ring.reclaimOne.slots[slotOn s.ring.reclaimOne.reclaim j.val] = _ from
      s.ring.reclaimOne_slotOn (by omega)]
    exact done ⟨j.val + 1, by omega⟩ (Nat.succ_lt_succ below)
  · by_cases all : k = n
    · exact .inl all
    · rcases stop with all' | empty | undone
      · omega
      · exact .inr (.inl (show k = s.ring.reclaimOne.occupied by omega))
      · exact .inr (.inr ((congrArg Slot.isDone (s.ring.reclaimOne_slotOn (by omega))).trans undone))

/-- RECLAIM frees exactly the slots counted (R128). -/
theorem State.reclaimOldest_eq {n k : Nat} {s : State} (n64 : n ≤ 64) (count : ReclaimCount n k s) :
    s.reclaimOldest n = ({ s with ring := s.ring.reclaimMany k }, k) := by
  induction n generalizing s k with
  | zero =>
    obtain rfl : k = 0 := Nat.le_zero.1 count.1
    rw [Ring.reclaimMany_zero]
    rfl
  | succ n ih =>
    cases k with
    | zero =>
      obtain ⟨-, -, -, stop⟩ := count
      rw [Ring.reclaimMany_zero, State.reclaimOldest_stops]
      simp only [slotOn_zero] at stop
      exact (stop.resolve_left (by omega)).imp_left Eq.symm
    | succ k =>
      have rest := ih (by omega) (count.tail n64)
      obtain ⟨most, occupied, done, -⟩ := count
      have oldest : s.ring.slots[slotOn s.ring.reclaim 0].isDone = true := done 0 (Nat.succ_pos k)
      simp only [slotOn_zero] at oldest
      rw [State.reclaimOldest_frees (by omega) oldest, rest]
      exact congrArg (fun r => ({ s with ring := r }, k + 1)) (s.ring.reclaimMany_succ (k := k) (by omega))

/-- Settles O28: the recursion of the reclaim follows the run of DONE slots. -/
theorem reclaimFreesOldestDone : Obligations.ReclaimFreesOldestDone := by
  refine fun s n => ⟨fun k least most count => ?_, fun out => ?_⟩ <;> refine congrArg Host.Outcome.next ?_
  · show reclaimRequest n s = reclaimed k s
    unfold reclaimRequest
    rw [if_pos ⟨least, most⟩, State.reclaimOldest_eq most count, reclaimed_eq]
    rfl
  · show reclaimRequest n s = replied s .badValue []
    unfold reclaimRequest
    rw [if_neg (by omega)]
    rfl

end Sys2Proof.Machine
end

section
/-! PROOF. WITHDRAW frees the newest QUEUED orders (O27). -/

namespace Sys2Proof.Machine

set_option Elab.async false

/-! ### The ring after `k` withdrawals (R126) -/

/-- The ring after its `k` newest slots have been freed, as `WithdrawLeaves` gives it (R126). -/
def Ring.withdrawn (r : Ring) (k : Nat) : Ring :=
  { r with
    slots := Vector.ofFn (fun i => if r.occupied - k ≤ r.ahead i then .free else r.slots[i])
    tail := slotOn r.tail (64 - k)
    occupied := r.occupied - k
    queued := r.queued - k }

theorem Ring.withdrawn_slots (r : Ring) (k : Nat) (i : Fin 64) :
    (r.withdrawn k).slots[i] = if r.occupied - k ≤ r.ahead i then .free else r.slots[i] := by
  simp [Ring.withdrawn]

/-- Slots are compared one by one. -/
theorem slots_ext {x y : Vector Slot 64} (same : ∀ i : Fin 64, x[i] = y[i]) : x = y := by
  ext i h
  exact same ⟨i, h⟩

theorem Ring.withdrawn_zero {r : Ring} (h : r.InOrder) : r.withdrawn 0 = r := by
  obtain ⟨-, -, -, -, at_⟩ := h
  have slots : (r.withdrawn 0).slots = r.slots := slots_ext fun i => by
    obtain ⟨-, -, free⟩ := at_ i
    rw [Ring.withdrawn_slots]
    split
    · exact (free ‹_›).symm
    · rfl
  have tail : slotOn r.tail 64 = r.tail := by
    ext
    simp only [slotOn]
    omega
  calc r.withdrawn 0 = { r with slots := (r.withdrawn 0).slots, tail := slotOn r.tail 64 } := rfl
    _ = r := by rw [slots, tail]

/-- The newest slot stands just before the tail: last in the run (R120). -/
theorem Ring.InOrder.newest_ahead {r : Ring} (h : r.InOrder) (some_ : 1 ≤ r.occupied) (i : Fin 64) :
    r.tail - 1 = i ↔ r.ahead i = r.occupied - 1 := by
  obtain ⟨-, most, tail, -, -⟩ := h
  have before : (r.tail - 1).val = (63 + r.tail.val) % 64 := by simp [Fin.sub_def]
  rw [Fin.ext_iff, before, Ring.ahead_val]
  exact newest_iff r.reclaim.isLt i.isLt tail some_ most

theorem Ring.unpost_slots (r : Ring) (i : Fin 64) :
    r.unpost.slots[i] = if r.tail - 1 = i then .free else r.slots[i] := by
  simp only [Ring.unpost, Fin.getElem_fin, Vector.getElem_set, Fin.ext_iff]

theorem Ring.unpost_withdrawn {r : Ring} (h : r.InOrder) {k : Nat} (most : k + 1 ≤ r.occupied) :
    r.unpost.withdrawn k = r.withdrawn (k + 1) := by
  have newest := h.newest_ahead (by omega)
  obtain ⟨-, most64, -⟩ := h
  have left : r.unpost.occupied = r.occupied - 1 := rfl
  have slots : (r.unpost.withdrawn k).slots = (r.withdrawn (k + 1)).slots := slots_ext fun i => by
    have ahead : r.unpost.ahead i = r.ahead i := rfl
    rw [Ring.withdrawn_slots, Ring.withdrawn_slots, Ring.unpost_slots, ahead, left]
    by_cases last : r.tail - 1 = i
    · have := (newest i).1 last
      rw [if_pos last, ite_self, if_pos (by omega)]
    · rw [if_neg last]
      exact if_congr (by omega) rfl rfl
  have tail : (r.unpost.withdrawn k).tail = (r.withdrawn (k + 1)).tail := by
    ext
    simp only [Ring.withdrawn, Ring.unpost, slotOn, Fin.sub_def]
    omega
  rw [Ring.withdrawn, Ring.withdrawn, Ring.mk.injEq]
  refine ⟨slots, rfl, rfl, tail, ?_, ?_, rfl, rfl⟩ <;> simp only [Ring.unpost] <;> omega

/-- The newest slot of a ring in order is QUEUED exactly while an order is QUEUED. -/
theorem Ring.InOrder.newest_queued {r : Ring} (h : r.InOrder) :
    r.slots[r.tail - 1].isQueued = true ↔ 0 < r.queued := by
  constructor
  · intro queued
    have := h.queued_place queued
    omega
  · intro queued
    have within : r.queued ≤ r.occupied := h.1
    have place := (h.newest_ahead (by omega) (r.tail - 1)).1 rfl
    obtain ⟨-, -, -, -, at_⟩ := h
    obtain ⟨-, run, -⟩ := at_ (r.tail - 1)
    exact run (by omega)

/-! ### Use counts lowered (R150) -/

/-- The recipe table with each use count lowered by the number given, and nothing else changed. -/
structure RecipeTable.Lowered (by_ : RecipeRef → Nat) (t u : RecipeTable) : Prop where
  uses        : ∀ ref, u.useOf ref = t.useOf ref - by_ ref
  entries     : ∀ i : Fin 32, u.entries[i] = t.entries[i].map (fun e => { e with useCount := u.useOf (.entry i) })
  windows     : ∀ w : Fin 2, u.windows[w] = { t.windows[w] with useCount := u.useOf (.window w) }
  wants       : u.wants = t.wants
  writebacks  : u.writebacks = t.writebacks
  replacement : u.replacement = t.replacement

theorem RecipeTable.useOf_entry (t : RecipeTable) (i : Fin 32) :
    t.useOf (.entry i) = (t.entries[i].map Entry.useCount).getD 0 := by
  unfold RecipeTable.useOf
  dsimp only
  cases t.entries[i] <;> rfl

theorem RecipeTable.entries_ownUse (t : RecipeTable) (i : Fin 32) :
    t.entries[i] = t.entries[i].map (fun e => { e with useCount := t.useOf (.entry i) }) := by
  rw [RecipeTable.useOf_entry]
  cases t.entries[i] <;> rfl

theorem RecipeTable.lowered_refl (t : RecipeTable) : t.Lowered (fun _ => 0) t :=
  ⟨fun _ => rfl, t.entries_ownUse, fun _ => rfl, rfl, rfl, rfl⟩

theorem RecipeTable.Lowered.trans {a b : RecipeRef → Nat} {t u v : RecipeTable} (h : t.Lowered a u)
    (k : u.Lowered b v) : t.Lowered (fun ref => a ref + b ref) v where
  uses ref := by rw [k.uses, h.uses, Nat.sub_sub]
  entries i := by
    rw [k.entries, h.entries, Option.map_map]
    rfl
  windows w := by rw [k.windows, h.windows]
  wants := k.wants.trans h.wants
  writebacks := k.writebacks.trans h.writebacks
  replacement := k.replacement.trans h.replacement

theorem RecipeTable.changeUse_useOf_other (t : RecipeTable) {ref other : RecipeRef} (f : Nat → Nat)
    (ne : ref ≠ other) : (t.changeUse (.recipe ref) f).useOf other = t.useOf other := by
  cases ref <;> cases other <;> simp only [RecipeTable.changeUse, RecipeTable.useOf]
  case entry.entry i j =>
    have apart : i.val ≠ j.val := fun same => ne (congrArg _ (Fin.ext same))
    simp only [Fin.getElem_fin, Vector.getElem_set_ne _ _ apart]
  case window.window v w =>
    have apart : v.val ≠ w.val := fun same => ne (congrArg _ (Fin.ext same))
    simp only [Fin.getElem_fin, Vector.getElem_set_ne _ _ apart]

/-- A use count changed is all that changes of the entries (R150). -/
theorem RecipeTable.changeUse_entries (t : RecipeTable) (ref : RecipeRef) (f : Nat → Nat) (zero : f 0 = 0)
    (i : Fin 32) :
    (t.changeUse (.recipe ref) f).entries[i] =
      t.entries[i].map (fun e => { e with useCount := (t.changeUse (.recipe ref) f).useOf (.entry i) }) := by
  by_cases same : ref = .entry i
  · subst same
    rw [RecipeTable.changeUse_useOf _ _ _ zero, RecipeTable.useOf_entry]
    simp only [RecipeTable.changeUse, Fin.getElem_fin, Vector.getElem_set_self]
    cases t.entries[i.val] <;> rfl
  · rw [RecipeTable.changeUse_useOf_other _ _ same, ← t.entries_ownUse]
    cases ref with
    | entry j =>
      have apart : j.val ≠ i.val := fun value => same (congrArg _ (Fin.ext value))
      exact Vector.getElem_set_ne j.isLt i.isLt apart
    | window w => rfl

/-- A use count changed is all that changes of the windows (R150). -/
theorem RecipeTable.changeUse_windows (t : RecipeTable) (ref : RecipeRef) (f : Nat → Nat) (zero : f 0 = 0)
    (w : Fin 2) :
    (t.changeUse (.recipe ref) f).windows[w] =
      { t.windows[w] with useCount := (t.changeUse (.recipe ref) f).useOf (.window w) } := by
  by_cases same : ref = .window w
  · subst same
    rw [RecipeTable.changeUse_useOf _ _ _ zero]
    exact Vector.getElem_set_self _
  · rw [RecipeTable.changeUse_useOf_other _ _ same]
    cases ref with
    | entry i => rfl
    | window v =>
      have apart : v.val ≠ w.val := fun value => same (congrArg _ (Fin.ext value))
      exact Vector.getElem_set_ne v.isLt w.isLt apart

/-- One order less resolved as given lowers the count its resolution names by one (R150). -/
theorem RecipeTable.changeUse_lowered (t : RecipeTable) (r : Resolution) :
    t.Lowered (fun ref => if r = .recipe ref then 1 else 0) (t.changeUse r (· - 1)) := by
  cases r with
  | noRecipe => exact t.lowered_refl
  | recipe ref =>
    refine ⟨fun other => ?_, t.changeUse_entries ref _ rfl, t.changeUse_windows ref _ rfl, ?_, ?_, ?_⟩
    · by_cases same : ref = other
      · subst same
        rw [if_pos rfl]
        exact t.changeUse_useOf ref _ rfl
      · rw [if_neg (mt Resolution.recipe.inj same)]
        exact t.changeUse_useOf_other _ same
    all_goals cases ref <;> rfl

/-! ### The orders withdrawn -/

/-- The number of orders among the `k` newest that are resolved to an entry or window. -/
def Ring.newestUses (r : Ring) (k : Nat) (ref : RecipeRef) : Nat :=
  (List.finRange 64).countP (fun i => decide (r.occupied - k ≤ r.ahead i) && r.slots[i].refersTo ref)

theorem Ring.newestUses_zero {r : Ring} (h : r.InOrder) (ref : RecipeRef) : r.newestUses 0 ref = 0 := by
  obtain ⟨-, -, -, -, at_⟩ := h
  refine List.countP_eq_zero.2 fun i _ => ?_
  obtain ⟨-, -, free⟩ := at_ i
  by_cases out : r.occupied ≤ r.ahead i
  · simp [free out, Slot.refersTo]
  · simp [out]

theorem Ring.InOrder.lowered_none {r : Ring} (h : r.InOrder) (t : RecipeTable) : t.Lowered (r.newestUses 0) t := by
  rw [show r.newestUses 0 = fun _ => 0 from funext (Ring.newestUses_zero h)]
  exact t.lowered_refl

/-- Two counts over a range that agree but at one place, which the second does not count. -/
theorem countP_finRange_split {n : Nat} {p q : Fin n → Bool} {a : Fin n} (off : q a = false)
    (agree : ∀ i, i ≠ a → p i = q i) :
    (List.finRange n).countP p = (if p a then 1 else 0) + (List.finRange n).countP q := by
  have apart : (List.finRange n).Perm (a :: (List.finRange n).erase a) := List.perm_cons_erase (List.mem_finRange a)
  have rest : ((List.finRange n).erase a).countP p = ((List.finRange n).erase a).countP q :=
    List.countP_congr fun i member => by rw [agree i ((List.nodup_finRange n).mem_erase_iff.1 member).1]
  rw [apart.countP_eq p, apart.countP_eq q, List.countP_cons, List.countP_cons, rest, off, Nat.add_comm]
  rfl

theorem Ring.newestUses_succ {r : Ring} (h : r.InOrder) {k : Nat} (most : k + 1 ≤ r.occupied) {o : BilletOrder}
    (newest : r.slots[r.tail - 1] = .queued o) (ref : RecipeRef) :
    r.newestUses (k + 1) ref = (if o.resolution = .recipe ref then 1 else 0) + r.unpost.newestUses k ref := by
  have place := h.newest_ahead (by omega)
  have last := (place (r.tail - 1)).1 rfl
  have left : r.unpost.occupied = r.occupied - 1 := rfl
  have ahead : ∀ i, r.unpost.ahead i = r.ahead i := fun _ => rfl
  have first := countP_finRange_split (a := r.tail - 1)
    (p := fun i => decide (r.occupied - (k + 1) ≤ r.ahead i) && r.slots[i].refersTo ref)
    (q := fun i => decide (r.unpost.occupied - k ≤ r.unpost.ahead i) && r.unpost.slots[i].refersTo ref)
    (by rw [Ring.unpost_slots, if_pos rfl]; exact Bool.and_false _)
    (fun i other => by
      rw [Ring.unpost_slots, if_neg (Ne.symm other), left, ahead, Nat.sub_sub, Nat.add_comm 1 k])
  rw [Ring.newestUses, first, newest]
  refine congrArg (· + _) (if_congr ?_ rfl rfl)
  have inside : r.occupied - (k + 1) ≤ r.ahead (r.tail - 1) := by omega
  simp [inside, Slot.refersTo]

/-! ### WITHDRAW -/

/-- With no order QUEUED nothing is withdrawn (R126). -/
theorem State.withdrawNewest_stops {s : State} (none_ : s.ring.slots[s.ring.tail - 1].isQueued = false) (n : Nat) :
    s.withdrawNewest n = (s, 0) := by
  cases n with
  | zero => rfl
  | succ n =>
    unfold State.withdrawNewest
    dsimp only
    split
    · rename_i newest
      rw [newest] at none_
      cases none_
    all_goals rfl

/-- A QUEUED newest order is withdrawn first (R126). -/
theorem State.withdrawNewest_frees {s : State} {o : BilletOrder} (newest : s.ring.slots[s.ring.tail - 1] = .queued o)
    (n : Nat) :
    s.withdrawNewest (n + 1) =
      let after := State.withdrawNewest
        { s with ring := s.ring.unpost, recipes := s.recipes.changeUse o.resolution (· - 1) } n
      (after.1, after.2 + 1) := by
  rw [State.withdrawNewest]
  simp only [newest]
  rfl

/-- The state with the `k` newest orders freed and the recipe table as given. -/
def State.withdrawn (s : State) (k : Nat) (recipes : RecipeTable) : State :=
  { s with ring := s.ring.withdrawn k, recipes := recipes }

theorem State.withdrawn_zero {s : State} (h : s.ring.InOrder) : s.withdrawn 0 s.recipes = s := by
  rw [State.withdrawn, Ring.withdrawn_zero h]

theorem State.withdrawn_succ {s : State} (h : s.ring.InOrder) {k : Nat} (most : k + 1 ≤ s.ring.occupied)
    (lowered recipes : RecipeTable) :
    State.withdrawn { s with ring := s.ring.unpost, recipes := lowered } k recipes = s.withdrawn (k + 1) recipes := by
  rw [State.withdrawn, State.withdrawn, ← Ring.unpost_withdrawn h most]

/-- WITHDRAW frees the newest QUEUED orders, up to n, and lowers the use count of each order's recipe (R126, R150). -/
theorem State.withdrawNewest_eq {s : State} (h : s.ring.InOrder) (n : Nat) :
    ∃ recipes, s.recipes.Lowered (s.ring.newestUses (min n s.ring.queued)) recipes ∧
      s.withdrawNewest n = (s.withdrawn (min n s.ring.queued) recipes, min n s.ring.queued) := by
  induction n generalizing s with
  | zero =>
    rw [Nat.zero_min]
    exact ⟨s.recipes, h.lowered_none _, by rw [State.withdrawn_zero h]; rfl⟩
  | succ n ih =>
    cases newest : s.ring.slots[s.ring.tail - 1] with
    | queued o =>
      have queued : 0 < s.ring.queued := h.newest_queued.1 (by rw [newest]; rfl)
      have within : s.ring.queued ≤ s.ring.occupied := h.1
      obtain ⟨recipes, rest, taken⟩ := ih
        (s := { s with ring := s.ring.unpost, recipes := s.recipes.changeUse o.resolution (· - 1) })
        (h.unpost (by rw [newest]; rfl))
      have more : min (n + 1) s.ring.queued = min n s.ring.unpost.queued + 1 := by
        simp only [Ring.unpost]
        omega
      have most : min n s.ring.unpost.queued + 1 ≤ s.ring.occupied := by omega
      rw [more, State.withdrawNewest_frees newest, taken]
      refine ⟨recipes, ?_, ?_⟩
      · rw [show s.ring.newestUses _ = _ from funext (Ring.newestUses_succ h most newest)]
        exact (s.recipes.changeUse_lowered o.resolution).trans rest
      · exact congrArg (·, _) (State.withdrawn_succ h most _ recipes)
    | free | loading _ | inLine _ | done _ _ =>
      have none_ : s.ring.queued = 0 := Nat.eq_zero_of_not_pos fun some_ => by
        have := h.newest_queued.2 some_
        rw [newest] at this
        cases this
      rw [none_, Nat.min_zero, State.withdrawNewest_stops (by rw [newest]; rfl)]
      exact ⟨s.recipes, h.lowered_none _, by rw [State.withdrawn_zero h]⟩

/-- The withdrawal's fall of the queued count raises RING_LOW (R138). -/
theorem State.withdrawn_ringLow (s : State) (k : Nat) (recipes : RecipeTable) :
    (s.withdrawn k recipes).ringLow s.ring.queued =
      if s.settings.ringLowMark < s.ring.queued ∧ s.ring.queued - k ≤ s.settings.ringLowMark then
        sourcesRaised (s.withdrawn k recipes) 0b100#11
      else s.withdrawn k recipes :=
  State.ringLow_eq _ _

/-- What WITHDRAW leaves, told block by block. -/
theorem withdrawLeaves_of_blocks {s t : State} {k : Nat} (most : k ≤ 64) (ring : t.ring = s.ring.withdrawn k)
    (lowered : s.recipes.Lowered (s.ring.newestUses k) t.recipes)
    (pending : t.attention.pending = s.attention.pending |||
      (if s.settings.ringLowMark < s.ring.queued ∧ s.ring.queued - k ≤ s.settings.ringLowMark
        then 0b100#11 else 0#11))
    (enabled : t.attention.enabled = s.attention.enabled) (reply : t.reply = some ⟨.ok, [BitVec.ofNat 8 k]⟩)
    (frame : t = { s with
      ring := t.ring, recipes := t.recipes, attention := t.attention, reply := t.reply
      pins := { s.pins with alert := t.pins.alert } }) : WithdrawLeaves k s t := by
  obtain ⟨uses, entries, windows, wants, writebacks, replacement⟩ := lowered
  have tail : (slotOn s.ring.tail (64 - k)).val = (s.ring.tail.val + 64 - k) % 64 := by
    simp only [slotOn]
    omega
  refine ⟨?reclaim, ?load, ?tail, ?occupied, ?queued, ?batch, ?timer, fun i => ?slots, fun ref => ?uses, entries,
    windows, pending, enabled, reply, wants, writebacks, replacement, frame⟩
  case tail => rw [ring, ← tail, Ring.withdrawn]
  case slots => rw [ring, Ring.withdrawn_slots]
  case uses => rw [uses, Ring.newestUses]
  all_goals rw [ring, Ring.withdrawn]

/-- RING_LOW and a reply touch neither the ring nor the recipe table, and of the pins ALERT alone. -/
theorem State.ringLow_accept_same (s : State) (ring : Ring) (recipes : RecipeTable) (before : Nat) (data : List Byte) :
    let t := (State.ringLow { s with ring := ring, recipes := recipes } before).accept data
    t = { s with
      ring := t.ring, recipes := t.recipes, attention := t.attention, reply := t.reply
      pins := { s.pins with alert := t.pins.alert } } := by
  dsimp only
  unfold State.ringLow State.raiseIf
  split <;> rfl

/-- What a withdrawal of `k` orders leaves once RING_LOW has followed the fall and the reply is formed (R126, R138). -/
theorem withdrawLeaves_withdrawn {s : State} {k : Nat} (most : k ≤ 64) {recipes : RecipeTable}
    (lowered : s.recipes.Lowered (s.ring.newestUses k) recipes) :
    WithdrawLeaves k s (((s.withdrawn k recipes).ringLow s.ring.queued).accept [BitVec.ofNat 8 k]) := by
  refine withdrawLeaves_of_blocks most ?ring ?recipes ?pending ?enabled rfl
    (s.ringLow_accept_same (s.ring.withdrawn k) recipes _ _)
  case ring => simp only [State.accept_frame, State.ringLow_frame, State.withdrawn]
  case recipes => simpa only [State.accept_frame, State.ringLow_frame, State.withdrawn] using lowered
  case enabled => simp only [State.accept_frame, State.ringLow_frame, State.withdrawn]
  case pending =>
    simp only [State.accept_frame, State.withdrawn_ringLow]
    split
    · rfl
    · exact BitVec.or_zero.symm

/-- Settles O27: the orders freed are the newest of the queued part of the run. -/
theorem withdrawFreesNewest : Obligations.WithdrawFreesNewest := by
  refine fun s n => ⟨fun least most h => ?_, fun out => congrArg Host.Outcome.next ?_⟩
  · obtain ⟨recipes, lowered, taken⟩ := State.withdrawNewest_eq h n
    refine ⟨_, rfl, ?_⟩
    unfold withdrawRequest
    rw [if_pos ⟨least, most⟩, taken]
    exact withdrawLeaves_withdrawn (by omega) lowered
  · show withdrawRequest n s = replied s .badValue []
    unfold withdrawRequest
    rw [if_neg (by omega)]
    rfl

end Sys2Proof.Machine
end

section
/-! PROOF. POST ORDER (O25, O26). -/

namespace Sys2Proof.Machine

set_option Elab.async false

/-! ### The lookup of a key (R145, R146) -/

/-- A window resolves a key in the statements' words, bit by bit (R145). -/
theorem Window.resolves_iff (w : Window) (key : Key) : w.resolves key = true ↔ WindowMatches w key := by
  have agree : w.covers key = true ↔
      ∀ b : Fin 16, w.mask.getLsbD b = false → key.value.getLsbD b = w.base.getLsbD b := by
    rw [Window.covers, beq_iff_eq, BitVec.eq_of_getLsbD_eq_iff, Fin.forall_iff]
    refine forall₂_congr fun b inside => ?_
    simp only [BitVec.getLsbD_and, BitVec.getLsbD_xor, BitVec.getLsbD_not, BitVec.getLsbD_zero, inside, decide_true,
      Bool.true_and]
    generalize w.mask.getLsbD b = masked, key.value.getLsbD b = x, w.base.getLsbD b = y
    revert masked x y
    decide
  rw [Window.resolves, Bool.and_eq_true, agree]

theorem Window.not_resolves {w : Window} {key : Key} (apart : ¬ WindowMatches w key) : ¬ w.resolves key = true :=
  mt (w.resolves_iff key).1 apart

/-- A key that resolves is found there, and its use count rises (R146, R150). -/
theorem State.lookup_resolved {s : State} {key : Key} {ref : RecipeRef} {outcome : Nat}
    (h : Resolves s key ref outcome) : s.lookup key = some ⟨ref, outcome, s.addUse (.recipe ref)⟩ := by
  unfold State.lookup
  cases ref with
  | window w =>
    obtain ⟨rfl, here, first⟩ := h
    have here := (Window.resolves_iff _ _).2 here
    match w with
    | 0 => exact if_pos here
    | 1 => rw [if_neg (Window.not_resolves (first rfl)), if_pos here]
  | entry i =>
    obtain ⟨rfl, apart, found⟩ := h
    rw [if_neg (Window.not_resolves (apart 0)), if_neg (Window.not_resolves (apart 1)), found]

section
variable {s : State} {key : Key} (apart : ∀ w : Fin 2, ¬ WindowMatches s.recipes.windows[w] key)
  (absent : s.recipes.keySearch key = none)
include apart absent

/-- A key that nothing holds is blocked without room for a want or without a way (R148). -/
theorem State.lookup_blocked (blocked : 4 ≤ s.recipes.wants.length ∨ s.recipes.wayFor key = none) :
    s.lookup key = none := by
  unfold State.lookup
  rw [if_neg (Window.not_resolves (apart 0)), if_neg (Window.not_resolves (apart 1)), absent]
  dsimp only
  split
  · rfl
  · rw [blocked.resolve_left ‹_›]

/-- A key that nothing holds is allocated in the way found (R148). -/
theorem State.lookup_allocated {i : Fin 32} (room : s.recipes.wants.length < 4) (way : s.recipes.wayFor key = some i) :
    s.lookup key = some ⟨.entry i, 2, s.allocate key i⟩ := by
  unfold State.lookup
  rw [if_neg (Window.not_resolves (apart 0)), if_neg (Window.not_resolves (apart 1)), absent]
  dsimp only
  rw [if_neg (by omega), way]

end

/-! ### The order posted (R124) -/

section
variable (billetId : BitVec 32) (key : Key) {flags : BitVec 8} {entryTemp exitOverride : Nat}

/-- An order is formed exactly when the values pass the first check of R124. -/
theorem orderOf_ok (ok : OrderValuesOk flags entryTemp exitOverride) (resolution : Resolution) (ref : RecipeRef) :
    orderOf billetId key flags entryTemp exitOverride resolution =
      some { postedOrder billetId key flags entryTemp exitOverride ref with resolution := resolution } := by
  obtain ⟨defined, temp, goal⟩ := ok
  unfold orderOf
  refine if_pos ⟨defined, ?_, ?_⟩
  · cases given : flags.getLsbD 2
    · rfl
    · exact decide_eq_true (temp given)
  · cases given : flags.getLsbD 3
    · rfl
    · exact decide_eq_true (goal given)

theorem orderOf_bad (bad : ¬ OrderValuesOk flags entryTemp exitOverride) (resolution : Resolution) :
    orderOf billetId key flags entryTemp exitOverride resolution = none := by
  unfold orderOf
  refine if_neg fun ⟨defined, temp, goal⟩ => bad ⟨defined, fun given => ?_, fun given => ?_⟩
  · rw [if_pos given] at temp
    exact of_decide_eq_true temp
  · rw [if_pos given] at goal
    exact of_decide_eq_true goal

variable {billetId key}

/-- With room in the ring a key found has its order queued, and the replacement counter advances (R124, R147). -/
theorem postOrderRequest_found {s : State} {found : Lookup} (ok : OrderValuesOk flags entryTemp exitOverride)
    (room : s.ring.occupied < 64) (lookup : s.lookup key = some found) :
    postOrderRequest billetId key flags entryTemp exitOverride s =
      (found.after.queueOrder (postedOrder billetId key flags entryTemp exitOverride found.ref)
        ).advanceReplacement.accept
          [BitVec.ofNat 8 s.ring.tail.val, BitVec.ofNat 8 found.ref.code, BitVec.ofNat 8 found.outcome] := by
  unfold postOrderRequest
  rw [orderOf_ok billetId key ok .noRecipe found.ref]
  dsimp only
  rw [if_neg (by omega), lookup]
  rfl

end

/-- Queueing an order is what the statements say of the ring (R124). -/
theorem State.queueOrder_eq (s : State) (order : BilletOrder) :
    s.queueOrder order = { s with ring := ringPosted s.ring order } := rfl

theorem RecipeTable.changeUse_raised (t : RecipeTable) (ref : RecipeRef) :
    t.changeUse (.recipe ref) (· + 1) = useRaised t ref := by
  cases ref <;> rfl

theorem useRaised_replacement (t : RecipeTable) (ref : RecipeRef) : (useRaised t ref).replacement = t.replacement := by
  cases ref <;> rfl

/-- Settles O25: the checks of R124 in their order, then the lookup's answer. -/
theorem postOrderQueuesResolvedOrder : Obligations.PostOrderQueuesResolvedOrder := by
  refine fun s billetId key flags entryTemp exitOverride => ⟨fun bad => ?_, fun ok full => ?_,
    fun ok room apart absent blocked => ?_, fun ref outcome ok room resolves => ?_⟩ <;>
    refine congrArg Host.Outcome.next ?_
  · show postOrderRequest billetId key flags entryTemp exitOverride s = _
    rw [postOrderRequest, orderOf_bad billetId key bad]
    rfl
  · show postOrderRequest billetId key flags entryTemp exitOverride s = _
    rw [postOrderRequest, orderOf_ok billetId key ok .noRecipe (.window 0)]
    exact if_pos full
  · show postOrderRequest billetId key flags entryTemp exitOverride s = _
    rw [postOrderRequest, orderOf_ok billetId key ok .noRecipe (.window 0)]
    dsimp only
    rw [if_neg (by omega), State.lookup_blocked apart absent blocked]
    rfl
  · refine (postOrderRequest_found ok room (State.lookup_resolved resolves)).trans ?_
    rw [State.queueOrder_eq, State.addUse, RecipeTable.changeUse_raised, ← useRaised_replacement s.recipes ref]
    rfl

/-! ### The allocation (R148, R149) -/

/-- A hand-over in the statements' words (R173). -/
theorem State.handOver_eq (s : State) (x : WritebackRecord) : s.handOver x = handedOver s x := by
  rw [State.handOver, State.raise_eq_sourcesRaised, State.count_eq_eventCounted, handedOver, listAfter_eq]
  rfl

/-- An entry gives up its key: its record is handed over if it is LEARNED, then it is INVALID (R149). -/
theorem State.giveUp_evicted (s : State) (i : Fin 32) : s.giveUp i .evicted = (evicted s i).setEntry i none := by
  unfold State.giveUp evicted
  cases entry : s.recipes.entries[i] with
  | some e =>
    dsimp only
    rw [State.handOver_eq]
    rfl
  | none =>
    have same : s.recipes.entries.set i none = s.recipes.entries := by
      rw [← entry]
      exact Vector.set_getElem_self _
    exact (congrArg (fun entries => { s with recipes.entries := entries }) same).symm

theorem State.setEntry_setEntry (s : State) (i : Fin 32) (e x : Option Entry) :
    (s.setEntry i e).setEntry i x = s.setEntry i x := by
  simp only [State.setEntry, Vector.set_set]

/-- An eviction leaves ring, clock and settings as they were (R149). -/
theorem evicted_frame (s : State) (i : Fin 32) :
    (evicted s i).ring = s.ring ∧ (evicted s i).tracker = s.tracker ∧ (evicted s i).settings = s.settings := by
  unfold evicted
  split
  · split <;> exact ⟨rfl, rfl, rfl⟩
  · exact ⟨rfl, rfl, rfl⟩

/-- The allocation in the statements' words: after the eviction the entry, its want, RECIPE_WANTED and the miss counted,
the replacement counter as it stands (R148). -/
theorem State.allocate_eq (s : State) (key : Key) (i : Fin 32) :
    s.allocate key i = eventCounted (sourcesRaised { evicted s i with
      recipes := { tableAllocated s (evicted s i).recipes i key with
        replacement := (evicted s i).recipes.replacement } } 0b1000#11) 8 := by
  obtain ⟨-, tracker, settings⟩ := evicted_frame s i
  unfold State.allocate
  rw [State.giveUp_evicted, State.setEntry_setEntry]
  dsimp only
  rw [State.raise_eq_sourcesRaised, State.count_eq_eventCounted, tableAllocated, ← tracker, ← settings]
  rfl

/-- Settles O26: the lookup's answer is the allocation, and the order is queued behind it. -/
theorem postOrderAllocatesUnknownKey : Obligations.PostOrderAllocatesUnknownKey := by
  intro s billetId key flags entryTemp exitOverride i ok room apart absent wants way
  refine congrArg Host.Outcome.next
    ((postOrderRequest_found ok room (State.lookup_allocated apart absent wants way)).trans ?_)
  obtain ⟨ring, -⟩ := evicted_frame s i
  rw [State.queueOrder_eq, State.allocate_eq, ← ring]
  rfl

end Sys2Proof.Machine
end

section
/-! PROOF. The batch delay's expiry and a fetch timeout (O52). -/

namespace Sys2Proof.Machine

set_option Elab.async false

/-- The want found under a key, where its entry is PENDING (R153). -/
theorem State.wantFor_pending {s : State} {key : Key} {w : Want} {e : Entry}
    (found : s.recipes.wants.find? (fun x => x.key = key) = some w) (entry : s.recipes.entries[w.entry] = some e)
    (pending : e.state = .pending) : s.wantFor key = some w := by
  unfold State.wantFor
  rw [show (fun x : Want => x.key == key) = fun x => decide (x.key = key) from rfl, found]
  dsimp only
  rw [entry]
  exact if_pos pending

theorem State.wantFor_absent {s : State} {key : Key} (absent : ∀ w ∈ s.recipes.wants, w.key ≠ key) :
    s.wantFor key = none := by
  have unfound : s.recipes.wants.find? (fun w => w.key == key) = none :=
    List.find?_eq_none.2 fun w member => by simpa using absent w member
  unfold State.wantFor
  rw [unfound]

/-- A QUEUED order that waits for the entry is marked NO_RECIPE (R130). -/
theorem Slot.markNoRecipe_queued (i : Fin 32) (o : BilletOrder) :
    (Slot.queued o).markNoRecipe i =
      .queued (if o.resolution = .recipe (.entry i) then { o with resolution := .noRecipe } else o) :=
  (apply_ite Slot.queued _ _ _).symm

/-- What is left once a want and its entry have gone, whatever the entry's use count was: the orders that waited for it
are marked (R130, R153). -/
theorem State.wantLost_eq {s : State} {i : Fin 32} {marked : Nat → Slot → Slot}
    (marks : ∀ n x, x.markNoRecipe i = marked n x) :
    ((s.dropWant i).markNoRecipe i).setEntry i none = { s with
      ring := { s.ring with slots := s.ring.slots.mapIdx marked }
      recipes := { s.recipes with
        entries := s.recipes.entries.set i none
        wants := s.recipes.wants.filter (fun x => x.entry ≠ i) } } := by
  have wants : s.recipes.wants.filter (fun w => w.entry != i) = s.recipes.wants.filter (fun w => w.entry ≠ i) :=
    List.filter_congr fun w _ => by simp [bne, beq_eq_decide]
  have slots : s.ring.slots.mapIdx (fun _ x => x.markNoRecipe i) = s.ring.slots.mapIdx marked :=
    congrArg (s.ring.slots.mapIdx ·) (funext₂ marks)
  simp only [State.setEntry, State.markNoRecipe, State.dropWant, RecipeTable.changeUse, Vector.set_set, wants, slots]

/-- Settles O52: each expiry's cases as the model has them. -/
theorem ringAndFetchTimeouts : Obligations.RingAndFetchTimeouts := by
  refine fun s => ⟨fun running counted => ?_, fun running none_ => ?_, fun stopped => ?_,
    fun key w e found entry pending => ?_, fun key absent => ?_⟩ <;> refine congrArg Host.Outcome.next ?_
  · show batchDelayExpiry s = _
    rw [batchDelayExpiry, if_pos running]
    dsimp only
    rw [if_pos counted, State.raiseOrderDone, State.raise_eq_sourcesRaised]
    rfl
  · show batchDelayExpiry s = _
    rw [batchDelayExpiry, if_pos running]
    exact if_neg (by omega)
  · show batchDelayExpiry s = s
    rw [batchDelayExpiry, stopped]
    rfl
  · show fetchTimeout key s = _
    rw [fetchTimeout, State.wantFor_pending found entry pending]
    dsimp only
    rw [State.raise_eq_sourcesRaised, State.count_eq_eventCounted]
    refine congrArg (fun t => eventCounted (sourcesRaised t 0b10000#11) 9) (State.wantLost_eq fun _ x => ?_)
    cases x with
    | queued o => exact Slot.markNoRecipe_queued w.entry o
    | free | loading _ | inLine _ | done _ _ => rfl
  · show fetchTimeout key s = s
    rw [fetchTimeout, State.wantFor_absent absent]

end Sys2Proof.Machine
end

section
/-! SUPPORT. The ledger: what the laws of the recipe table read of the state, and those laws on it (O59). -/

namespace Sys2Proof.Machine

set_option Elab.async false

/-! ### The ledger as a view of the state -/

/-- What the laws of the recipe table read of a billet record. -/
structure Bond where
  slot     : Fin 64
  billetId : BitVec 32
  ref      : RecipeRef

/-- The bond of a record to its order and its recipe (R4). -/
def BilletRecord.bond (r : BilletRecord) : Bond := ⟨r.slot, r.billetId, r.ref⟩

/-- What the laws of the recipe table read of the state: the table, the ring's slots and the train's bonds. -/
structure Ledger where
  recipes : RecipeTable
  slots   : Vector Slot 64
  bonds   : List Bond

/-- The ledger of a state. -/
def State.ledger (s : State) : Ledger := ⟨s.recipes, s.ring.slots, s.tracker.train.map BilletRecord.bond⟩

/-- An entry stands at an index of its key's set, with its values in range (R142, R143). -/
def Entry.FitsAt (e : Entry) (i : Fin 32) : Prop := i ∈ waysOf (setOf e.key) ∧ e.inRange = true

/-- A window that can resolve an order holds a body in range (R145, R164). -/
def Window.Usable (w : Window) : Prop := w.enabled = true ∨ 0 < w.useCount → bodyOk w.body = true

/-- The laws of the recipe table that read the table alone, but those of its wants. -/
structure RecipeTable.Sound (t : RecipeTable) : Prop where
  fits       : ∀ (i : Fin 32) (e : Entry), t.entries[i] = some e → e.FitsAt i
  distinct   : ∀ (i j : Fin 32) (e f : Entry), t.entries[i] = some e → t.entries[j] = some f → e.key = f.key → i = j
  pins       : ∀ set : Fin 8, t.pinnedWays set ≤ 3
  windows    : ∀ w : Fin 2, t.windows[w].Usable
  room       : t.writebacks.length ≤ 8
  writebacks : (t.writebacks.map WritebackRecord.key).Nodup

/-- The want list is that of the PENDING entries (R151). -/
structure RecipeTable.Wanted (t : RecipeTable) : Prop where
  room : t.wants.length ≤ 4
  keys : ∀ w ∈ t.wants, t.entries[w.entry].map Entry.key = some w.key
  each : ∀ i : Fin 32, t.wants.countP (fun w => w.entry == i) = if entryPending t.entries[i] then 1 else 0

/-- The number of orders that refer to an entry or window (R150). -/
def usersOf (slots : Vector Slot 64) (ref : RecipeRef) : Nat := slots.toList.countP (Slot.refersTo ref)

/-- The laws of the ledger but those of the wants: sound entries, counted uses, loaded orders with a recipe, and records
bound one by one to IN_LINE orders. -/
structure Ledger.Bound (l : Ledger) : Prop where
  sound  : l.recipes.Sound
  uses   : ∀ ref, l.recipes.useOf ref = usersOf l.slots ref
  loaded : ∀ (i : Fin 64) (o : BilletOrder), l.slots[i].loadedOrder = some o → l.recipes.loadable o.resolution = true
  apart  : (l.bonds.map Bond.slot).Nodup
  bonds  : ∀ b ∈ l.bonds, ∃ o, l.slots[b.slot] = .inLine o ∧ o.resolution = .recipe b.ref ∧ o.billetId = b.billetId

/-- The laws of the ledger. -/
structure Ledger.Lawful (l : Ledger) : Prop extends l.Bound where
  wanted : l.recipes.Wanted

/-! ### Keys and sets (R142) -/

theorem mem_waysOf {i : Fin 32} {set : Fin 8} : i ∈ waysOf set ↔ i.val / 4 = set.val := by
  simp only [waysOf, wayOf, List.mem_cons, List.not_mem_nil, or_false, Fin.ext_iff]
  omega

theorem nodup_waysOf (set : Fin 8) : (waysOf set).Nodup := by
  revert set; decide

theorem holdsKey_iff {k : Key} {x : Option Entry} : holdsKey k x = true ↔ ∃ e, x = some e ∧ e.key = k := by
  cases x <;> simp [holdsKey]

/-- What a key search finds stands in the key's set and holds the key (R142). -/
theorem RecipeTable.keySearch_found {t : RecipeTable} {k : Key} {i : Fin 32} (h : t.keySearch k = some i) :
    i ∈ waysOf (setOf k) ∧ ∃ e, t.entries[i] = some e ∧ e.key = k :=
  ⟨List.mem_of_find?_eq_some h, holdsKey_iff.1 (List.find?_some h :)⟩

/-- In a sound table a key that the search does not find stands nowhere (R142). -/
theorem RecipeTable.Sound.absent {t : RecipeTable} (h : t.Sound) {k : Key} (none_ : t.keySearch k = none)
    {i : Fin 32} {e : Entry} (entry : t.entries[i] = some e) : e.key ≠ k := fun same => by
  have missed := List.find?_eq_none.1 none_ i (same ▸ (h.fits i e entry).1)
  exact missed (holdsKey_iff.2 ⟨e, entry, same⟩)

/-- The way an allocation takes stands in the key's set; it is INVALID or a fit victim (R148, R149). -/
theorem RecipeTable.wayFor_some {t : RecipeTable} {k : Key} {i : Fin 32} (h : t.wayFor k = some i) :
    i ∈ waysOf (setOf k) ∧ (t.entries[i] = none ∨ victimFit t.writebacks t.entries[i] = true) := by
  unfold RecipeTable.wayFor at h
  split at h
  · rename_i j free
    cases h
    exact ⟨List.mem_of_find?_eq_some free, .inl (Option.isNone_iff_eq_none.1 (List.find?_some free :))⟩
  · have member := List.mem_of_find?_eq_some h
    refine ⟨?_, .inr (List.find?_some h :)⟩
    rw [mem_waysOf]
    simp only [searchOrder, List.mem_cons, List.not_mem_nil, or_false] at member
    rcases member with rfl | rfl | rfl | rfl <;> simp only [wayOf] <;> omega

/-- A fit victim is unpinned and out of use; a LEARNED one's record has room (R149). -/
theorem victimFit_iff {list : List WritebackRecord} {e : Entry} : victimFit list (some e) = true ↔
    e.pinned = false ∧ e.useCount = 0 ∧ e.state ≠ .pending ∧ (e.state = .learned → canTake list e.key = true) := by
  unfold victimFit
  cases state : e.state <;> simp [state, and_assoc]

/-! ### The laws of the table are laws of the ledger -/

theorem keysInSets_iff (s : State) : KeysInSets s ↔
    (∀ (i : Fin 32) (e : Entry), s.recipes.entries[i] = some e → i ∈ waysOf (setOf e.key)) ∧
    ∀ (i j : Fin 32) (e f : Entry), s.recipes.entries[i] = some e → s.recipes.entries[j] = some f →
      e.key = f.key → i = j := by
  have reads : KeysInSets s ↔ ∀ (i : Fin 32) (e : Entry), s.recipes.entries[i] = some e →
      s.recipes.keySearch e.key = some i := by
    simp only [KeysInSets, Option.all_eq_true, beq_iff_eq]
  rw [reads]
  constructor
  · intro h
    refine ⟨fun i e entry => (RecipeTable.keySearch_found (h i e entry)).1, fun i j e f ei fj same => ?_⟩
    exact Option.some.inj ((h i e ei).symm.trans (same ▸ h j f fj))
  · rintro ⟨home, distinct⟩ i e entry
    cases found : s.recipes.keySearch e.key with
    | none =>
      have missed := List.find?_eq_none.1 found i (home i e entry)
      exact absurd (holdsKey_iff.2 ⟨e, entry, rfl⟩) missed
    | some j =>
      obtain ⟨-, f, fj, same⟩ := RecipeTable.keySearch_found found
      rw [distinct i j e f entry fj same.symm]

theorem recipesInRange_iff (s : State) : RecipesInRange s ↔
    (∀ (i : Fin 32) (e : Entry), s.recipes.entries[i] = some e → e.inRange = true) ∧
    ∀ w : Fin 2, s.recipes.windows[w].Usable := by
  simp only [RecipesInRange, Option.all_eq_true]
  rfl

theorem Ledger.Lawful.tableLaws {s : State} (h : s.ledger.Lawful) : TableLaws s := by
  refine ⟨⟨fun i => h.uses _, fun w => h.uses _⟩,
    (keysInSets_iff s).2 ⟨fun i e entry => (h.sound.fits i e entry).1, h.sound.distinct⟩, h.sound.pins,
    ⟨h.wanted.room, h.wanted.keys, h.wanted.each⟩, ⟨h.sound.room, h.sound.writebacks⟩,
    (recipesInRange_iff s).2 ⟨fun i e entry => (h.sound.fits i e entry).2, h.sound.windows⟩, fun i => ?_, fun r hr => ?_⟩
  · simp only [Option.all_eq_true]
    exact h.loaded i
  · obtain ⟨o, slot, resolution, billet⟩ := h.bonds _ (List.mem_map_of_mem hr)
    simp only [BilletRecord.bond] at slot resolution billet
    have slot : s.ring.slots[r.slot] = .inLine o := slot
    simp [slot, Slot.loadedOrder, resolution, billet]

/-- The laws of the column bind the records one by one to IN_LINE orders (R121). -/
theorem ledger_lawful {s : State} (column : ColumnLaws s) (table : TableLaws s) : s.ledger.Lawful := by
  obtain ⟨-, -, -, -, ⟨records, -⟩, -⟩ := column
  obtain ⟨⟨entryUses, windowUses⟩, keys, pins, ⟨few, wantKeys, each⟩, ⟨room, writebacks⟩, ranges, loaded,
    resolved⟩ := table
  obtain ⟨home, distinct⟩ := (keysInSets_iff s).1 keys
  obtain ⟨inRange, windows⟩ := (recipesInRange_iff s).1 ranges
  have inLine : ∀ r ∈ s.tracker.train, s.ring.slots[r.slot].isInLine = true := fun r hr => by
    have some_ : 0 < s.tracker.train.countP (fun x => x.slot == r.slot) :=
      List.countP_pos_iff.2 ⟨r, hr, beq_self_eq_true _⟩
    by_contra other
    have count := records r.slot
    rw [if_neg other] at count
    omega
  refine ⟨⟨⟨fun i e entry => ⟨home i e entry, inRange i e entry⟩, distinct, pins, windows, room, writebacks⟩,
    fun ref => ?_, fun i o slot => ?_, ?_, fun b hb => ?_⟩, ⟨few, wantKeys, each⟩⟩
  · cases ref with
    | entry i => exact entryUses i
    | window w => exact windowUses w
  · have all := loaded i
    simp only [Option.all_eq_true] at all
    exact all o slot
  · rw [List.nodup_iff_count_le_one]
    intro i
    have count := records i
    simp only [State.ledger, List.map_map, List.count, List.countP_map]
    refine Eq.trans_le (b := s.tracker.train.countP (fun x => x.slot == i)) rfl ?_
    rw [count]
    split <;> omega
  · obtain ⟨r, hr, rfl⟩ := List.mem_map.1 hb
    have own := resolved r hr
    have there := inLine r hr
    show ∃ o, s.ring.slots[r.slot] = .inLine o ∧ o.resolution = .recipe r.ref ∧ o.billetId = r.billetId
    revert own there
    cases s.ring.slots[r.slot] with
    | inLine o => simp +contextual [Slot.loadedOrder]
    | free | queued _ | loading _ | done _ _ => simp [Slot.isInLine]

end Sys2Proof.Machine
end

section
/-! SUPPORT. The changes of the recipe table that keep its laws (O59). -/

namespace Sys2Proof.Machine

set_option Elab.async false

/-! ### One entry set -/

/-- The table with one entry replaced. -/
def RecipeTable.put (t : RecipeTable) (i : Fin 32) (x : Option Entry) : RecipeTable :=
  { t with entries := t.entries.set i x }

theorem State.setEntry_recipes (s : State) (i : Fin 32) (x : Option Entry) :
    (s.setEntry i x).recipes = s.recipes.put i x := rfl

theorem RecipeTable.put_entries (t : RecipeTable) (i j : Fin 32) (x : Option Entry) :
    (t.put i x).entries[j] = if i = j then x else t.entries[j] := by
  simp only [RecipeTable.put, Fin.getElem_fin, Vector.getElem_set, Fin.ext_iff]

theorem RecipeTable.put_self (t : RecipeTable) (i : Fin 32) (x : Option Entry) : (t.put i x).entries[i] = x := by
  rw [t.put_entries, if_pos rfl]

theorem RecipeTable.put_other (t : RecipeTable) {i j : Fin 32} (ne : i ≠ j) (x : Option Entry) :
    (t.put i x).entries[j] = t.entries[j] := by
  rw [t.put_entries, if_neg ne]

theorem RecipeTable.put_useOf (t : RecipeTable) (i : Fin 32) (x : Option Entry) (ref : RecipeRef) :
    (t.put i x).useOf ref = if ref = .entry i then (x.map Entry.useCount).getD 0 else t.useOf ref := by
  cases ref with
  | window w => rfl
  | entry j =>
    rw [RecipeTable.useOf_entry, RecipeTable.useOf_entry, t.put_entries]
    by_cases same : i = j
    · rw [if_pos same, if_pos (congrArg _ same.symm)]
    · rw [if_neg same, if_neg fun eq => same (RecipeRef.entry.inj eq).symm]

/-- An entry that is VALID or LEARNED can be loaded (R129). -/
theorem RecipeTable.loadable_entry_iff (t : RecipeTable) (i : Fin 32) :
    t.loadable (.recipe (.entry i)) = true ↔ ∃ e, t.entries[i] = some e ∧ e.state ≠ .pending := by
  unfold RecipeTable.loadable
  dsimp only
  cases t.entries[i] with
  | none => exact ⟨nofun, nofun⟩
  | some e =>
    exact bne_iff_ne.trans
      ⟨fun settled => ⟨e, rfl, settled⟩, fun ⟨_, same, settled⟩ => Option.some.inj same ▸ settled⟩

theorem RecipeTable.put_loadable_other (t : RecipeTable) {i : Fin 32} (x : Option Entry) {r : Resolution}
    (ne : r ≠ .recipe (.entry i)) : (t.put i x).loadable r = t.loadable r := by
  match r with
  | .noRecipe => rfl
  | .recipe (.window w) => rfl
  | .recipe (.entry j) =>
    unfold RecipeTable.loadable
    dsimp only
    rw [t.put_other fun same => ne (congrArg (fun k => Resolution.recipe (.entry k)) same.symm)]

/-- One entry replaced adds one pinned way at most to its set, and none to another (R162). -/
theorem RecipeTable.put_pinnedWays (t : RecipeTable) (i : Fin 32) (x : Option Entry) (set : Fin 8) :
    (t.put i x).pinnedWays set ≤ t.pinnedWays set + if i ∈ waysOf set then 1 else 0 := by
  have step : ∀ ways : List (Fin 32), ways.countP (fun j => ((t.put i x).entries[j].map Entry.pinned).getD false) ≤
      ways.countP (fun j => (t.entries[j].map Entry.pinned).getD false) + ways.count i := by
    intro ways
    induction ways with
    | nil => exact Nat.le_refl _
    | cons j rest ih =>
      rw [List.countP_cons, List.countP_cons, List.count_cons]
      by_cases same : i = j
      · subst same
        simp only [beq_self_eq_true, if_true]
        split <;> omega
      · simp only [t.put_other same, beq_eq_false_iff_ne.2 (Ne.symm same), Bool.false_eq_true, if_false]
        omega
  refine (step (waysOf set)).trans (Nat.add_le_add_left ?_ _)
  split
  · exact List.nodup_iff_count_le_one.1 (nodup_waysOf set) i
  · rename_i out
    exact Nat.le_of_eq (List.count_eq_zero.2 out)

/-- An entry replaced by one that is no more pinned leaves no set with more pinned ways (R162). -/
theorem RecipeTable.put_pinnedWays_le (t : RecipeTable) {i : Fin 32} {x : Option Entry}
    (pins : (x.map Entry.pinned).getD false = true → (t.entries[i].map Entry.pinned).getD false = true) (set : Fin 8) :
    (t.put i x).pinnedWays set ≤ t.pinnedWays set := by
  refine List.countP_mono_left fun j _ pinned => ?_
  rw [t.put_entries] at pinned
  split at pinned
  · rename_i same; subst same; exact pins pinned
  · exact pinned

section
variable {t : RecipeTable} {i : Fin 32} {x : Option Entry}

/-- Soundness reads the entries, the windows and the write-back list. -/
theorem RecipeTable.Sound.of_same {u : RecipeTable} (h : t.Sound) (entries : u.entries = t.entries)
    (windows : u.windows = t.windows) (writebacks : u.writebacks = t.writebacks) : u.Sound := by
  obtain ⟨e, w, n, wants, b⟩ := u
  cases entries; cases windows; cases writebacks
  exact ⟨h.fits, h.distinct, h.pins, h.windows, h.room, h.writebacks⟩

/-- An entry may be replaced by one that fits its index, whose key stands nowhere else, while pins stay limited. -/
theorem RecipeTable.Sound.put (h : t.Sound) (fits : ∀ e, x = some e → e.FitsAt i)
    (unique : ∀ e, x = some e → ∀ (j : Fin 32) (f : Entry), i ≠ j → t.entries[j] = some f → f.key ≠ e.key)
    (pins : ∀ set, (t.put i x).pinnedWays set ≤ 3) : (t.put i x).Sound where
  fits j e entry := by
    rw [t.put_entries] at entry
    split at entry
    · rename_i same; subst same; exact fits e entry
    · exact h.fits j e entry
  distinct j k e f ej fk same := by
    rw [t.put_entries] at ej fk
    split at ej <;> split at fk
    · exact Eq.trans (Eq.symm ‹_›) ‹_›
    · exact absurd same.symm (unique e ej k f ‹_› fk)
    · exact absurd same (unique f fk j e ‹_› ej)
    · exact h.distinct j k e f ej fk same
  pins := pins
  windows := h.windows
  room := h.room
  writebacks := h.writebacks

/-- An entry may go (R149, R160, R161). -/
theorem RecipeTable.Sound.remove (h : t.Sound) (i : Fin 32) : (t.put i none).Sound :=
  h.put nofun nofun fun set => (t.put_pinnedWays_le (x := none) nofun set).trans (h.pins set)

/-- An entry may be rewritten under its key, with its pinned flag as it was or cleared. -/
theorem RecipeTable.Sound.rewrite (h : t.Sound) {e y : Entry} (entry : t.entries[i] = some e) (key : y.key = e.key)
    (range : y.inRange = true) (pins : ∀ set, (t.put i (some y)).pinnedWays set ≤ 3) : (t.put i (some y)).Sound := by
  refine h.put (fun z same => ?_) (fun z same j f ne other keys => ?_) pins <;> cases same
  · refine ⟨?_, range⟩
    rw [key]
    exact (h.fits i e entry).1
  · exact ne (h.distinct i j e f entry other (key.symm.trans keys.symm))

theorem RecipeTable.Sound.rewrite_pinned (h : t.Sound) {e y : Entry} (entry : t.entries[i] = some e)
    (key : y.key = e.key) (range : y.inRange = true) (pinned : y.pinned = true → e.pinned = true) :
    (t.put i (some y)).Sound :=
  h.rewrite entry key range fun set => (t.put_pinnedWays_le (by rw [entry]; exact pinned) set).trans (h.pins set)

/-- A key that stands nowhere may take a way of its set, unpinned (R148, R158). -/
theorem RecipeTable.Sound.insert (h : t.Sound) {y : Entry} (way : i ∈ waysOf (setOf y.key))
    (absent : ∀ (j : Fin 32) (f : Entry), t.entries[j] = some f → f.key ≠ y.key) (range : y.inRange = true)
    (pinned : y.pinned = false) : (t.put i (some y)).Sound := by
  refine h.put (fun z same => ?_) (fun z same j f _ other => ?_) fun set => ?_
  · cases same; exact ⟨way, range⟩
  · cases same; exact absent j f other
  · refine (t.put_pinnedWays_le (fun pins => ?_) set).trans (h.pins set)
    exact absurd (pinned.symm.trans pins) Bool.false_ne_true

/-! ### Write-back records (R173) -/

/-- A hand-over that the list has room for keeps it within 8 records, no key twice (R172, R173). -/
theorem RecipeTable.Sound.handInto (h : t.Sound) {w : WritebackRecord} (room : canTake t.writebacks w.key = true) :
    RecipeTable.Sound { t with writebacks := handInto t.writebacks w } := by
  refine ⟨h.fits, h.distinct, h.pins, h.windows, ?_, ?_⟩ <;> unfold Machine.handInto <;> dsimp only <;> split
  · rw [List.length_map]; exact h.room
  · rename_i new
    rw [canTake, Bool.or_eq_true, decide_eq_true_eq] at room
    rw [List.length_append]
    exact room.resolve_right new
  · have keys : (t.writebacks.map fun r => if r.key = w.key then w else r).map WritebackRecord.key =
        t.writebacks.map WritebackRecord.key := by
      rw [List.map_map]
      refine List.map_congr_left fun r _ => ?_
      rw [Function.comp_apply]
      split
      · exact Eq.symm ‹_›
      · rfl
    rw [keys]
    exact h.writebacks
  · rename_i new
    rw [List.map_append, List.nodup_append]
    refine ⟨h.writebacks, List.nodup_singleton _, fun a old b one => ?_⟩
    obtain ⟨r, mem, rfl⟩ := List.mem_map.1 old
    rw [List.mem_singleton.1 one]
    exact fun same => new (List.any_eq_true.2 ⟨r, mem, beq_iff_eq.2 same⟩)

/-! ### Use counts (R150) -/

theorem RecipeTable.changeUse_entry (t : RecipeTable) (i : Fin 32) (f : Nat → Nat) :
    t.changeUse (.recipe (.entry i)) f = t.put i (t.entries[i].map fun e => { e with useCount := f e.useCount }) := rfl

/-- A use count changed leaves the table sound, where a window comes into use only while enabled (R150). -/
theorem RecipeTable.Sound.changeUse (h : t.Sound) (r : Resolution) (f : Nat → Nat)
    (used : ∀ w, r = .recipe (.window w) → 0 < f t.windows[w].useCount →
      t.windows[w].enabled = true ∨ 0 < t.windows[w].useCount) : (t.changeUse r f).Sound := by
  match r with
  | .noRecipe => exact h
  | .recipe (.entry i) =>
    rw [RecipeTable.changeUse_entry]
    match entry : t.entries[i] with
    | none => exact h.remove i
    | some e => exact h.rewrite_pinned entry rfl (h.fits i e entry).2 id
  | .recipe (.window w) =>
    refine ⟨h.fits, h.distinct, h.pins, fun v => ?_, h.room, h.writebacks⟩
    simp only [RecipeTable.changeUse, Fin.getElem_fin, Vector.getElem_set]
    split
    · exact fun usable => h.windows w (usable.elim .inl (used w rfl))
    · exact h.windows v

theorem RecipeTable.changeUse_loadable (t : RecipeTable) (r q : Resolution) (f : Nat → Nat) :
    (t.changeUse r f).loadable q = t.loadable q := by
  match r with
  | .noRecipe | .recipe (.window _) => match q with
    | .noRecipe | .recipe (.window _) | .recipe (.entry _) => rfl
  | .recipe (.entry i) =>
    rw [RecipeTable.changeUse_entry]
    by_cases same : q = .recipe (.entry i)
    · subst same
      unfold RecipeTable.loadable
      dsimp only
      rw [t.put_self]
      cases t.entries[i] <;> rfl
    · exact t.put_loadable_other _ same

theorem RecipeTable.changeUse_remove (t : RecipeTable) (i : Fin 32) (f : Nat → Nat) :
    (t.changeUse (.recipe (.entry i)) f).put i none = t.put i none := by
  simp only [RecipeTable.changeUse_entry, RecipeTable.put, Vector.set_set]

/-- An order more resolved to a window, or to an entry that stands, raises its use count alone (R150). -/
theorem RecipeTable.raise_useOf (t : RecipeTable) {ref : RecipeRef}
    (stands : ∀ i, ref = .entry i → t.entries[i].isSome = true) (other : RecipeRef) :
    (t.changeUse (.recipe ref) (· + 1)).useOf other = t.useOf other + if ref = other then 1 else 0 := by
  by_cases same : ref = other
  · subst same
    rw [if_pos rfl]
    match ref with
    | .window w => simp [RecipeTable.changeUse, RecipeTable.useOf]
    | .entry i =>
      rw [RecipeTable.changeUse_entry, RecipeTable.put_useOf, if_pos rfl, RecipeTable.useOf_entry]
      obtain ⟨e, entry⟩ := Option.isSome_iff_exists.1 (stands i rfl)
      rw [entry]
      rfl
  · rw [if_neg same]
    exact t.changeUse_useOf_other _ same

/-! ### Wants (R151) -/

/-- No want stands for an entry that is not PENDING (R151). -/
theorem RecipeTable.Wanted.entry_ne (h : t.Wanted) (settled : entryPending t.entries[i] = false) :
    ∀ w ∈ t.wants, w.entry ≠ i := by
  have count := h.each i
  rw [settled, if_neg Bool.false_ne_true, List.countP_eq_zero] at count
  exact fun w mem same => count w mem (beq_iff_eq.2 same)

/-- An entry replaced by one as PENDING as it was, under the same key if it is. -/
theorem RecipeTable.Wanted.put (h : t.Wanted) (pending : entryPending x = entryPending t.entries[i])
    (key : entryPending x = true → x.map Entry.key = t.entries[i].map Entry.key) : (t.put i x).Wanted where
  room := h.room
  keys w mem := by
    rw [t.put_entries]
    split
    · rename_i same
      cases state : entryPending x with
      | true => rw [key state, same]; exact h.keys w mem
      | false => exact absurd same.symm (h.entry_ne (pending.symm.trans state) w mem)
    · exact h.keys w mem
  each j := by
    rw [t.put_entries]
    split
    · rename_i same; subst same; rw [pending]; exact h.each i
    · exact h.each j

/-- An entry that is no longer PENDING loses its want (R153, R157). -/
theorem RecipeTable.Wanted.settle (h : t.Wanted) (settled : entryPending x = false) :
    RecipeTable.Wanted { t.put i x with wants := t.wants.filter (fun w => w.entry != i) } where
  room := (List.length_filter_le _ _).trans h.room
  keys w mem := by
    obtain ⟨old, other⟩ := List.mem_filter.1 mem
    rw [t.put_other (Ne.symm (bne_iff_ne.1 other))]
    exact h.keys w old
  each j := by
    show List.countP _ (t.wants.filter _) = if entryPending (t.put i x).entries[j] = true then 1 else 0
    rw [t.put_entries, List.countP_filter]
    split
    · rename_i same
      subst same
      rw [settled, if_neg Bool.false_ne_true, List.countP_eq_zero]
      simp
    · rename_i ne
      rw [← h.each j]
      refine List.countP_congr fun w _ => ?_
      simp only [Bool.and_eq_true, beq_iff_eq, bne_iff_ne]
      exact ⟨And.left, fun same => ⟨same, fun eq => ne (eq.symm.trans same)⟩⟩

/-- An entry that becomes PENDING is given its want (R148). -/
theorem RecipeTable.Wanted.want (h : t.Wanted) {e : Entry} {w : Want} (pending : e.state = .pending)
    (before : entryPending t.entries[i] = false) (few : t.wants.length < 4) (key : w.key = e.key) (own : w.entry = i) :
    RecipeTable.Wanted { t.put i (some e) with wants := t.wants ++ [w] } where
  room := by
    show (t.wants ++ [w]).length ≤ 4
    rw [List.length_append]
    exact few
  keys v mem := by
    show (t.put i (some e)).entries[v.entry].map Entry.key = some v.key
    rcases List.mem_append.1 mem with old | new
    · rw [t.put_other (Ne.symm (h.entry_ne before v old))]
      exact h.keys v old
    · have here : v.entry = i := by rw [List.mem_singleton.1 new, own]
      rw [show (t.put i (some e)).entries[v.entry] = some e by rw [t.put_entries, if_pos here.symm],
        List.mem_singleton.1 new, key]
      rfl
  each j := by
    show (t.wants ++ [w]).countP _ = if entryPending (t.put i (some e)).entries[j] = true then 1 else 0
    rw [t.put_entries, List.countP_append, List.countP_singleton, own, h.each j]
    by_cases same : i = j
    · subst same
      have now_ : entryPending (some e) = true := beq_iff_eq.2 pending
      simp only [before, now_, beq_self_eq_true, if_true, Bool.false_eq_true, if_false]
    · simp only [beq_eq_false_iff_ne.2 same, same, Bool.false_eq_true, if_false, Nat.add_zero]

theorem RecipeTable.Wanted.changeUse (h : t.Wanted) (r : Resolution) (f : Nat → Nat) : (t.changeUse r f).Wanted := by
  match r with
  | .noRecipe => exact h
  | .recipe (.entry i) =>
    rw [RecipeTable.changeUse_entry]
    refine h.put ?_ fun _ => ?_ <;> cases t.entries[i] <;> rfl
  | .recipe (.window w) => exact ⟨h.room, h.keys, h.each⟩

/-- Wants read the entries and the want list alone. -/
theorem RecipeTable.Wanted.of_same {u : RecipeTable} (h : t.Wanted) (entries : u.entries = t.entries)
    (wants : u.wants = t.wants) : u.Wanted := by
  refine ⟨?_, ?_, ?_⟩ <;> rw [wants] <;> try rw [entries]
  · exact h.room
  · exact h.keys
  · exact h.each

end

end Sys2Proof.Machine
end

section
/-! SUPPORT. The changes of a ledger that keep its laws (O59). -/

namespace Sys2Proof.Machine

set_option Elab.async false

/-! ### Orders that refer to an entry or window (R150) -/

theorem usersOf_set (slots : Vector Slot 64) (i : Fin 64) (x : Slot) (ref : RecipeRef) :
    usersOf (slots.set i x) ref =
      (usersOf slots ref - if slots[i].refersTo ref = true then 1 else 0) + if x.refersTo ref = true then 1 else 0 := by
  unfold usersOf
  rw [Vector.toList_set, List.countP_set (by simp)]
  simp

theorem usersOf_pos {slots : Vector Slot 64} {i : Fin 64} {ref : RecipeRef} (h : slots[i].refersTo ref = true) :
    0 < usersOf slots ref :=
  List.countP_pos_iff.2 ⟨slots[i], Vector.mem_toList_iff.2 (Vector.getElem_mem i.isLt), h⟩

theorem Slot.refersTo_of_loadedOrder {x : Slot} {o : BilletOrder} {ref : RecipeRef} (loaded : x.loadedOrder = some o)
    (resolved : o.resolution = .recipe ref) : x.refersTo ref = true := by
  cases x with
  | loading p | inLine p =>
    rw [Option.some.inj loaded]
    exact beq_iff_eq.2 resolved
  | free | queued _ | done _ _ => cases loaded

section
variable {l : Ledger}

/-- No record is bound to a slot that is not IN_LINE (R121). -/
theorem Ledger.Bound.bond_ne (h : l.Bound) {i : Fin 64} (other : l.slots[i].isInLine = false) :
    ∀ b ∈ l.bonds, b.slot ≠ i := fun b mem same => by
  obtain ⟨o, slot, -⟩ := h.bonds b mem
  subst same
  rw [slot] at other
  cases other

/-! ### The table changed under the orders -/

/-- A table with the same use counts may take the old one's place, if what is loaded stays loadable. -/
theorem Ledger.Bound.retable (h : l.Bound) {t : RecipeTable} (sound : t.Sound)
    (uses : ∀ ref, t.useOf ref = l.recipes.useOf ref)
    (load : ∀ r, l.recipes.loadable r = true → (∀ ref, r = .recipe ref → 0 < l.recipes.useOf ref) →
      t.loadable r = true) : Ledger.Bound { l with recipes := t } where
  sound := sound
  uses ref := (uses ref).trans (h.uses ref)
  loaded i o loaded := load _ (h.loaded i o loaded) fun ref resolved => by
    rw [h.uses]
    exact usersOf_pos (Slot.refersTo_of_loadedOrder loaded resolved)
  apart := h.apart
  bonds := h.bonds

/-- An entry may be replaced by one with its use count, which stays loadable where it is in use. -/
theorem Ledger.Bound.put (h : l.Bound) {i : Fin 32} {x : Option Entry} (sound : (l.recipes.put i x).Sound)
    (use : (x.map Entry.useCount).getD 0 = l.recipes.useOf (.entry i))
    (load : 0 < l.recipes.useOf (.entry i) → l.recipes.loadable (.recipe (.entry i)) = true →
      (l.recipes.put i x).loadable (.recipe (.entry i)) = true) :
    Ledger.Bound { l with recipes := l.recipes.put i x } := by
  refine h.retable sound (fun ref => ?_) fun r loadable used => ?_
  · rw [RecipeTable.put_useOf]
    split
    · rename_i same; subst same; exact use
    · rfl
  · by_cases same : r = .recipe (.entry i)
    · subst same; exact load (used _ rfl) loadable
    · rwa [RecipeTable.put_loadable_other _ _ same]

/-- An entry out of use may go (R149, R160, R161). -/
theorem Ledger.Bound.remove (h : l.Bound) {i : Fin 32} (idle : l.recipes.useOf (.entry i) = 0) :
    Ledger.Bound { l with recipes := l.recipes.put i none } :=
  h.put (h.sound.remove i) idle.symm fun used => absurd used (by omega)

/-- A record may be handed over where the list has room for it (R173). -/
theorem Ledger.Bound.handInto (h : l.Bound) {w : WritebackRecord} (room : canTake l.recipes.writebacks w.key = true) :
    Ledger.Bound { l with recipes := { l.recipes with writebacks := handInto l.recipes.writebacks w } } :=
  h.retable (h.sound.handInto room) (fun ref => by cases ref <;> rfl) fun r loadable _ => by
    match r with
    | .noRecipe => cases loadable
    | .recipe (.entry _) => exact loadable
    | .recipe (.window _) => rfl

/-- What no law of the ledger but that of the wants reads: the wants and the replacement counter. -/
theorem Ledger.Bound.of_same (h : l.Bound) {t : RecipeTable} (entries : t.entries = l.recipes.entries)
    (windows : t.windows = l.recipes.windows) (writebacks : t.writebacks = l.recipes.writebacks) :
    Ledger.Bound { l with recipes := t } := by
  have sound := h.sound.of_same entries windows writebacks
  obtain ⟨e, w, n, wants, b⟩ := t
  cases entries; cases windows; cases writebacks
  refine h.retable sound (fun ref => by cases ref <;> rfl) fun r loadable _ => ?_
  match r with
  | .noRecipe => cases loadable
  | .recipe (.entry _) => exact loadable
  | .recipe (.window _) => rfl

/-! ### Slots changed -/

/-- An order leaves its slot, DONE or FREE, with its use (R126, R128, R132); the bond of its record, if it has one, goes
too. -/
theorem Ledger.Bound.release (h : l.Bound) {i : Fin 64} {x : Slot} {r : Resolution} {bonds : List Bond}
    (held : ∀ ref, l.slots[i].refersTo ref = decide (r = .recipe ref)) (gone : ∀ ref, x.refersTo ref = false)
    (idle : x.loadedOrder = none) (fewer : bonds.Sublist l.bonds) (other : ∀ b ∈ bonds, b.slot ≠ i) :
    Ledger.Bound ⟨l.recipes.changeUse r (· - 1), l.slots.set i x, bonds⟩ where
  sound := h.sound.changeUse r (· - 1) fun w _ used => .inr (Nat.lt_of_lt_of_le used (Nat.sub_le _ _))
  uses ref := by
    rw [(l.recipes.changeUse_lowered r).uses, usersOf_set, held, gone, h.uses]
    simp
  loaded j o loaded := by
    have loaded : (l.slots.set i x)[j].loadedOrder = some o := loaded
    rw [RecipeTable.changeUse_loadable]
    rw [slots_set] at loaded
    split at loaded
    · rw [idle] at loaded; cases loaded
    · exact h.loaded j o loaded
  apart := h.apart.sublist (fewer.map _)
  bonds b mem := by
    show ∃ o, (l.slots.set i x)[b.slot] = _ ∧ _
    rw [slots_set, if_neg (other b mem).symm]
    exact h.bonds b (fewer.subset mem)

/-- An order goes on to a stage past QUEUED with a recipe that can be loaded (R129, R131). -/
theorem Ledger.Bound.advance (h : l.Bound) {i : Fin 64} {x : Slot} {o : BilletOrder}
    (kept : ∀ ref, x.refersTo ref = l.slots[i].refersTo ref) (order : x.loadedOrder = some o)
    (loadable : l.recipes.loadable o.resolution = true) (other : l.slots[i].isInLine = false) :
    Ledger.Bound { l with slots := l.slots.set i x } where
  sound := h.sound
  uses ref := by
    have stays := usersOf_pos (slots := l.slots) (i := i) (ref := ref)
    rw [usersOf_set, kept, h.uses]
    split
    · rename_i refers; have := stays refers; omega
    · rfl
  loaded j p loaded := by
    have loaded : (l.slots.set i x)[j].loadedOrder = some p := loaded
    rw [slots_set] at loaded
    split at loaded
    · cases order.symm.trans loaded; exact loadable
    · exact h.loaded j p loaded
  apart := h.apart
  bonds b mem := by
    show ∃ o, (l.slots.set i x)[b.slot] = _ ∧ _
    rw [slots_set, if_neg (h.bond_ne other b mem).symm]
    exact h.bonds b mem

/-- A record joins the train, bound to its IN_LINE order (R4). -/
theorem Ledger.Bound.bind (h : l.Bound) {b : Bond} {o : BilletOrder} (slot : l.slots[b.slot] = .inLine o)
    (resolved : o.resolution = .recipe b.ref) (billet : o.billetId = b.billetId)
    (fresh : ∀ c ∈ l.bonds, c.slot ≠ b.slot) :
    Ledger.Bound { l with bonds := l.bonds ++ [b] } where
  sound := h.sound
  uses := h.uses
  loaded := h.loaded
  apart := by
    show ((l.bonds ++ [b]).map Bond.slot).Nodup
    rw [List.map_append, List.nodup_append]
    refine ⟨h.apart, List.nodup_singleton _, fun i old j new => ?_⟩
    obtain ⟨c, mem, rfl⟩ := List.mem_map.1 old
    rw [List.mem_singleton.1 new]
    exact fresh c mem
  bonds c mem := by
    rcases List.mem_append.1 mem with old | new
    · exact h.bonds c old
    · rw [List.mem_singleton.1 new]
      exact ⟨o, slot, resolved, billet⟩

/-- An order is posted in a FREE slot, with its use (R124, R150). -/
theorem Ledger.Bound.post (h : l.Bound) {i : Fin 64} {o : BilletOrder} {t : RecipeTable} (free : l.slots[i] = .free)
    (sound : t.Sound)
    (uses : ∀ ref, t.useOf ref = l.recipes.useOf ref + if o.resolution = .recipe ref then 1 else 0)
    (load : ∀ r, l.recipes.loadable r = true → (∀ ref, r = .recipe ref → 0 < l.recipes.useOf ref) →
      t.loadable r = true) :
    Ledger.Bound ⟨t, l.slots.set i (.queued o), l.bonds⟩ where
  sound := sound
  uses ref := by
    rw [uses, usersOf_set, free, h.uses]
    simp [Slot.refersTo]
  loaded j p loaded := by
    have loaded : (l.slots.set i (.queued o))[j].loadedOrder = some p := loaded
    rw [slots_set] at loaded
    split at loaded
    · cases loaded
    · refine load _ (h.loaded j p loaded) fun ref resolved => ?_
      rw [h.uses]
      exact usersOf_pos (Slot.refersTo_of_loadedOrder loaded resolved)
  apart := h.apart
  bonds b mem := by
    show ∃ o', (l.slots.set i (.queued o))[b.slot] = _ ∧ _
    rw [slots_set, if_neg (h.bond_ne (by rw [free]; rfl) b mem).symm]
    exact h.bonds b mem

/-! ### A PENDING entry dropped (R130, R153, R166) -/

/-- Only QUEUED orders refer to a PENDING entry, so none does after the mark (R130). -/
theorem Slot.markNoRecipe_refersTo (i : Fin 32) {x : Slot}
    (queued : ∀ o, x.loadedOrder = some o → o.resolution ≠ .recipe (.entry i)) (ref : RecipeRef) :
    (x.markNoRecipe i).refersTo ref = (x.refersTo ref && decide (ref ≠ .entry i)) := by
  cases x with
  | queued o =>
    unfold Slot.markNoRecipe
    dsimp only
    split
    · rename_i marked
      by_cases same : ref = .entry i
      · simp [Slot.refersTo, same]
      · have apart : (o.resolution == .recipe ref) = false :=
          beq_eq_false_iff_ne.2 (marked ▸ fun eq => same (Resolution.recipe.inj eq).symm)
        simp only [Slot.refersTo, apart, Bool.false_and]
        rfl
    · rename_i kept
      by_cases same : ref = .entry i <;> simp [Slot.refersTo, same, kept]
  | loading o | inLine o =>
    have kept := queued o rfl
    by_cases same : ref = .entry i <;> simp [Slot.markNoRecipe, Slot.refersTo, same, kept]
  | free | done _ _ => rfl

theorem Slot.markNoRecipe_loadedOrder (i : Fin 32) (x : Slot) : (x.markNoRecipe i).loadedOrder = x.loadedOrder := by
  cases x with
  | queued o => unfold Slot.markNoRecipe; dsimp only; split <;> rfl
  | free | loading _ | inLine _ | done _ _ => rfl

theorem Ledger.Bound.dropPending (h : l.Bound) {i : Fin 32} (pending : entryPending l.recipes.entries[i] = true) :
    Ledger.Bound ⟨l.recipes.put i none, l.slots.mapIdx (fun _ x => x.markNoRecipe i), l.bonds⟩ := by
  have queued : ∀ (j : Fin 64) (o : BilletOrder), l.slots[j].loadedOrder = some o →
      o.resolution ≠ .recipe (.entry i) := by
    intro j o loaded resolved
    have loadable := h.loaded j o loaded
    rw [resolved, RecipeTable.loadable_entry_iff] at loadable
    obtain ⟨e, entry, settled⟩ := loadable
    rw [entry] at pending
    exact settled (beq_iff_eq.1 pending)
  have slots : ∀ j : Fin 64, (l.slots.mapIdx fun _ x => x.markNoRecipe i)[j] = l.slots[j].markNoRecipe i := by simp
  refine ⟨h.sound.remove i, fun ref => ?_, fun j o loaded => ?_, h.apart, fun b mem => ?_⟩
  · have marked : usersOf (l.slots.mapIdx fun _ x => x.markNoRecipe i) ref =
        l.slots.toList.countP (fun x => x.refersTo ref && decide (ref ≠ .entry i)) := by
      have plain : (l.slots.mapIdx fun _ x => x.markNoRecipe i) = l.slots.map (Slot.markNoRecipe i) :=
        Vector.ext fun j inside => by simp
      unfold usersOf
      rw [plain, Vector.toList_map, List.countP_map]
      refine List.countP_congr fun x mem => ?_
      obtain ⟨j, inside, rfl⟩ := Vector.getElem_of_mem (Vector.mem_toList_iff.1 mem)
      exact iff_of_eq (congrArg (· = true) (Slot.markNoRecipe_refersTo i (queued ⟨j, inside⟩) ref))
    rw [marked, RecipeTable.put_useOf]
    split
    · rename_i same
      simp [same]
    · rename_i other
      rw [h.uses]
      simp [usersOf, other]
  · have loaded : (l.slots.mapIdx fun _ (x : Slot) => x.markNoRecipe i)[j].loadedOrder = some o := loaded
    rw [slots, Slot.markNoRecipe_loadedOrder] at loaded
    rw [RecipeTable.put_loadable_other _ _ (queued j o loaded)]
    exact h.loaded j o loaded
  · obtain ⟨o, slot, bound⟩ := h.bonds b mem
    refine ⟨o, ?_, bound⟩
    show (l.slots.mapIdx fun _ x => x.markNoRecipe i)[b.slot] = _
    rw [slots, slot]
    rfl

end

end Sys2Proof.Machine
end

section
/-! SUPPORT. The shared operations that leave the ledger alone (O59). -/

namespace Sys2Proof.Machine

set_option Elab.async false

/-! ### Equal ledgers -/

theorem State.ledger_congr {s t : State} (recipes : t.recipes = s.recipes) (slots : t.ring.slots = s.ring.slots)
    (bonds : t.tracker.train.map BilletRecord.bond = s.tracker.train.map BilletRecord.bond) : t.ledger = s.ledger := by
  rw [State.ledger, recipes, slots, bonds]
  rfl

/-- Trains of the same billets have the same bonds. -/
theorem bonds_of_billets {train other : List BilletRecord} (same : train.map billetOf = other.map billetOf) :
    train.map BilletRecord.bond = other.map BilletRecord.bond := by
  have read : BilletRecord.bond = (fun b => ⟨b.1, b.2.1, b.2.2.1⟩) ∘ billetOf := rfl
  rw [read, ← List.map_map, ← List.map_map, same]

variable (s : State)

/-! ### The tracker and the converter -/

@[simp] theorem State.raiseIf_ledger (b : Bool) (x : Source) : (s.raiseIf b x).ledger = s.ledger := by
  simp [State.ledger]

@[simp] theorem State.evaluateZone_ledger (z : Fin 6) : (s.evaluateZone z).ledger = s.ledger := by
  simp [State.ledger]

@[simp] theorem State.evaluateAll_ledger : s.evaluateAll.ledger = s.ledger := by
  simp [State.ledger]

@[simp] theorem State.grant_ledger : s.grant.ledger = s.ledger := by
  simp [State.ledger]

/-- The exit record rewritten under its bond. -/
theorem State.updateExit_ledger {f : BilletRecord → BilletRecord}
    (same : ∀ r, s.tracker.exitRecord = some r → (f r).bond = r.bond) : (s.updateExit f).ledger = s.ledger := by
  refine State.ledger_congr (by simp) (by simp) ?_
  unfold State.updateExit
  split
  · rename_i r rest train
    split
    · rename_i atExit
      have exit : s.tracker.exitRecord = some r := by
        rw [Tracker.exitRecord, train]
        exact if_pos atExit
      simp [train, same r exit]
    · rfl
  · rfl

theorem State.updateTrain_ledger : s.updateTrain.ledger = s.ledger :=
  State.ledger_congr rfl rfl (bonds_of_billets (by
    rw [State.updateTrain_tracker, List.map_map]
    exact List.map_congr_left fun r _ => billetOf_updated s r))

theorem State.recheckExit_ledger : s.recheckExit.ledger = s.ledger :=
  State.ledger_congr (by simp [State.recheckExit]) (by simp [State.recheckExit])
    (s.recheckExit_map fun _ _ => rfl)

theorem State.closeSlice_ledger (x : SliceRecord) (e : Nat) : (s.closeSlice x e).ledger = s.ledger := by
  obtain ⟨r, closed⟩ := s.closeSlice_cases x e
  rw [closed]
  exact State.ledger_congr rfl rfl (bonds_of_billets (creditedTrain_billets s x.zone e))

theorem State.loseSupply_ledger (energy : SliceRecord → Nat) : (s.loseSupply energy).ledger = s.ledger := by
  have credited : (s.lossCredited energy).ledger = s.ledger := by
    unfold State.lossCredited
    split
    · exact s.closeSlice_ledger _ _
    · rfl
  rw [s.loseSupply_eq, ← credited]
  rfl

theorem State.decideZone_ledger (z : Fin 6) (forced : Bool) : (s.decideZone z forced).ledger = s.ledger :=
  State.decideZone_induction (p := fun t => t.ledger = s.ledger) (v := s) z forced
    (fun _ => (State.grant_ledger _).trans (State.raiseIf_ledger _ _ _))
    (fun _ => State.grant_ledger _)
    (fun _ => (State.grant_ledger _).trans (State.raiseIf_ledger _ _ _))
    (fun _ => State.grant_ledger _) fun _ => rfl

/-! ### The line and the ring -/

theorem State.moveLine_ledger (new : LineState) : (s.moveLine new).ledger = s.ledger := by
  obtain ⟨-, ring, recipes, -⟩ := s.moveLine_frame new
  exact State.ledger_congr recipes (by rw [ring]) (bonds_of_billets (s.moveLine_sameBillets new))

theorem State.stopIfDrained_ledger : s.stopIfDrained.ledger = s.ledger := by
  unfold State.stopIfDrained
  split
  · exact s.moveLine_ledger _
  · rfl

theorem State.startExtract_ledger : s.startExtract.ledger = s.ledger :=
  State.updateExit_ledger { s with cadence.pendingCall := false } fun _ _ => rfl

theorem State.afterRetirement_ledger (order : BilletOrder) (v : OrderVerdict) :
    (s.afterRetirement order v).ledger = s.ledger := by
  simp [State.ledger]

theorem State.ringLow_ledger (before : Nat) : (s.ringLow before).ledger = s.ledger := State.raiseIf_ledger _ _ _

theorem State.suspectAll_ledger : s.suspectAll.ledger = s.ledger :=
  State.ledger_congr rfl rfl (bonds_of_billets (by
    simp only [State.suspectAll, List.map_map]
    rfl))

/-- The retirement of an order past QUEUED, or of one marked NO_RECIPE, makes its slot DONE and takes its use away
(R132). -/
theorem State.retire_ledger {slot : Fin 64} {o : BilletOrder} (status : StatusRecord)
    (held : s.ring.slots[slot] = .inLine o ∨ s.ring.slots[slot] = .loading o ∨
      s.ring.slots[slot] = .queued o ∧ o.resolution = .noRecipe) :
    (s.retire slot status).ledger =
      ⟨s.recipes.changeUse o.resolution (· - 1), s.ring.slots.set slot (.done o status), s.ledger.bonds⟩ := by
  unfold State.retire
  rcases held with inLine | loading | ⟨queued, unresolved⟩
  · rw [inLine]
    exact State.afterRetirement_ledger _ _ _
  · rw [loading]
    exact State.afterRetirement_ledger _ _ _
  · rw [queued, unresolved]
    exact State.afterRetirement_ledger _ _ _

end Sys2Proof.Machine
end

section
/-! SUPPORT. The operations of the ring, the train and the line keep the laws of the ledger (O59). -/

namespace Sys2Proof.Machine

set_option Elab.async false

/-- What a part of a command keeps: the laws of the ledger. -/
def TableKept (s t : State) : Prop := s.ledger.Lawful → t.ledger.Lawful

theorem TableKept.refl (s : State) : TableKept s s := id

theorem TableKept.trans {s t u : State} (h : TableKept s t) (k : TableKept t u) : TableKept s u := k ∘ h

theorem TableKept.same {s t : State} (same : t.ledger = s.ledger) : TableKept s t := fun h => same ▸ h

/-- What is kept, with a step before that leaves the ledger alone. -/
theorem TableKept.after {s t u : State} (k : TableKept t u) (same : t.ledger = s.ledger) : TableKept s u :=
  (TableKept.same same).trans k

/-- What is kept, with a step behind that leaves the ledger alone. -/
theorem TableKept.then {s t u : State} (k : TableKept s t) (same : u.ledger = t.ledger) : TableKept s u :=
  k.trans (.same same)

section
variable (s : State)

/-! ### Orders that leave the ring's stages -/

/-- A retirement of an order without a record, LOADING or marked NO_RECIPE, is lawful (R129, R141). -/
theorem Ledger.Lawful.retire {l : Ledger} (h : l.Lawful) {slot : Fin 64} {o : BilletOrder} (status : StatusRecord)
    (held : l.slots[slot] = .loading o ∨ l.slots[slot] = .queued o ∧ o.resolution = .noRecipe) :
    Ledger.Lawful ⟨l.recipes.changeUse o.resolution (· - 1), l.slots.set slot (.done o status), l.bonds⟩ := by
  have other : l.slots[slot].isInLine = false := by rcases held with e | ⟨e, -⟩ <;> rw [e] <;> rfl
  refine ⟨h.release (fun ref => ?_) (fun _ => rfl) rfl (.refl _) (h.bond_ne other),
    h.wanted.changeUse o.resolution (· - 1)⟩
  rcases held with loading | ⟨queued, unresolved⟩
  · rw [loading]
    exact beq_eq_decide ..
  · rw [queued, unresolved]
    simp [Slot.refersTo, unresolved]

theorem State.retire_tableKept {slot : Fin 64} {o : BilletOrder} (status : StatusRecord)
    (held : s.ring.slots[slot] = .loading o ∨ s.ring.slots[slot] = .queued o ∧ o.resolution = .noRecipe) :
    TableKept s (s.retire slot status) := by
  intro h
  rw [s.retire_ledger status (.inr held)]
  exact h.retire status held

/-- A record of the train belongs to an IN_LINE order resolved to its recipe (R4, R121). -/
theorem Ledger.Lawful.record {s : State} (h : s.ledger.Lawful) {r : BilletRecord} (mem : r ∈ s.tracker.train) :
    ∃ o, s.ring.slots[r.slot] = .inLine o ∧ o.resolution = .recipe r.ref := by
  obtain ⟨o, slot, resolved, -⟩ := h.bonds r.bond (List.mem_map_of_mem mem)
  exact ⟨o, slot, resolved⟩

/-- The oldest record may leave the train as its order is retired (R16, R132). -/
theorem Ledger.Lawful.retireOldest {l : Ledger} (h : l.Lawful) {b : Bond} {rest : List Bond}
    (train : l.bonds = b :: rest)
    {o : BilletOrder} (slot : l.slots[b.slot] = .inLine o) (status : StatusRecord) :
    Ledger.Lawful ⟨l.recipes.changeUse o.resolution (· - 1), l.slots.set b.slot (.done o status), rest⟩ := by
  refine ⟨h.release (fun ref => ?_) (fun _ => rfl) rfl (train ▸ List.sublist_cons_self _ _) ?_,
    h.wanted.changeUse o.resolution (· - 1)⟩
  · rw [slot]
    exact beq_eq_decide ..
  · have apart := h.apart
    rw [train, List.map_cons, List.nodup_cons] at apart
    exact fun c mem same => apart.1 (List.mem_map.2 ⟨c, mem, same⟩)

theorem State.removeExit_tableKept (v : BilletRecord → OrderVerdict) : TableKept s (s.removeExit v) := by
  intro h
  unfold State.removeExit
  split
  · rename_i r exit
    obtain ⟨train, -⟩ := Tracker.exitRecord_eq_some_iff.1 exit
    obtain ⟨o, slot, -⟩ := h.record (Tracker.exitRecord_mem exit)
    have retired := s.dropExit.retire_ledger (recordStatus (v r) s.tracker.clock r) (.inl slot)
    have bonds : s.ledger.bonds = r.bond :: s.dropExit.ledger.bonds := congrArg (List.map BilletRecord.bond) train
    show (s.dropExit.retire r.slot _).ledger.Lawful
    rw [retired]
    exact h.retireOldest bonds slot _
  · exact h

theorem State.withdrawNewest_tableKept (n : Nat) : TableKept s (s.withdrawNewest n).1 := by
  induction n generalizing s with
  | zero => exact .refl s
  | succ n ih =>
    cases newest : s.ring.slots[s.ring.tail - 1] with
    | queued o =>
      rw [State.withdrawNewest_frees newest]
      refine TableKept.trans (fun h => ?_) (ih _)
      have other : s.ring.slots[s.ring.tail - 1].isInLine = false := by rw [newest]; rfl
      refine ⟨h.release (i := s.ring.tail - 1) (x := .free) (fun ref => ?_) (fun _ => rfl) rfl (.refl _)
        (h.bond_ne other), h.wanted.changeUse o.resolution (· - 1)⟩
      rw [show s.ledger.slots[s.ring.tail - 1] = .queued o from newest]
      exact beq_eq_decide ..
    | free | loading _ | inLine _ | done _ _ =>
      rw [State.withdrawNewest_stops (by rw [newest]; rfl)]
      exact .refl s

theorem State.reclaimOldest_tableKept (n : Nat) : TableKept s (s.reclaimOldest n).1 := by
  induction n generalizing s with
  | zero => exact .refl s
  | succ n ih =>
    by_cases free : s.ring.occupied = 0 ∨ s.ring.slots[s.ring.reclaim].isDone = false
    · rw [State.reclaimOldest_stops free]
      exact .refl s
    · obtain ⟨some_, done⟩ := not_or.1 free
      have done : s.ring.slots[s.ring.reclaim].isDone = true := by simpa using done
      rw [State.reclaimOldest_frees some_ done]
      refine TableKept.trans (fun h => ?_) (ih _)
      obtain ⟨o, status, oldest⟩ := (Slot.isDone_iff _).1 done
      have other : s.ring.slots[s.ring.reclaim].isInLine = false := by rw [oldest]; rfl
      refine ⟨h.release (i := s.ring.reclaim) (x := .free) (r := .noRecipe) (fun ref => ?_) (fun _ => rfl) rfl
        (.refl _) (h.bond_ne other), h.wanted⟩
      rw [show s.ledger.slots[s.ring.reclaim] = .done o status from oldest]
      rfl

/-! ### The load decision (R129) -/

theorem State.skipHeads_tableKept (n : Nat) : TableKept s (s.skipHeads n) := by
  induction n generalizing s with
  | zero => exact .refl s
  | succ n ih =>
    unfold State.skipHeads
    split
    · rename_i o head
      split
      · rename_i unresolved
        exact (s.retire_tableKept _ (.inr ⟨head, unresolved⟩)).trans ((ih _).after rfl)
      · exact .refl s
    all_goals exact .refl s

/-- The head that a push start loads can be loaded (R129 step 2). -/
theorem State.loadableHead_loadable {s : State} {i : Fin 64} {o : BilletOrder} (head : s.loadableHead = some i)
    (slot : s.ring.slots[s.ring.load] = .queued o) : s.recipes.loadable o.resolution = true := by
  unfold State.loadableHead at head
  rw [slot] at head
  dsimp only at head
  split at head
  · cases head
  · by_contra blocked
    rw [if_neg blocked] at head
    cases head

theorem State.loadDecision_tableKept : TableKept s s.loadDecision.1 := by
  unfold State.loadDecision
  split
  · exact .refl s
  dsimp only
  have skipped := s.skipHeads_tableKept s.ring.queued
  generalize s.skipHeads s.ring.queued = t at skipped
  split
  · rename_i i head
    obtain ⟨rfl, o, slot, -⟩ := State.loadableHead_eq_some head
    have loadable := State.loadableHead_loadable head slot
    refine skipped.trans (TableKept.then (t := t.setSlot t.ring.load (.loading o)) (fun h => ?_) ?_)
    · refine ⟨h.advance (o := o) (fun ref => ?_) rfl loadable ?_, h.wanted⟩ <;>
        rw [show t.ledger.slots[t.ring.load] = .queued o from slot] <;> rfl
    · rw [State.ringLow_ledger, slot]
      rfl
  · exact skipped.then (State.ringLow_ledger _ _)

theorem State.startPush_tableKept : TableKept s s.startPush := s.loadDecision_tableKept.then rfl

/-! ### The choice and changes of line state -/

theorem State.choose_tableKept : TableKept s s.choose := by
  rcases s.choose_cases with h | ⟨-, -, ⟨v, -, -, h⟩ | ⟨-, -, h⟩ | ⟨-, -, -, h⟩ | ⟨-, -, -, h⟩⟩ <;> rw [h]
  · exact .refl s
  · exact .same rfl
  · exact .same s.startExtract_ledger
  · exact s.startPush_tableKept
  · unfold State.startColdWait
    split
    · exact (State.startPush_tableKept _).after rfl
    · exact .same rfl

theorem State.chooseIfReported_tableKept (before : State) : TableKept s (s.chooseIfReported before) := by
  unfold State.chooseIfReported
  split
  · exact .refl s
  · exact s.choose_tableKept

theorem State.changeLine_tableKept (new : LineState) : TableKept s (s.changeLine new) := by
  unfold State.changeLine
  dsimp only
  split
  · exact (State.choose_tableKept _).after ((State.stopIfDrained_ledger _).trans (s.moveLine_ledger new))
  · exact .same (s.moveLine_ledger new)

theorem State.afterCauseAdded_tableKept : TableKept s s.afterCauseAdded := by
  unfold State.afterCauseAdded
  split
  · exact s.changeLine_tableKept _
  · exact .refl s

theorem State.afterCauseRemoved_tableKept (held : Bool) : TableKept s (s.afterCauseRemoved held) := by
  unfold State.afterCauseRemoved
  split
  · exact s.changeLine_tableKept _
  · exact .refl s

theorem State.addSupply_tableKept : TableKept s s.addSupply := by
  unfold State.addSupply
  split
  · exact .refl s
  · exact (State.afterCauseAdded_tableKept _).after rfl

theorem State.addPressStop_tableKept : TableKept s s.addPressStop := by
  unfold State.addPressStop
  split
  · exact .refl s
  · exact (State.afterCauseAdded_tableKept _).after rfl

theorem State.pressStopAsserts_tableKept : TableKept s s.pressStopAsserts := by
  unfold State.pressStopAsserts
  split
  · exact s.addPressStop_tableKept
  · exact .same rfl

theorem State.takePressStop_tableKept : TableKept s s.takePressStop := by
  unfold State.takePressStop
  split
  · exact s.pressStopAsserts_tableKept
  · exact .refl s

theorem State.supplyLoss_tableKept (energy : SliceRecord → Nat) : TableKept s (s.supplyLoss energy) :=
  ((State.addSupply_tableKept _).after (s.loseSupply_ledger energy)).then rfl

theorem State.afterCompletion_tableKept : TableKept s s.afterCompletion :=
  ((State.choose_tableKept _).after s.stopIfDrained_ledger).then rfl

/-! ### Pushes and timeouts -/

/-- The train moved up keeps its bonds (R15). -/
theorem State.columnPushed_bonds (loaded : Option (Fin 64)) :
    (s.columnPushed loaded).ledger.bonds = s.ledger.bonds ++ (s.enteringRecords loaded).map BilletRecord.bond := by
  have moved : s.tracker.train.map (fun r => (movedUp s.tracker.line (s.updated r)).bond) =
      s.tracker.train.map BilletRecord.bond := by
    refine List.map_congr_left fun r _ => ?_
    obtain ⟨tm, sx, holdTime, aged, shape⟩ := s.updated_shape r
    rw [shape]
    rfl
  show (s.columnPushed loaded).tracker.train.map BilletRecord.bond = _
  rw [s.columnPushed_train, List.map_append, List.map_map]
  exact congrArg (· ++ _) moved

/-- A push that loads nothing leaves the ledger alone (R15). -/
theorem State.columnPushed_ledger_gap : (s.columnPushed none).ledger = s.ledger := by
  refine State.ledger_congr (by simp) (by rw [s.columnPushed_ring_gap]) ?_
  exact (s.columnPushed_bonds none).trans (List.append_nil _)

theorem State.columnPushed_tableKept (loaded : Option (Fin 64)) : TableKept s (s.columnPushed loaded) := by
  cases loaded with
  | none => exact .same s.columnPushed_ledger_gap
  | some j =>
    intro h
    cases slot : s.ring.slots[j] with
    | loading o =>
      have loadable : s.recipes.loadable o.resolution = true := h.loaded j o (by
        rw [show s.ledger.slots[j] = .loading o from slot]
        rfl)
      cases resolved : o.resolution with
      | noRecipe => rw [resolved] at loadable; cases loadable
      | recipe ref =>
        have entered : (s.enteringRecords (some j)).map BilletRecord.bond = [⟨j, o.billetId, ref⟩] := by
          simp only [State.enteringRecords, State.boundRecords]
          rw [show s.advanceTrain.ring = s.ring from rfl, slot]
          simp only [resolved]
          rfl
        have pushed : (s.columnPushed (some j)).ledger =
            ⟨s.recipes, s.ring.slots.set j (.inLine o), s.ledger.bonds ++ [⟨j, o.billetId, ref⟩]⟩ := by
          have bonds := s.columnPushed_bonds (some j)
          rw [entered] at bonds
          rw [← bonds, State.ledger, State.columnPushed_ring_order slot]
          simp
        have other : s.ledger.slots[j].isInLine = false := by
          rw [show s.ledger.slots[j] = .loading o from slot]
          rfl
        have inLine := h.advance (i := j) (x := .inLine o) (fun ref => by
          rw [show s.ledger.slots[j] = .loading o from slot]
          rfl) rfl loadable other
        rw [pushed]
        refine ⟨inLine.bind (b := ⟨j, o.billetId, ref⟩) (o := o) ?_ resolved rfl (h.bond_ne other), h.wanted⟩
        show (s.ring.slots.set j (.inLine o))[j] = _
        rw [slots_set, if_pos rfl]
    | free | queued _ | inLine _ | done _ _ =>
      have unbound : s.advanceTrain.bindOrder j = s.advanceTrain := by
        unfold State.bindOrder
        rw [show s.advanceTrain.ring = s.ring from rfl, slot]
      have gap : s.columnPushed (some j) = s.columnPushed none := by
        unfold State.columnPushed
        dsimp only
        rw [unbound]
      rw [gap, s.columnPushed_ledger_gap]
      exact h

theorem State.pushCompleted_tableKept (loaded : Option (Fin 64)) : TableKept s (s.pushCompleted loaded) := by
  have reported : (s.pushReported loaded).ledger = (s.columnPushed loaded).ledger := by
    obtain ⟨ring, recipes, -, -, -, train, -⟩ := s.pushReported_frame loaded
    exact State.ledger_congr (recipes.trans (s.columnPushed_frame loaded).2.1.symm) (by rw [ring]) (by rw [train])
  have kept := (s.columnPushed_tableKept loaded).then reported
  rw [State.pushCompleted_eq]
  generalize s.pushReported loaded = t at kept
  split <;> exact kept.then rfl

theorem State.purgeNext_tableKept : TableKept s s.purgeNext := by
  unfold State.purgeNext
  split
  · exact .same rfl
  · exact (State.changeLine_tableKept _ _).after rfl

theorem State.timedOut_tableKept (o : Operation) : TableKept s (s.timedOut o) := by
  cases o with
  | push loaded => exact (s.columnPushed_tableKept loaded).then rfl
  | extract => exact .same (s.updateExit_ledger fun _ _ => rfl)
  | divert => exact .refl s

theorem State.handlingTimeout_tableKept (o : Operation) : TableKept s (s.handlingTimeout o) := by
  let t := (s.endOperation.timedOut o).suspectAll
  have taken : TableKept s t := ((s.endOperation.timedOut_tableKept o).after rfl).then (State.suspectAll_ledger _)
  have faulted := State.changeLine_tableKept { t with cadence.occupancyUnknown := true } .faulted
  exact taken.trans ((faulted.after rfl).then rfl)

end

end Sys2Proof.Machine
end

section
/-! SUPPORT. The operations of the recipe table keep the laws of the ledger (O59). -/

namespace Sys2Proof.Machine

set_option Elab.async false

/-! ### Values of an entry (R143) -/

theorem Entry.inRange_settled {e : Entry} (settled : e.state ≠ .pending) :
    e.inRange = true ↔ e.learned ≤ top16 ∧ bodyOk e.body = true ∧ trimOk e.trim = true := by
  simp only [Entry.inRange, if_neg settled, Bool.and_eq_true, decide_eq_true_eq]

theorem entryPending_some {e : Entry} : entryPending (some e) = true ↔ e.state = .pending := beq_iff_eq

theorem entryPending_settled {e : Entry} (settled : e.state ≠ .pending) : entryPending (some e) = false :=
  Bool.eq_false_iff.2 (mt entryPending_some.1 settled)

section
variable (s : State)

/-! ### Entries rewritten and given up -/

/-- An entry rewritten under its key, its use count and its being PENDING, in range, with pins limited. -/
theorem State.rewrite_tableKept {i : Fin 32} {e y : Entry} (entry : s.recipes.entries[i] = some e) (key : y.key = e.key)
    (use : y.useCount = e.useCount) (pending : y.state = .pending ↔ e.state = .pending)
    (range : e.inRange = true → y.inRange = true)
    (pins : s.recipes.Sound → ∀ set, (s.recipes.put i (some y)).pinnedWays set ≤ 3) :
    TableKept s (s.setEntry i (some y)) := by
  intro h
  have entry' : s.ledger.recipes.entries[i] = some e := entry
  refine ⟨h.put (h.sound.rewrite entry key (range (h.sound.fits i e entry).2) (pins h.sound)) ?_ fun _ loadable => ?_,
    h.wanted.put ?_ fun _ => ?_⟩
  · rw [RecipeTable.useOf_entry, entry']
    exact use
  · rw [RecipeTable.loadable_entry_iff, entry'] at loadable
    obtain ⟨f, same, settled⟩ := loadable
    cases same
    exact (RecipeTable.loadable_entry_iff _ _).2 ⟨y, s.recipes.put_self i _, mt pending.1 settled⟩
  · rw [entry', Bool.eq_iff_iff, entryPending_some, entryPending_some]
    exact pending
  · rw [entry']
    exact congrArg some key

/-- The same, with the pinned flag as it was or cleared. -/
theorem State.rewrite_unpinned {i : Fin 32} {e y : Entry} (entry : s.recipes.entries[i] = some e) (key : y.key = e.key)
    (use : y.useCount = e.useCount) (pending : y.state = .pending ↔ e.state = .pending)
    (range : e.inRange = true → y.inRange = true) (pinned : y.pinned = true → e.pinned = true) :
    TableKept s (s.setEntry i (some y)) :=
  s.rewrite_tableKept entry key use pending range fun sound set =>
    (s.recipes.put_pinnedWays_le (by rw [entry]; exact pinned) set).trans (sound.pins set)

theorem State.handOver_tableKept {w : WritebackRecord} (room : canTake s.recipes.writebacks w.key = true) :
    TableKept s (s.handOver w) := fun h =>
  ⟨h.handInto room, h.wanted.of_same rfl rfl⟩

/-- An entry out of use that is not PENDING gives up its key, where the list has room for its record (R149, R160). -/
theorem State.giveUp_tableKept {i : Fin 32} {e : Entry} (cause : Cause) (entry : s.recipes.entries[i] = some e)
    (idle : e.useCount = 0) (settled : e.state ≠ .pending)
    (room : e.state = .learned → canTake s.recipes.writebacks e.key = true) : TableKept s (s.giveUp i cause) := by
  have remove : ∀ t : State, t.recipes.entries = s.recipes.entries → TableKept t (t.setEntry i none) := by
    intro t same h
    have entry : t.ledger.recipes.entries[i] = some e := by
      rw [show t.ledger.recipes.entries = s.recipes.entries from same]
      exact entry
    refine ⟨h.remove ?_, h.wanted.put ?_ fun none_ => ?_⟩
    · rw [RecipeTable.useOf_entry, entry]
      exact idle
    · rw [entry, entryPending_settled settled]
      rfl
    · cases none_
  unfold State.giveUp
  rw [entry]
  dsimp only
  split
  · rename_i learned
    exact (s.handOver_tableKept (w := e.record cause) (room learned)).trans (remove _ rfl)
  · exact remove s rfl

/-- The way an allocation takes is free after the eviction, and the key it is for still stands nowhere (R148, R149). -/
theorem State.evict_lawful {s : State} (h : s.ledger.Lawful) {k : Key} {i : Fin 32} (absent : s.recipes.keySearch k = none)
    (way : s.recipes.wayFor k = some i) :
    (s.giveUp i .evicted).ledger.Lawful ∧ (s.giveUp i .evicted).recipes.entries[i] = none ∧
    ∀ (j : Fin 32) (f : Entry), (s.giveUp i .evicted).recipes.entries[j] = some f → f.key ≠ k := by
  refine ⟨?_, by rw [s.giveUp_entries, if_pos rfl], fun j f entry => ?_⟩
  · cases entry : s.recipes.entries[i] with
    | none =>
      have nothing : s.giveUp i .evicted = s := by
        unfold State.giveUp
        rw [entry]
      rwa [nothing]
    | some e =>
      have fit := (RecipeTable.wayFor_some way).2
      rw [entry] at fit
      obtain ⟨-, idle, settled, room⟩ := victimFit_iff.1 (fit.resolve_left nofun)
      exact s.giveUp_tableKept .evicted entry idle settled room h
  · rw [s.giveUp_entries] at entry
    split at entry
    · cases entry
    · exact h.sound.absent absent entry

theorem State.advanceReplacement_tableKept : TableKept s s.advanceReplacement := fun h =>
  ⟨h.of_same rfl rfl rfl, h.wanted.of_same rfl rfl⟩

/-- FLUSH UNPINNED gives up entries one by one (R161). -/
theorem State.sweep_tableKept : TableKept s s.sweep.1 := by
  have one : ∀ (x : State × Nat × Nat) (i : Fin 32), TableKept x.1 (sweepEntry x i).1 := by
    intro x i
    unfold sweepEntry
    dsimp only
    split
    · exact .refl _
    rename_i e entry
    split
    · exact .refl _
    rename_i kept
    obtain ⟨settled, -, idle⟩ : e.state ≠ .pending ∧ e.pinned ≠ true ∧ ¬ 0 < e.useCount := by
      simpa only [not_or] using kept
    split
    · exact .refl _
    · rename_i room
      exact x.1.giveUp_tableKept .flushed entry (by omega) settled fun learned => by simpa [learned] using room
  exact List.foldlRecOn (motive := fun x : State × Nat × Nat => TableKept s x.1) (List.finRange 32) sweepEntry
    (.refl s) fun x h i _ => h.trans (one x i)

/-! ### LOAD RECIPE (R157, R158) -/

/-- The values of a LOAD RECIPE make an entry in range (R143). -/
theorem Entry.load_inRange {body : Body} {trim : Int} (ok : (bodyOk body && trimOk trim) = true) (policy : Policy)
    (e : Entry) : (e.load body trim policy).inRange = true :=
  (Entry.inRange_settled (e := e.load body trim policy) nofun).2
    ⟨Nat.zero_le _, (Bool.and_eq_true_iff.1 ok).1, (Bool.and_eq_true_iff.1 ok).2⟩

theorem State.loadPresent_tableKept {i : Fin 32} {e : Entry} {body : Body} {trim : Int} (policy : Policy)
    (entry : s.recipes.entries[i] = some e) (ok : (bodyOk body && trimOk trim) = true) :
    TableKept s (s.loadPresent i e body trim policy) := by
  have range := e.load_inRange ok policy
  unfold State.loadPresent
  dsimp only
  split
  · intro h
    have entry' : s.ledger.recipes.entries[i] = some e := entry
    have filled := h.put (i := i) (x := some (e.load body trim policy))
      (h.sound.rewrite_pinned entry rfl range id)
      (by rw [RecipeTable.useOf_entry, entry']; rfl)
      fun _ _ => (RecipeTable.loadable_entry_iff _ _).2 ⟨_, s.recipes.put_self i _, nofun⟩
    exact ⟨filled.of_same rfl rfl rfl, h.wanted.settle rfl⟩
  · rename_i settled
    exact s.rewrite_unpinned entry rfl rfl (iff_of_false nofun settled) (fun _ => range) id

theorem State.loadAbsent_tableKept {i : Fin 32} {key : Key} {body : Body} {trim : Int} (policy : Policy)
    (absent : s.recipes.keySearch key = none) (way : s.recipes.wayFor key = some i)
    (ok : (bodyOk body && trimOk trim) = true) : TableKept s (s.loadAbsent i key body trim policy) := by
  intro h
  obtain ⟨lawful, free, nowhere⟩ := State.evict_lawful h absent way
  unfold State.loadAbsent
  generalize s.giveUp i .evicted = t at lawful free nowhere
  have free : t.ledger.recipes.entries[i] = none := free
  have idle : t.ledger.recipes.useOf (.entry i) = 0 := by
    rw [RecipeTable.useOf_entry, free]
    rfl
  refine ⟨lawful.put (lawful.sound.insert (y := loadedEntry key body trim policy) (RecipeTable.wayFor_some way).1
    nowhere (Entry.load_inRange ok policy (loadedEntry key body trim policy)) rfl) idle.symm
    fun used => absurd used (by omega), lawful.wanted.put ?_ nofun⟩
  rw [free]
  rfl

theorem State.afterLoad_tableKept (before : State) : TableKept s (s.afterLoad before) := by
  have reported : ∀ t : State, t.evaluateAll.reportReadiness.grant.ledger = t.ledger :=
    fun t => (State.grant_ledger _).trans t.evaluateAll_ledger
  refine s.advanceReplacement_tableKept.trans (TableKept.then ?_ rfl)
  exact (State.chooseIfReported_tableKept _ before).after (reported _)

/-! ### A posted key (R146, R148) -/

section
variable {s : State} (h : s.ledger.Lawful) (free : s.ring.slots[s.ring.tail] = .free) {o : BilletOrder}
include h free

/-- An order posted in the FREE slot at the tail to a recipe that stands, a window only while enabled (R124, R150). -/
theorem State.postUsed_lawful {ref : RecipeRef} (resolved : o.resolution = .recipe ref)
    (stands : ∀ i, ref = .entry i → s.recipes.entries[i].isSome = true)
    (enabled : ∀ w, ref = .window w → s.recipes.windows[w].enabled = true) :
    ((s.addUse (.recipe ref)).queueOrder o).ledger.Lawful := by
  refine ⟨h.post (t := s.recipes.changeUse (.recipe ref) (· + 1)) free (h.sound.changeUse _ _ fun w same _ =>
    .inl (enabled w (Resolution.recipe.inj same))) (fun other => ?_) fun r loadable _ => ?_, h.wanted.changeUse _ _⟩
  · rw [s.recipes.raise_useOf stands, resolved]
    simp only [Resolution.recipe.injEq]
    rfl
  · rw [RecipeTable.changeUse_loadable]
    exact loadable

/-- An order posted in the FREE slot at the tail to the way allocated for its key (R124, R148). -/
theorem State.postAllocated_lawful {k : Key} {i : Fin 32} (resolved : o.resolution = .recipe (.entry i))
    (absent : s.recipes.keySearch k = none) (few : s.recipes.wants.length < 4) (way : s.recipes.wayFor k = some i) :
    ((s.allocate k i).queueOrder o).ledger.Lawful := by
  obtain ⟨lawful, empty, nowhere⟩ := State.evict_lawful h absent way
  have ring : (s.giveUp i .evicted).ring = s.ring := (s.giveUp_frame i .evicted).2.1
  have tail : ∀ r : Ring, r = s.ring → r.slots[r.tail] = .free := fun r same => by subst same; exact free
  have wants : (s.giveUp i .evicted).recipes.wants = s.recipes.wants := by
    unfold State.giveUp
    split
    · split <;> rfl
    · rfl
  unfold State.allocate
  generalize s.giveUp i .evicted = t at lawful empty nowhere ring wants
  have empty : t.ledger.recipes.entries[i] = none := empty
  have idle : t.ledger.recipes.useOf (.entry i) = 0 := by
    rw [RecipeTable.useOf_entry, empty]
    rfl
  have posted := lawful.post (i := t.ring.tail) (o := o) (t := t.recipes.put i (some (pendingEntry k)))
    (tail _ ring) (lawful.sound.insert (RecipeTable.wayFor_some way).1 nowhere rfl rfl)
    (fun ref => by
      rw [RecipeTable.put_useOf, resolved]
      split
      · rename_i same
        rw [same, idle, if_pos rfl]
        rfl
      · rename_i other
        rw [if_neg fun eq => other (Resolution.recipe.inj eq).symm]
        rfl)
    fun r loadable inUse => by
      rw [RecipeTable.put_loadable_other _ _ fun own => absurd (inUse _ own) (by omega)]
      exact loadable
  refine ⟨posted.of_same rfl rfl rfl, lawful.wanted.want rfl ?_ ?_ rfl rfl⟩
  · rw [empty]
    rfl
  · rw [show t.ledger.recipes.wants = s.recipes.wants from wants]
    exact few

/-- An order posted to the recipe that the lookup of its key answers (R124, R146). -/
theorem State.lookup_lawful {k : Key} {found : Lookup} (lookup : s.lookup k = some found)
    (resolved : o.resolution = .recipe found.ref) : (found.after.queueOrder o).ledger.Lawful := by
  have enabled : ∀ w : Fin 2, s.recipes.windows[w].resolves k = true → s.recipes.windows[w].enabled = true :=
    fun w resolves => (Bool.and_eq_true_iff.1 resolves).1
  unfold State.lookup at lookup
  split at lookup
  · cases lookup
    exact State.postUsed_lawful h free resolved nofun fun w same => by cases same; exact enabled 0 ‹_›
  split at lookup
  · cases lookup
    exact State.postUsed_lawful h free resolved nofun fun w same => by cases same; exact enabled 1 ‹_›
  split at lookup
  · rename_i i held
    cases lookup
    obtain ⟨-, e, entry, -⟩ := RecipeTable.keySearch_found held
    exact State.postUsed_lawful h free resolved (fun j same => by cases same; rw [entry]; rfl) nofun
  rename_i absent
  split at lookup
  · cases lookup
  rename_i few
  split at lookup
  · rename_i way
    cases lookup
    exact State.postAllocated_lawful h free resolved absent (by omega) way
  · cases lookup

end

/-! ### Learning (R167 to R170) -/

theorem trimOk_learnedTrim (residual : Int) (width : Nat) (trim : Int) :
    trimOk (learnedTrim residual width trim) = true := by
  have clamped : ∀ moved : Int, -2048 ≤ max (-2048) (min moved 2047) ∧ max (-2048) (min moved 2047) ≤ 2047 := by omega
  exact decide_eq_true (clamped _)

/-- A learning step at an entry that can be loaded, as that of a record is (R26, R167). -/
theorem State.learn_tableKept {i : Fin 32} {e : Entry} (entry : s.recipes.entries[i] = some e)
    (settled : e.state ≠ .pending) (residual : Int) (width : Nat) : TableKept s (s.learn i residual width) := by
  have learned : ∀ state : EntryState, state ≠ .pending →
      TableKept s (s.setEntry i (some { e.learn residual width with state := state })) := by
    intro state other
    refine s.rewrite_unpinned entry rfl rfl (iff_of_false other settled) (fun range => ?_) id
    obtain ⟨-, body, -⟩ := (Entry.inRange_settled settled).1 range
    exact (Entry.inRange_settled (e := { e.learn residual width with state := state }) other).2
      ⟨Nat.min_le_right _ _, body, trimOk_learnedTrim _ _ _⟩
  have handed : TableKept s (s.handOnTrim i (e.learn residual width)) := by
    unfold State.handOnTrim
    split
    · exact learned .learned nofun
    · split
      · rename_i room
        exact (learned .valid nofun).trans (State.handOver_tableKept _ room)
      · exact learned .learned nofun
  unfold State.learn
  rw [entry]
  dsimp only
  split
  · exact learned e.state settled
  · exact handed.then ((State.grant_ledger _).trans (State.evaluateAll_ledger _))

/-- The learning step of a record of the train (R26). -/
theorem State.learnFrom_tableKept {q r : BilletRecord} (mem : q ∈ s.tracker.train) (ref : r.ref = q.ref)
    (residual : Int) (width : Nat) : TableKept s (s.learnFrom r residual width) := by
  intro h
  obtain ⟨o, slot, resolved⟩ := h.record mem
  unfold State.learnFrom
  split
  · rename_i i own
    have loadable : s.recipes.loadable o.resolution = true := h.loaded q.slot o (by
      rw [show s.ledger.slots[q.slot] = .inLine o from slot]
      rfl)
    rw [resolved, ← ref, own, RecipeTable.loadable_entry_iff] at loadable
    obtain ⟨e, entry, settled⟩ := loadable
    split
    · exact h
    · exact s.learn_tableKept entry settled residual width h
  · exact h

/-! ### A fetch timeout (R153) -/

theorem State.wantFor_pendingEntry {key : Key} {w : Want} (found : s.wantFor key = some w) :
    entryPending s.recipes.entries[w.entry] = true := by
  unfold State.wantFor at found
  split at found
  · rename_i v _
    split at found
    · rename_i e entry
      split at found
      · rename_i pending
        cases found
        rw [entry]
        exact entryPending_some.2 pending
      · cases found
    · cases found
  · cases found

theorem fetchTimeout_tableKept (key : Key) : TableKept s (fetchTimeout key s) := by
  unfold fetchTimeout
  split
  · rename_i w found
    intro h
    have pending := s.wantFor_pendingEntry found
    have dropped : ((((((s.dropWant w.entry).markNoRecipe w.entry).setEntry w.entry none).raise .recipeLost)).count
        .fetchTimeout).ledger = ⟨{ s.recipes.put w.entry none with
          wants := s.recipes.wants.filter (fun v => v.entry != w.entry) },
        s.ring.slots.mapIdx (fun _ x => x.markNoRecipe w.entry), s.ledger.bonds⟩ := by
      have removed := RecipeTable.changeUse_remove (s.dropWant w.entry).recipes w.entry
        (· - (s.dropWant w.entry).ring.slots.toList.countP (Slot.queuedFor w.entry))
      exact congrArg (fun recipes => (⟨recipes, s.ring.slots.mapIdx (fun _ x => x.markNoRecipe w.entry),
        s.ledger.bonds⟩ : Ledger)) removed
    rw [dropped]
    have bound : Ledger.Bound _ := h.dropPending pending
    exact ⟨bound.of_same rfl rfl rfl, h.wanted.settle rfl⟩
  · exact .refl s

end

end Sys2Proof.Machine
end

section
/-! SUPPORT. The two resets keep the laws of the ledger (O59). -/

namespace Sys2Proof.Machine

set_option Elab.async false

/-! ### The retirements of a RESTART (R141) -/

/-- The ledger of a state whose train is left out. -/
def State.unmanned (s : State) : Ledger := ⟨s.recipes, s.ring.slots, []⟩

/-- Records retired one after another leave a lawful ledger without a train (R141 step 1). -/
theorem lostRecords_lawful (now : Clock) (rs : List BilletRecord) (s : State)
    (h : Ledger.Lawful ⟨s.recipes, s.ring.slots, rs.map BilletRecord.bond⟩) :
    (rs.foldl (fun x r => x.retire r.slot (recordStatus .restartLost now r)) s).unmanned.Lawful := by
  induction rs generalizing s with
  | nil => exact h
  | cons r rest ih =>
    obtain ⟨o, slot, -⟩ := h.bonds r.bond List.mem_cons_self
    have slot : s.ring.slots[r.slot] = .inLine o := slot
    have retired := s.retire_ledger (recordStatus .restartLost now r) (.inl slot)
    have lost := h.retireOldest rfl slot (recordStatus .restartLost now r)
    refine ih _ ?_
    rw [show (s.retire r.slot (recordStatus .restartLost now r)).recipes = _ from congrArg Ledger.recipes retired,
      show (s.retire r.slot (recordStatus .restartLost now r)).ring.slots = _ from congrArg Ledger.slots retired]
    exact lost

theorem State.loseRecords_lawful {s : State} (h : s.ledger.Lawful) : s.loseRecords.unmanned.Lawful :=
  lostRecords_lawful _ s.tracker.train s h

theorem State.loseLoadingAt_lawful {s : State} (h : s.unmanned.Lawful) (i : Fin 64) :
    (s.loseLoadingAt i).unmanned.Lawful := by
  unfold State.loseLoadingAt
  split
  · rename_i o slot
    have retired := s.retire_ledger (emptyStatus .restartLost) (.inr (.inl slot))
    have lost := h.retire (emptyStatus .restartLost) (.inl slot)
    rw [State.unmanned,
      show (s.retire i (emptyStatus .restartLost)).recipes = _ from congrArg Ledger.recipes retired,
      show (s.retire i (emptyStatus .restartLost)).ring.slots = _ from congrArg Ledger.slots retired]
    exact lost
  all_goals exact h

theorem State.loseLoading_lawful {s : State} (h : s.unmanned.Lawful) : s.loseLoading.unmanned.Lawful :=
  List.foldlRecOn (motive := fun t : State => t.unmanned.Lawful) (List.finRange 64) _ h
    fun _ kept i _ => State.loseLoadingAt_lawful kept i

/-! ### The PENDING entries dropped at a RESTART (R166) -/

/-- The ledger after a PENDING entry has been dropped: its QUEUED orders marked, the entry gone (R130, R166). -/
theorem State.dropPendingAt_unmanned {s : State} {i : Fin 32} (pending : entryPending s.recipes.entries[i] = true) :
    (s.dropPendingAt i).unmanned =
      ⟨s.recipes.put i none, s.ring.slots.mapIdx (fun _ x => x.markNoRecipe i), []⟩ := by
  unfold State.dropPendingAt
  cases entry : s.recipes.entries[i] with
  | none => rw [entry] at pending; cases pending
  | some e =>
    rw [entry] at pending
    have removed := s.recipes.changeUse_remove i (· - s.ring.slots.toList.countP (Slot.queuedFor i))
    dsimp only
    rw [if_pos (entryPending_some.1 pending)]
    exact congrArg (fun recipes =>
      (⟨recipes, s.ring.slots.mapIdx (fun _ x => x.markNoRecipe i), []⟩ : Ledger)) removed

theorem State.dropPendingAt_other {s : State} {i : Fin 32} (settled : entryPending s.recipes.entries[i] = false) :
    s.dropPendingAt i = s := by
  unfold State.dropPendingAt
  split
  · rename_i e entry
    rw [entry] at settled
    exact if_neg fun pending => Bool.false_ne_true (settled.symm.trans (entryPending_some.2 pending))
  · rfl

/-- Dropping a PENDING entry keeps the laws but those of the wants, and leaves no other entry PENDING that was not. -/
theorem State.dropPendingAt_bound {s : State} (h : s.unmanned.Bound) (i : Fin 32) :
    (s.dropPendingAt i).unmanned.Bound ∧ ∀ j : Fin 32, i = j ∨ entryPending s.recipes.entries[j] = false →
      entryPending (s.dropPendingAt i).recipes.entries[j] = false := by
  cases pending : entryPending s.recipes.entries[i] with
  | true =>
    have dropped := State.dropPendingAt_unmanned pending
    have recipes : (s.dropPendingAt i).recipes = s.recipes.put i none := congrArg Ledger.recipes dropped
    rw [dropped]
    refine ⟨h.dropPending pending, fun j settled => ?_⟩
    rw [recipes, RecipeTable.put_entries]
    split
    · rfl
    · exact settled.resolve_left ‹_›
  | false =>
    rw [State.dropPendingAt_other pending]
    exact ⟨h, fun j settled => settled.elim (fun same => same ▸ pending) id⟩

/-- After a RESTART no entry is PENDING and no want stands (R166). -/
theorem State.restartRecipes_lawful {s : State} (h : s.unmanned.Lawful) : s.restartRecipes.unmanned.Lawful := by
  have fold : ∀ (is : List (Fin 32)) (t : State), t.unmanned.Bound →
      (is.foldl State.dropPendingAt t).unmanned.Bound ∧ ∀ j : Fin 32,
        j ∈ is ∨ entryPending t.recipes.entries[j] = false →
        entryPending (is.foldl State.dropPendingAt t).recipes.entries[j] = false := by
    intro is
    induction is with
    | nil => exact fun t kept => ⟨kept, fun j settled => settled.resolve_left nofun⟩
    | cons i rest ih =>
      intro t kept
      obtain ⟨bound, settles⟩ := t.dropPendingAt_bound kept i
      obtain ⟨bound', settles'⟩ := ih (t.dropPendingAt i) bound
      refine ⟨bound', fun j settled => settles' j ?_⟩
      rcases settled with mem | settled
      · exact (List.mem_cons.1 mem).elim (fun own => .inr (settles j (.inl own.symm))) .inl
      · exact .inr (settles j (.inr settled))
  obtain ⟨bound, settled⟩ := fold (List.finRange 32) s h.toBound
  have none_ := fun i => settled i (.inl (List.mem_finRange i))
  unfold State.restartRecipes
  generalize (List.finRange 32).foldl State.dropPendingAt s = t at bound none_
  refine ⟨bound.of_same rfl rfl rfl, ⟨Nat.zero_le _, nofun, fun i => ?_⟩⟩
  exact (if_neg (Bool.eq_false_iff.1 (none_ i))).symm

/-! ### The resets (R207) -/

theorem State.restartBlocks_ledger (s : State) :
    s.restartBlocks.ledger = s.loseRecords.loseLoading.restartRecipes.unmanned := by
  have arbiter : ∀ t : State, t.restartArbiter.recipes = t.recipes ∧ t.restartArbiter.ring = t.ring := by
    intro t
    unfold State.restartArbiter
    dsimp only
    split <;> exact ⟨rfl, rfl⟩
  have blocks : ∀ t : State, t.restartArbiter.restartTracker.restartLine.ledger = t.unmanned := by
    intro t
    have unmanned : t.restartArbiter.restartTracker.restartLine.ledger = t.restartArbiter.unmanned := rfl
    rw [unmanned, State.unmanned, (arbiter t).1, (arbiter t).2]
    rfl
  unfold State.restartBlocks
  dsimp only
  rw [blocks]
  generalize s.loseRecords.loseLoading.restartRecipes = t
  rfl

theorem State.restart_tableKept (s : State) : TableKept s s.restart := by
  have blocks : TableKept s s.restartBlocks := fun h => by
    rw [s.restartBlocks_ledger]
    exact State.restartRecipes_lawful (State.loseLoading_lawful (State.loseRecords_lawful h))
  exact blocks.trans (State.takePressStop_tableKept _)

/-- The power-on state is lawful (R140, R165). -/
theorem powerOnReset_lawful (s : State) : (powerOnReset s).ledger.Lawful := by
  obtain ⟨-, -, -, -, -, -, column, table, -⟩ := resetIsSound
  have blocks : s.powerOnBlocks.ledger = State.reset.ledger := rfl
  exact State.takePressStop_tableKept _ (blocks ▸ ledger_lawful column table)

end Sys2Proof.Machine
end

section
/-! SUPPORT. Every request keeps the laws of the ledger (O59). -/

namespace Sys2Proof.Machine

set_option Elab.async false

section
variable (s : State)

/-! ### Requests that leave the ledger alone -/

theorem onZone_tableKept (zone : Nat) (f : Fin 6 → State) (h : ∀ z, (f z).ledger = s.ledger) :
    TableKept s (onZone zone s f) := by
  unfold onZone
  split
  · exact .same (h _)
  · exact .same rfl

theorem onKey_tableKept (key : Key) (f : Fin 32 → Entry → State)
    (h : ∀ i e, Found s key i e → TableKept s (f i e)) : TableKept s (onKey key s f) := by
  unfold onKey
  split
  · exact .same rfl
  · rename_i i found
    split
    · rename_i e entry
      exact h i e ⟨found, entry⟩
    · exact .same rfl

theorem onSet_tableKept (set : BitVec 16) (f : BitVec 11 → Attention) : TableKept s (onSet set s f) := by
  unfold onSet
  split <;> exact .same rfl

theorem setZoneRequest_tableKept (zone mode blockSize setpoint budget : Nat) (options : BitVec 8) :
    TableKept s (setZoneRequest zone mode blockSize setpoint budget options s) := by
  refine onZone_tableKept s _ _ fun z => ?_
  split
  · rfl
  · exact (State.grant_ledger _).trans (State.evaluateZone_ledger _ z)

theorem enableZoneRequest_tableKept (zone : Nat) : TableKept s (enableZoneRequest zone s) := by
  refine onZone_tableKept s _ _ fun z => ?_
  dsimp only
  split
  · exact State.grant_ledger _
  · rfl

theorem disableZoneRequest_tableKept (zone : Nat) : TableKept s (disableZoneRequest zone s) := by
  refine onZone_tableKept s _ _ fun z => ?_
  split <;> rfl

theorem pauseZoneRequest_tableKept (zone : Nat) : TableKept s (pauseZoneRequest zone s) := by
  refine onZone_tableKept s _ _ fun z => ?_
  split <;> rfl

theorem continueZoneRequest_tableKept (zone : Nat) : TableKept s (continueZoneRequest zone s) :=
  onZone_tableKept s _ _ fun z => State.grant_ledger (s.updateZone z Zone.continuing)

theorem doseZoneRequest_tableKept (zone : Nat) : TableKept s (doseZoneRequest zone s) := by
  refine onZone_tableKept s _ _ fun z => ?_
  split
  iterate 3 rfl
  all_goals
    split
    · rfl
    · exact State.grant_ledger _

theorem powerOnRequest_tableKept : TableKept s (powerOnRequest s) := by
  unfold powerOnRequest
  split
  · exact .same (State.grant_ledger _)
  · exact .same rfl

theorem powerContinueRequest_tableKept : TableKept s (powerContinueRequest s) :=
  .same (State.grant_ledger { s with arbiter.pause := false })

theorem readTrainRequest_tableKept (first count : Nat) : TableKept s (readTrainRequest first count s) := by
  unfold readTrainRequest
  split <;> exact .same rfl

theorem readOrdersRequest_tableKept (first count : Nat) : TableKept s (readOrdersRequest first count s) := by
  unfold readOrdersRequest
  split
  · split <;> exact .same rfl
  · exact .same rfl

theorem readRecipeRequest_tableKept (selector : RecipeSelector) : TableKept s (readRecipeRequest selector s) := by
  unfold readRecipeRequest
  split
  · exact onKey_tableKept s _ _ fun i e _ => .same rfl
  · split <;> exact .same rfl

theorem selectCounterRequest_tableKept (counter event : Nat) : TableKept s (selectCounterRequest counter event s) := by
  unfold selectCounterRequest
  split
  · split <;> exact .same rfl
  · exact .same rfl

theorem State.regrant_ledger : s.evaluateAll.grant.ledger = s.ledger :=
  (State.grant_ledger _).trans s.evaluateAll_ledger

theorem writeSettingRequest_tableKept (id value : Nat) : TableKept s (writeSettingRequest id value s) := by
  unfold writeSettingRequest
  split
  · exact .same rfl
  split
  · split
    · dsimp only
      split
      · exact .same (State.regrant_ledger { s with settings := writeSettingOf id value s.settings })
      · exact .same rfl
    · exact .same rfl
  · exact .same rfl

theorem writeProfileRequest_tableKept (profile : Vector Nat 12) : TableKept s (writeProfileRequest profile s) := by
  unfold writeProfileRequest
  split
  · exact .same (State.regrant_ledger { s with settings.profile := profile })
  · exact .same rfl

/-! ### Requests of the line -/

/-- The end of a request of the line, PRESS_READY's level and the reply, leaves the ledger alone. -/
theorem TableKept.answered {s t : State} (k : TableKept s t) (data : List Byte) : TableKept s (t.settle.accept data) :=
  k.then rfl

theorem startRequest_tableKept : TableKept s (startRequest s) := by
  unfold startRequest
  split
  · exact .same rfl
  split
  · exact .same rfl
  split
  · exact .same rfl
  · exact ((State.changeLine_tableKept { s with cadence.noLoad := false } _).after rfl).answered _

theorem stopRequest_tableKept : TableKept s (stopRequest s) := by
  unfold stopRequest
  split
  · exact (s.changeLine_tableKept _).answered _
  · exact .same rfl

theorem holdRequest_tableKept : TableKept s (holdRequest s) := by
  unfold holdRequest
  split
  · split
    · exact .same rfl
    · exact ((State.afterCauseAdded_tableKept { s with cadence.manual := true }).after rfl).answered _
  · exact .same rfl

theorem resumeRequest_tableKept : TableKept s (resumeRequest s) := by
  unfold resumeRequest
  split
  · exact ((State.afterCauseRemoved_tableKept { s with cadence.manual := false, cadence.supply := false } _).after
      rfl).answered _
  · exact .same rfl

theorem drainRequest_tableKept : TableKept s (drainRequest s) := by
  unfold drainRequest
  split
  · exact .same (State.stopIfDrained_ledger { s with cadence.noLoad := true })
  · exact .same rfl

theorem purgeRequest_tableKept : TableKept s (purgeRequest s) := by
  have divert : ∀ t : State, t.startPurgeDivert.ledger = t.ledger := fun _ => rfl
  unfold purgeRequest
  split
  · have purging := (State.changeLine_tableKept { s with cadence.purgeStep := 1 } .purging).after (s := s) rfl
    exact (purging.then (divert _)).answered _
  · exact .same rfl

theorem declareEmptyRequest_tableKept : TableKept s (declareEmptyRequest s) := by
  unfold declareEmptyRequest
  split
  · exact .same rfl
  split <;> exact .same rfl

/-! ### Requests of the ring (chapter 6) -/

/-- With room in the ring its tail slot is FREE (R120). -/
theorem tail_free {s : State} (ordered : RingInOrder s) (room : s.ring.occupied < 64) :
    s.ring.slots[s.ring.tail] = .free := by
  obtain ⟨-, -, tail, -, slots⟩ := ordered
  refine (slots s.ring.tail).2.2 ?_
  have reclaim := s.ring.reclaim.isLt
  rw [Ring.ahead_val]
  omega

theorem postOrderRequest_tableKept (ordered : RingInOrder s) (billetId : BitVec 32) (key : Key) (flags : BitVec 8)
    (entryTemp exitOverride : Nat) : TableKept s (postOrderRequest billetId key flags entryTemp exitOverride s) := by
  unfold postOrderRequest
  split
  · exact .same rfl
  rename_i order _
  split
  · exact .same rfl
  rename_i room
  split
  · exact .same rfl
  · rename_i found lookup
    refine TableKept.then (t := (found.after.queueOrder { order with resolution := .recipe found.ref }).advanceReplacement)
      (TableKept.trans (fun h => ?_) (State.advanceReplacement_tableKept _)) rfl
    exact State.lookup_lawful h (tail_free ordered (by omega)) lookup rfl

theorem withdrawRequest_tableKept (n : Nat) : TableKept s (withdrawRequest n s) := by
  unfold withdrawRequest
  split
  · exact (s.withdrawNewest_tableKept n).then (State.ringLow_ledger _ _)
  · exact .same rfl

theorem reclaimRequest_tableKept (n : Nat) : TableKept s (reclaimRequest n s) := by
  unfold reclaimRequest
  split
  · exact (s.reclaimOldest_tableKept n).then rfl
  · exact .same rfl

/-! ### Requests of the recipe table (chapters 7 and 8) -/

theorem loadRecipeRequest_tableKept (key : Key) (body : Body) (trim : Int) (policy : Nat) :
    TableKept s (loadRecipeRequest key body trim policy s) := by
  unfold loadRecipeRequest
  split
  · exact .same rfl
  rename_i p _
  split
  · rename_i ok
    split
    · split
      · rename_i entry
        exact ((s.loadPresent_tableKept p entry ok).trans (State.afterLoad_tableKept _ s)).then rfl
      · exact .same rfl
    · rename_i absent
      split
      · rename_i way
        exact ((s.loadAbsent_tableKept p absent way ok).trans (State.afterLoad_tableKept _ s)).then rfl
      · exact .same rfl
  · exact .same rfl

theorem flushRecipeRequest_tableKept (key : Key) : TableKept s (flushRecipeRequest key s) := by
  refine onKey_tableKept s _ _ fun i e found => ?_
  split
  · exact .same rfl
  rename_i free
  obtain ⟨settled, idle⟩ := not_or.1 free
  split
  · exact .same rfl
  · rename_i room
    exact (s.giveUp_tableKept .flushed found.2 (by omega) settled fun learned => by simpa [learned] using room).then rfl

/-- A fourth way of a set is never pinned (R162). -/
theorem pinRecipeRequest_tableKept (key : Key) : TableKept s (pinRecipeRequest key s) := by
  refine onKey_tableKept s _ _ fun i e ⟨found, entry⟩ => ?_
  split
  · exact .same rfl
  split
  · exact .same rfl
  rename_i few
  refine (s.rewrite_tableKept (y := { e with pinned := true }) entry rfl rfl .rfl id fun sound set => ?_).then rfl
  refine (s.recipes.put_pinnedWays i _ set).trans ?_
  split
  · rename_i own
    have home := mem_waysOf.1 (RecipeTable.keySearch_found found).1
    have same : set = setOf key := Fin.ext ((mem_waysOf.1 own).symm.trans home)
    rw [same]
    omega
  · exact sound.pins set

theorem unpinRecipeRequest_tableKept (key : Key) : TableKept s (unpinRecipeRequest key s) :=
  onKey_tableKept s _ _ fun _ e found =>
    (s.rewrite_unpinned (y := { e with pinned := false }) found.2 rfl rfl .rfl id nofun).then rfl

/-- A window out of use may be set to a body in range (R164). -/
theorem setWindowRequest_tableKept (window enable : Nat) (base mask : BitVec 16) (body : Body) :
    TableKept s (setWindowRequest window enable base mask body s) := by
  unfold setWindowRequest
  split
  · exact .same rfl
  rename_i w _
  split
  · rename_i ok
    split
    · exact .same rfl
    · rename_i idle
      intro h
      have windows : ∀ v : Fin 2, (s.recipes.windows.set w ⟨enable == 1, base, mask, body, 0⟩)[v] =
          if w = v then ⟨enable == 1, base, mask, body, 0⟩ else s.recipes.windows[v] := fun v => by
        simp only [Fin.getElem_fin, Vector.getElem_set, Fin.ext_iff]
      refine ⟨h.retable ⟨h.sound.fits, h.sound.distinct, h.sound.pins, fun v => ?_, h.sound.room, h.sound.writebacks⟩
        (fun ref => ?_) fun r loadable _ => ?_, h.wanted.of_same rfl rfl⟩
      · show Window.Usable (s.recipes.windows.set w _)[v]
        rw [windows]
        split
        · exact fun _ => (Bool.and_eq_true_iff.1 ok).2
        · exact h.sound.windows v
      · match ref with
        | .entry i => rfl
        | .window v =>
          show (s.recipes.windows.set w _)[v].useCount = s.recipes.windows[v].useCount
          rw [windows]
          split
          · rename_i same; subst same; exact (Nat.eq_zero_of_not_pos idle).symm
          · rfl
      · match r with
        | .noRecipe => cases loadable
        | .recipe (.entry _) => exact loadable
        | .recipe (.window _) => rfl
  · exact .same rfl

theorem takeWritebacksRequest_tableKept : TableKept s (takeWritebacksRequest s) := by
  intro h
  refine ⟨h.retable ⟨h.sound.fits, h.sound.distinct, h.sound.pins, h.sound.windows, ?_, ?_⟩
    (fun ref => by cases ref <;> rfl) fun r loadable _ => ?_, h.wanted.of_same rfl rfl⟩
  · exact (List.drop_sublist _ _).length_le.trans h.sound.room
  · exact h.sound.writebacks.sublist ((List.drop_sublist _ _).map _)
  · match r with
    | .noRecipe => cases loadable
    | .recipe (.entry _) => exact loadable
    | .recipe (.window _) => rfl

theorem requestWritebackRequest_tableKept (key : Key) : TableKept s (requestWritebackRequest key s) := by
  refine onKey_tableKept s _ _ fun i e ⟨_, entry⟩ => ?_
  split
  · exact .same rfl
  rename_i learned
  have learned : e.state = .learned := not_not.1 learned
  have settled : e.state ≠ .pending := by rw [learned]; nofun
  split
  · exact .same rfl
  · rename_i room
    refine ((s.handOver_tableKept (w := e.record .requested)
        (show canTake s.recipes.writebacks e.key = true by simpa using room)).trans
      (State.rewrite_unpinned _ (y := { e with state := .valid }) entry rfl rfl (iff_of_false nofun settled)
        (fun range => ?_) id)).then rfl
    exact (Entry.inRange_settled (e := { e with state := .valid }) nofun).2 ((Entry.inRange_settled settled).1 range)

/-- Every request keeps the laws of the ledger. -/
theorem takeRequest_tableKept (ordered : RingInOrder s) (i : Instr) : TableKept s (takeRequest i s) := by
  have accepted : ∀ (t : State) (d : List (BitVec 8)), (t.accept d).ledger = t.ledger := fun _ _ => rfl
  cases i
  case start => exact startRequest_tableKept s
  case stop => exact stopRequest_tableKept s
  case hold => exact holdRequest_tableKept s
  case resume => exact resumeRequest_tableKept s
  case drain => exact drainRequest_tableKept s
  case purge => exact purgeRequest_tableKept s
  case declareEmpty => exact declareEmptyRequest_tableKept s
  case readTrain => exact readTrainRequest_tableKept s _ _
  case setZone => exact setZoneRequest_tableKept s _ _ _ _ _ _
  case readZone => exact onZone_tableKept s _ _ fun z => rfl
  case enableZone => exact enableZoneRequest_tableKept s _
  case disableZone => exact disableZoneRequest_tableKept s _
  case pauseZone => exact pauseZoneRequest_tableKept s _
  case continueZone => exact continueZoneRequest_tableKept s _
  case doseZone => exact doseZoneRequest_tableKept s _
  case powerOn => exact powerOnRequest_tableKept s
  case powerContinue => exact powerContinueRequest_tableKept s
  case postOrder => exact postOrderRequest_tableKept s ordered _ _ _ _ _
  case withdraw => exact withdrawRequest_tableKept s _
  case readOrders => exact readOrdersRequest_tableKept s _ _
  case reclaim => exact reclaimRequest_tableKept s _
  case loadRecipe => exact loadRecipeRequest_tableKept s _ _ _ _
  case readRecipe => exact readRecipeRequest_tableKept s _
  case flushRecipe => exact flushRecipeRequest_tableKept s _
  case flushUnpinned => exact s.sweep_tableKept.then (accepted _ _)
  case pinRecipe => exact pinRecipeRequest_tableKept s _
  case unpinRecipe => exact unpinRecipeRequest_tableKept s _
  case setWindow => exact setWindowRequest_tableKept s _ _ _ _ _
  case takeWritebacks => exact takeWritebacksRequest_tableKept s
  case requestWriteback => exact requestWritebackRequest_tableKept s _
  case enableAttention | disableAttention | clearAttention => exact onSet_tableKept s _ _
  case selectCounter => exact selectCounterRequest_tableKept s _ _
  case writeSetting => exact writeSettingRequest_tableKept s _ _
  case writeProfile => exact writeProfileRequest_tableKept s _
  case readLine | powerOff | powerPause | readWants | readAttention | readCounters | readSettings | identify |
    restart => exact .same rfl
  all_goals exact .refl s

end

end Sys2Proof.Machine
end

section
/-! PROOF. Every event and every step keeps the laws of the recipe table (O59). -/

namespace Sys2Proof.Machine

set_option Elab.async false

section
variable (s : State)

/-! ### Events of the converter and the guards -/

/-- PRESS_READY set to its level, behind what keeps the laws of the ledger. -/
theorem TableKept.settle {s t : State} (k : TableKept s t) : TableKept s t.settle := k.then rfl

theorem sliceDone_tableKept (sequence : BitVec 8) (energy : Nat) : TableKept s (sliceDone sequence energy s) := by
  unfold sliceDone
  split
  · rename_i x _
    have decided := State.decideZone_ledger ((s.closeSlice x (min energy x.eset)).count .sliceCompleted) x.zone x.forced
    refine TableKept.settle ((State.chooseIfReported_tableKept _ s).after (decided.trans ?_))
    exact s.closeSlice_ledger x _
  · exact .refl s

theorem sliceFault_tableKept (sequence : BitVec 8) (energy : Nat) : TableKept s (sliceFault sequence energy s) := by
  unfold sliceFault
  split
  · exact s.supplyLoss_tableKept _
  · exact .refl s

theorem convReadyFall_tableKept : TableKept s (convReadyFall s) := by
  unfold convReadyFall
  dsimp only
  split
  · exact (State.supplyLoss_tableKept { s with pins.convReady := false } _).after rfl
  · exact .same rfl

theorem sliceTimerExpiry_tableKept : TableKept s (sliceTimerExpiry s) := by
  unfold sliceTimerExpiry
  split
  · split
    · exact (State.supplyLoss_tableKept (s.send _) _).after rfl
    · exact .refl s
  · exact .refl s

theorem State.cancelForHalt_ledger (z : Fin 6) : (s.cancelForHalt z).ledger = s.ledger := by
  unfold State.cancelForHalt
  split
  · rfl
  · dsimp only
    split <;> rfl

theorem State.haltZone_ledger (z : Fin 6) : (s.haltZone z).ledger = s.ledger := State.raiseIf_ledger _ _ _

theorem guardAsserted_tableKept (zone : Nat) : TableKept s (guardAsserted zone s) := by
  unfold guardAsserted
  split
  · exact .refl s
  · rename_i z _
    dsimp only
    split
    iterate 3 exact .same ((s.setGuard z true).haltZone_ledger z)
    · exact .same ((s.setGuard z true).cancelForHalt_ledger z)
    iterate 2 exact .same rfl

theorem guardNegated_tableKept (zone : Nat) : TableKept s (guardNegated zone s) := by
  unfold guardNegated
  split
  · exact .refl s
  · exact .same rfl

/-! ### Events of the tracker -/

/-- A reading corrects the exit record under its bond, and its recipe may learn from it (R21, R26). -/
theorem pyroTemperatureMessage_tableKept (value : Nat) : TableKept s (pyroTemperatureMessage value s) := by
  unfold pyroTemperatureMessage
  split
  · exact .refl s
  rename_i r awaiting
  obtain ⟨exit, -, -⟩ := State.awaiting_eq_some_iff.1 awaiting
  have bond : (corrected (s.bodyOf r) s.settings.ambient (min value 25600) (s.updated r)).bond = r.bond := by
    obtain ⟨tm, sx, holdTime, aged, shape⟩ := s.updated_shape r
    rw [shape]
    rfl
  dsimp only
  refine TableKept.settle (TableKept.trans ?_ (State.choose_tableKept _))
  generalize corrected (s.bodyOf r) s.settings.ambient (min value 25600) (s.updated r) = judged at *
  let stopped : State := { s with tracker.readingTimer := none }
  have same : (stopped.updateExit fun _ => judged).ledger = s.ledger := stopped.updateExit_ledger fun x at12 => by
    rw [Option.some.inj (at12.symm.trans exit)]
    exact bond
  have mem : judged ∈ (stopped.updateExit fun _ => judged).tracker.train := by
    rw [State.updateExit_of_exit (s := stopped) exit]
    exact List.mem_cons_self
  exact (State.learnFrom_tableKept (State.reportExit _) mem rfl _ _).after same

theorem readingTimerExpiry_tableKept : TableKept s (readingTimerExpiry s) := by
  unfold readingTimerExpiry
  split
  · dsimp only
    split
    · split
      · have judged := State.updateExit_ledger { s with tracker.readingTimer := none }
          (f := fun r => { r with verdict := .rejectUnmeasured }) fun _ _ => rfl
        exact TableKept.settle ((State.choose_tableKept (State.reportExit _)).after judged)
      · exact .same rfl
    · exact .same rfl
  · exact .refl s

theorem surveyTimerExpiry_tableKept : TableKept s (surveyTimerExpiry s) := by
  unfold surveyTimerExpiry
  split
  · dsimp only
    refine TableKept.settle ((State.chooseIfReported_tableKept _ s).after ?_)
    refine (State.grant_ledger _).trans (Eq.trans (b := State.ledger (State.evaluateAll _)) rfl ?_)
    exact (State.evaluateAll_ledger _).trans ((State.recheckExit_ledger _).trans (State.updateTrain_ledger _))
  · exact .refl s

/-! ### Events of the press and of handling -/

theorem pressCall_tableKept : TableKept s (pressCall s) := by
  unfold pressCall
  dsimp only
  split
  · split
    · exact TableKept.settle (.same (State.startExtract_ledger { s with pins.pressCall := true }))
    · exact TableKept.settle ((State.choose_tableKept
        { s with pins.pressCall := true, cadence.pendingCall := true }).after rfl)
  · exact .same rfl

theorem pressStopAsserted_tableKept : TableKept s (pressStopAsserted s) :=
  TableKept.settle ((State.pressStopAsserts_tableKept { s with pins.pressStop := true }).after rfl)

theorem pressStopNegated_tableKept : TableKept s (pressStopNegated s) := by
  unfold pressStopNegated
  dsimp only
  split
  · exact TableKept.settle ((State.afterCauseRemoved_tableKept
      { s with pins.pressStop := false, cadence.holdDelay := none, cadence.pressStop := false } _).after rfl)
  · exact .same rfl

theorem holdDelayExpiry_tableKept : TableKept s (holdDelayExpiry s) := by
  unfold holdDelayExpiry
  split
  · exact TableKept.settle ((State.addPressStop_tableKept { s with cadence.holdDelay := none }).after rfl)
  · exact .refl s

theorem pushDone_tableKept : TableKept s (pushDone s) := by
  unfold pushDone
  split
  · rename_i loaded _
    have completed := (s.endOperation.pushCompleted_tableKept loaded).after (s := s) rfl
    dsimp only
    split
    · exact TableKept.settle (completed.trans (State.purgeNext_tableKept _))
    · exact completed.trans (State.afterCompletion_tableKept _)
  all_goals exact .refl s

theorem extractDone_tableKept : TableKept s (extractDone s) := by
  unfold extractDone
  split
  · exact ((s.endOperation.removeExit_tableKept _).after (s := s) rfl).trans (State.afterCompletion_tableKept _)
  all_goals exact .refl s

theorem divertDone_tableKept : TableKept s (divertDone s) := by
  have gone := fun v => (s.endOperation.removeExit_tableKept v).after (s := s) rfl
  have started : ∀ t : State, (t.startOperation (.push none)).ledger = t.ledger := fun _ => rfl
  unfold divertDone
  split
  · split
    · exact TableKept.settle ((gone _).then (started _))
    · exact (gone _).trans (State.afterCompletion_tableKept _)
  all_goals exact .refl s

theorem handlingTimerExpiry_tableKept : TableKept s (handlingTimerExpiry s) := by
  unfold handlingTimerExpiry
  split
  · split
    · exact s.handlingTimeout_tableKept _
    · exact .refl s
  · exact .refl s

theorem minPushTimerExpiry_tableKept : TableKept s (minPushTimerExpiry s) := by
  unfold minPushTimerExpiry
  split
  · exact TableKept.settle ((State.choose_tableKept { s with cadence.minPush := none }).after rfl)
  · exact .refl s

theorem coldWaitExpiry_tableKept : TableKept s (coldWaitExpiry s) := by
  unfold coldWaitExpiry
  split
  · exact TableKept.settle ((State.choose_tableKept { s with cadence.coldWait := .expired }).after rfl)
  all_goals exact .refl s

theorem batchDelayExpiry_tableKept : TableKept s (batchDelayExpiry s) := by
  unfold batchDelayExpiry
  split
  · dsimp only
    split <;> exact .same rfl
  · exact .refl s

/-! ### The link -/

theorem dispatch_tableKept (ordered : RingInOrder s) (kind : Byte) (payload : List Byte) :
    TableKept s (s.dispatch kind payload) := by
  unfold State.dispatch
  split
  iterate 3 exact .same rfl
  · exact takeRequest_tableKept s ordered _

theorem frameReceived_tableKept (ordered : RingInOrder s) (f : Frame) : TableKept s (frameReceived f s) := by
  have formed : ∀ t : State, (t.formReply f).ledger = t.ledger := by
    intro t
    unfold State.formReply
    split <;> rfl
  unfold frameReceived
  split
  · exact .refl s
  split
  · exact .same rfl
  unfold State.checkFrame
  split
  iterate 2
    · exact .same rfl
    split
  · exact .same rfl
  · refine TableKept.then ?_ (formed _)
    exact (dispatch_tableKept { s.hunt with port.inbound := some f } ordered _ _).after rfl

theorem abandonFrame_tableKept : TableKept s s.abandonFrame := by
  unfold State.abandonFrame
  split <;> exact .same rfl

theorem lengthByteDiscard_tableKept (length : Nat) : TableKept s (lengthByteDiscard length s) := by
  unfold lengthByteDiscard
  split
  · exact abandonFrame_tableKept s
  · exact .refl s

theorem syncByteBeginsFrame_tableKept : TableKept s (syncByteBeginsFrame s) := by
  unfold syncByteBeginsFrame
  split <;> exact .same rfl

theorem replySent_tableKept : TableKept s (replySent s) := by
  rcases replySent_cases s with ⟨-, h⟩ | ⟨-, -, -, -, h⟩ | ⟨-, -, -, h⟩ <;> rw [h]
  · exact .refl s
  · exact s.endReply.restart_tableKept.after rfl
  · exact .same rfl

theorem restartTakesEffect_tableKept : TableKept s (restartTakesEffect s) := by
  unfold restartTakesEffect
  split
  · exact s.restart_tableKept
  · exact .refl s

end

/-! ### Commands and steps -/

/-- Every command keeps the laws of the ledger. -/
theorem exec_tableKept {i : Instr} {s t : State} (ordered : RingInOrder s) (e : exec i s = .next t) : TableKept s t := by
  by_cases request : (encodeRequest i).isSome = true
  · rw [exec_request request s] at e
    cases e
    exact takeRequest_tableKept s ordered i
  cases i
  case frameReceived f => cases e; exact frameReceived_tableKept s ordered f
  case idleGapAbandon | framingErrorAbandon => cases e; exact abandonFrame_tableKept s
  case lengthByteDiscard n => cases e; exact lengthByteDiscard_tableKept s n
  case syncByteBeginsFrame => cases e; exact syncByteBeginsFrame_tableKept s
  case replySent => cases e; exact replySent_tableKept s
  case restartTakesEffect => cases e; exact restartTakesEffect_tableKept s
  case powerOnReset => cases e; exact fun _ => powerOnReset_lawful s
  case sliceDone sequence energy => cases e; exact sliceDone_tableKept s sequence energy
  case sliceFault sequence energy => cases e; exact sliceFault_tableKept s sequence energy
  case convReadyFall => cases e; exact convReadyFall_tableKept s
  case sliceTimerExpiry => cases e; exact sliceTimerExpiry_tableKept s
  case guardAsserted zone => cases e; exact guardAsserted_tableKept s zone
  case guardNegated zone => cases e; exact guardNegated_tableKept s zone
  case pyroTemperatureMessage value => cases e; exact pyroTemperatureMessage_tableKept s value
  case readingTimerExpiry => cases e; exact readingTimerExpiry_tableKept s
  case surveyTimerExpiry => cases e; exact surveyTimerExpiry_tableKept s
  case pressCall => cases e; exact pressCall_tableKept s
  case pressStopAsserted => cases e; exact pressStopAsserted_tableKept s
  case pressStopNegated => cases e; exact pressStopNegated_tableKept s
  case holdDelayExpiry => cases e; exact holdDelayExpiry_tableKept s
  case pushDone => cases e; exact pushDone_tableKept s
  case extractDone => cases e; exact extractDone_tableKept s
  case divertDone => cases e; exact divertDone_tableKept s
  case handlingTimerExpiry => cases e; exact handlingTimerExpiry_tableKept s
  case minPushTimerExpiry => cases e; exact minPushTimerExpiry_tableKept s
  case coldWaitExpiry => cases e; exact coldWaitExpiry_tableKept s
  case batchDelayExpiry => cases e; exact batchDelayExpiry_tableKept s
  case fetchTimeout key => cases e; exact fetchTimeout_tableKept s key
  case convReadyRise | pressCallNegated | pyroNoTarget => cases e; exact .same rfl
  case readRecipe selector => cases selector <;> exact absurd rfl request
  all_goals exact absurd rfl request

/-- Every step keeps the laws of the ledger. -/
theorem step_tableKept {s t : State} (ordered : RingInOrder s) (e : step s = .next t) : TableKept s t := by
  unfold step stepQueue at e
  split at e
  · rename_i rest _
    exact (exec_tableKept (s := { s with pending := rest }) ordered e).after rfl
  unfold idleStep at e
  split at e
  · exact exec_tableKept ordered e
  split at e
  · cases e; exact .same rfl
  unfold State.passTime at e
  split at e
  · cases e; exact .same rfl
  · exact exec_tableKept ordered e

/-- Settles O59: the laws of the table are laws of the ledger (the table, the ring's slots and each record's bond to its
order), and every step leaves the ledger alone or changes it by operations that keep them. -/
theorem tableLawsKept : Obligations.TableLawsKept := fun _ _ column table h =>
  (step_tableKept column.2.1 h (ledger_lawful column table)).tableLaws

end Sys2Proof.Machine
end

section
/-! PROOF. The flush of one recipe, pins and windows (O30, O32). -/

namespace Sys2Proof.Machine

set_option Elab.async false

/-! ### A request that names a key -/

theorem onKey_absent {s : State} {key : Key} (absent : s.recipes.keySearch key = none) (f : Fin 32 → Entry → State) :
    onKey key s f = replied s .notFound [] := by
  unfold onKey
  rw [absent]
  rfl

theorem onKey_found {s : State} {key : Key} {i : Fin 32} {e : Entry} (found : Found s key i e)
    (f : Fin 32 → Entry → State) : onKey key s f = f i e := by
  obtain ⟨search, entry⟩ := found
  unfold onKey
  rw [search]
  dsimp only
  rw [entry]

/-! ### FLUSH RECIPE (R160) -/

theorem State.giveUp_of_learned {s : State} {i : Fin 32} {e : Entry} (cause : Cause)
    (entry : s.recipes.entries[i] = some e) (learned : e.state = .learned) :
    s.giveUp i cause = entrySet (handedOver s ⟨e.key, e.trim, e.learned, cause⟩) i none := by
  unfold State.giveUp
  rw [entry, ← State.handOver_eq]
  exact congrArg (State.setEntry · i none) (if_pos learned)

theorem State.giveUp_of_other {s : State} {i : Fin 32} {e : Entry} (cause : Cause)
    (entry : s.recipes.entries[i] = some e) (other : e.state ≠ .learned) : s.giveUp i cause = entrySet s i none := by
  unfold State.giveUp
  rw [entry]
  exact congrArg (State.setEntry · i none) (if_neg other)

/-- Settles O30: FLUSH RECIPE looks at the use, then at the list's room, and gives the entry up. -/
theorem flushRecipeRemovesEntry : Obligations.FlushRecipeRemovesEntry := by
  intro s key
  have inUse : ∀ {e : Entry}, e.useCount = 0 → e.state ≠ .pending → ¬(e.state = .pending ∨ 0 < e.useCount) :=
    fun idle settled => not_or.2 ⟨settled, by omega⟩
  refine ⟨fun absent => ?absent, fun i e found taken => ?taken, fun i e found idle learned full => ?full,
    fun i e found idle valid => ?valid, fun i e found idle learned room => ?learned⟩
  all_goals
    refine congrArg Host.Outcome.next ?_
    unfold flushRecipeRequest
  case absent => exact onKey_absent absent _
  case taken => rw [onKey_found found, if_pos taken]; rfl
  case full =>
    have free := inUse idle (by rw [learned]; nofun)
    rw [onKey_found found, if_neg free, if_pos ⟨learned, Bool.eq_false_iff.2 (mt (canTake_iff _ _).1 full)⟩]
    rfl
  case valid =>
    have free := inUse idle (by rw [valid]; nofun)
    have other : e.state ≠ .learned := by rw [valid]; nofun
    rw [onKey_found found, if_neg free, if_neg (mt And.left other), State.giveUp_of_other _ found.2 other, valid]
    rfl
  case learned =>
    have free := inUse idle (by rw [learned]; nofun)
    have roomy : ¬(e.state = .learned ∧ canTake s.recipes.writebacks e.key = false) := fun full =>
      Bool.false_ne_true (full.2.symm.trans ((canTake_iff _ _).2 room))
    rw [onKey_found found, if_neg free, if_neg roomy, State.giveUp_of_learned _ found.2 learned, learned]
    rfl

/-! ### PIN RECIPE, UNPIN RECIPE and SET WINDOW (R162 to R164) -/

theorem bodyOk_iff (body : Body) : bodyOk body = true ↔ BodyValuesOk body := decide_eq_true_iff

theorem setWindowRequest_refused {s : State} {window enable : Nat} {base mask : BitVec 16} {body : Body}
    (wrong : 1 < window ∨ 1 < enable ∨ ¬ BodyValuesOk body) :
    setWindowRequest window enable base mask body s = replied s .badValue [] := by
  unfold setWindowRequest windowOf
  by_cases exists_ : window < 2
  · rw [dif_pos exists_]
    have values : ¬(decide (enable ≤ 1) && bodyOk body) = true := by
      rw [Bool.and_eq_true_iff, decide_eq_true_iff, bodyOk_iff]
      omega
    exact if_neg values
  · rw [dif_neg exists_]
    rfl

theorem setWindowRequest_taken {s : State} (w : Fin 2) {enable : Nat} {base mask : BitVec 16} {body : Body}
    (flag : enable ≤ 1) (values : BodyValuesOk body) : setWindowRequest w.val enable base mask body s =
      if 0 < s.recipes.windows[w].useCount then s.refuse .inUse
      else (s.setWindow w ⟨enable == 1, base, mask, body, 0⟩).accept [] := by
  have ok : (decide (enable ≤ 1) && bodyOk body) = true :=
    Bool.and_eq_true_iff.2 ⟨decide_eq_true flag, (bodyOk_iff body).2 values⟩
  unfold setWindowRequest windowOf
  rw [dif_pos w.isLt]
  exact if_pos ok

/-- Settles O32: the checks of each request taken in their order. -/
theorem pinsAndWindows : Obligations.PinsAndWindows := by
  intro s
  refine ⟨fun key absent => ⟨?pinAbsent, ?unpinAbsent⟩,
    fun key i e found => ⟨fun pinned => ?pinned, fun free full => ?full, fun free few => ?pin, ?unpin⟩,
    fun window enable base mask body => ⟨fun wrong => ?wrong, fun w same flag values => ?_⟩⟩
  case pinAbsent | unpinAbsent => exact congrArg Host.Outcome.next (onKey_absent absent _)
  case wrong => exact congrArg Host.Outcome.next (setWindowRequest_refused wrong)
  case unpin => exact congrArg Host.Outcome.next (onKey_found found _)
  case pinned =>
    refine congrArg Host.Outcome.next ((onKey_found found _).trans ?_)
    rw [if_pos pinned]
    rfl
  case full =>
    refine congrArg Host.Outcome.next ((onKey_found found _).trans ?_)
    rw [if_neg (Bool.eq_false_iff.1 free), if_pos full]
    rfl
  case pin =>
    refine congrArg Host.Outcome.next ((onKey_found found _).trans ?_)
    rw [if_neg (Bool.eq_false_iff.1 free), if_neg (Nat.not_le.2 few)]
    rfl
  · subst same
    have taken := setWindowRequest_taken (s := s) w (base := base) (mask := mask) flag values
    refine ⟨fun used => ?_, fun idle => ?_⟩
    · exact congrArg Host.Outcome.next (taken.trans (if_pos used))
    · exact congrArg Host.Outcome.next (taken.trans (if_neg (by omega)))

end Sys2Proof.Machine
end

section
/-! PROOF. LOAD RECIPE (O29). -/

namespace Sys2Proof.Machine

set_option Elab.async false

/-! ### The values of LOAD RECIPE (R156) -/

theorem policyOf_eq (policy : Nat) : policyOf policy = if policy ≤ 1 then some (policyOfCode policy) else none := by
  match policy with
  | 0 | 1 => rfl
  | n + 2 => exact (if_neg (by omega)).symm

theorem recipeValuesOk_iff (body : Body) (trim : Int) (policy : Nat) :
    RecipeValuesOk body trim policy ↔ (bodyOk body && trimOk trim) = true ∧ policy ≤ 1 := by
  rw [Bool.and_eq_true_iff, bodyOk_iff, trimOk, decide_eq_true_iff]
  constructor
  · rintro ⟨values, low, high, known⟩
    exact ⟨⟨values, low, high⟩, known⟩
  · rintro ⟨⟨values, low, high⟩, known⟩
    exact ⟨values, low, high, known⟩

section
variable {s : State} {key : Key} {body : Body} {trim : Int} {policy : Nat}

theorem loadRecipeRequest_refused (wrong : ¬ RecipeValuesOk body trim policy) :
    loadRecipeRequest key body trim policy s = replied s .badValue [] := by
  rw [recipeValuesOk_iff] at wrong
  unfold loadRecipeRequest
  rw [policyOf_eq]
  by_cases known : policy ≤ 1
  · rw [if_pos known]
    exact if_neg fun values => wrong ⟨values, known⟩
  · rw [if_neg known]
    rfl

theorem loadRecipeRequest_present {i : Fin 32} {e : Entry} (ok : RecipeValuesOk body trim policy)
    (found : Found s key i e) : loadRecipeRequest key body trim policy s =
      ((s.loadPresent i e body trim (policyOfCode policy)).afterLoad s).accept
        (put8 i.val ++ put8 e.loadCase ++ put8 (flagBit 0 (e.state == .learned))) := by
  obtain ⟨values, known⟩ := (recipeValuesOk_iff _ _ _).1 ok
  obtain ⟨search, entry⟩ := found
  unfold loadRecipeRequest
  rw [policyOf_eq, if_pos known]
  dsimp only
  rw [if_pos values, search]
  dsimp only
  rw [entry]

theorem loadRecipeRequest_absent {i : Fin 32} (ok : RecipeValuesOk body trim policy)
    (absent : s.recipes.keySearch key = none) (way : s.recipes.wayFor key = some i) :
    loadRecipeRequest key body trim policy s =
      ((s.loadAbsent i key body trim (policyOfCode policy)).afterLoad s).accept (put8 i.val ++ put8 2 ++ put8 0) := by
  obtain ⟨values, known⟩ := (recipeValuesOk_iff _ _ _).1 ok
  unfold loadRecipeRequest
  rw [policyOf_eq, if_pos known]
  dsimp only
  rw [if_pos values, absent]
  dsimp only
  rw [way]

theorem loadRecipeRequest_blocked (ok : RecipeValuesOk body trim policy)
    (absent : s.recipes.keySearch key = none) (blocked : s.recipes.wayFor key = none) :
    loadRecipeRequest key body trim policy s = replied s .tableBlocked [] := by
  obtain ⟨values, known⟩ := (recipeValuesOk_iff _ _ _).1 ok
  unfold loadRecipeRequest
  rw [policyOf_eq, if_pos known]
  dsimp only
  rw [if_pos values, absent]
  dsimp only
  rw [blocked]
  rfl

end

/-! ### What follows a load (R147, R37, R25, R91) -/

/-- A load has changed the recipe table, the attention unit and the counters alone. -/
structure State.Loaded (s t : State) : Prop where
  tracker : t.tracker = s.tracker
  ring    : t.ring = s.ring
  arbiter : t.arbiter = s.arbiter
  cadence : t.cadence = s.cadence
  outside : t.outside = s.outside

theorem State.loadPresent_loaded (s : State) (i : Fin 32) (e : Entry) (body : Body) (trim : Int) (policy : Policy) :
    s.Loaded (s.loadPresent i e body trim policy) := by
  unfold State.loadPresent
  dsimp only
  split <;> exact ⟨rfl, rfl, rfl, rfl, rfl⟩

theorem State.giveUp_outside (s : State) (i : Fin 32) (cause : Cause) : (s.giveUp i cause).outside = s.outside := by
  unfold State.giveUp
  split
  · rw [State.setEntry_outside]
    split
    · exact s.handOver_outside _
    · rfl
  · rfl

theorem State.loadAbsent_loaded (s : State) (i : Fin 32) (key : Key) (body : Body) (trim : Int) (policy : Policy) :
    s.Loaded (s.loadAbsent i key body trim policy) := by
  obtain ⟨-, ring, tracker, arbiter, cadence, -⟩ := s.giveUp_frame i .evicted
  exact ⟨tracker, ring, arbiter, cadence, s.giveUp_outside i .evicted⟩

/-- The replacement counter advanced, demand and readiness evaluated and one grant made: what follows a load before
the choice (R147, R37, R25, R56). -/
def State.loadReported (s : State) : State := s.advanceReplacement.evaluateAll.reportReadiness.grant

theorem State.loadReported_recipes (t : State) : t.loadReported.recipes = t.advanceReplacement.recipes := by
  simp [State.loadReported]

theorem State.Loaded.follows {s t : State} (h : s.Loaded t) : LoadFollows s t.loadReported := by
  have tracker : t.loadReported.tracker = t.advanceReplacement.evaluateAll.tracker := by simp [State.loadReported]
  have recipes : t.loadReported.recipes = t.advanceReplacement.evaluateAll.recipes := by simp [State.loadReported]
  have cadence : t.loadReported.cadence = { s.cadence with
      readiness := t.advanceReplacement.evaluateAll.readinessNow } := by
    simp [State.loadReported, State.reportReadiness, h.cadence]
  have slice : t.advanceReplacement.evaluateAll.reportReadiness.arbiter.slice = s.arbiter.slice := by
    simp [h.arbiter]
  have timer : t.advanceReplacement.evaluateAll.reportReadiness.arbiter.sliceTimer = s.arbiter.sliceTimer := by
    simp [h.arbiter]
  refine ⟨?_, ?_, ?_, ?_, ?_, State.grant_noGrantDue _, ?_, sliceKept_grant slice timer, fun _ => ⟨?_, ?_⟩⟩
  · rw [TrainIs, tracker]; simp [h.tracker]
  · rw [tracker]; simp [h.tracker]
  · rw [cadence]
  · rw [ReadinessKnown, cadence, State.readinessNow_of_trainIs (by rw [TrainIs, tracker]) recipes]
  · exact State.grant_demandEvaluated (t.advanceReplacement.evaluateAll_demandEvaluated)
  · exact sameOutside_of_outside (Eq.trans (by simp [State.loadReported]; rfl) h.outside)
  · rw [cadence]
  · simp [State.loadReported, h.ring]

/-- What follows a load, the choice leaves so. -/
theorem LoadFollows.choose {s u : State} (h : LoadFollows s u) : LoadFollows s u.choose := by
  obtain ⟨train, line, state, readiness, demand, noGrant, outside, slice, busy⟩ := h
  obtain ⟨-, recipes', arbiter, -, -, -, -, state', -, -, readiness', -, line', -, -⟩ := u.choose_frame
  refine ⟨u.choose_trainIs.trans train, line'.trans line, state'.trans state, ?_,
    State.choose_demandEvaluated demand, ?_, ?_, ?_, fun inFlight => ?_⟩
  · exact readiness'.trans (readiness.trans (State.readinessNow_of_trainIs u.choose_trainIs recipes').symm)
  · rw [NoGrantDue, arbiter]; exact noGrant
  · exact sameOutside_of_outside (u.choose_outside.trans (sameOutside_iff.1 outside))
  · rw [SliceKept, arbiter]; exact slice
  · rw [State.choose_busy (by rw [(busy inFlight).1]; exact inFlight)]
    exact busy inFlight

/-- PRESS_READY and the reply are no part of what follows a load. -/
theorem LoadFollows.accept {s u : State} (h : LoadFollows s u) (data : List Byte) :
    LoadFollows s (u.settle.accept data) := h

/-- After a load the table is as the load and the replacement counter leave it, and all else follows (R37, R147). -/
theorem State.Loaded.afterLoad {s t : State} (h : s.Loaded t) (data : List Byte) :
    ((t.afterLoad s).accept data).recipes = t.advanceReplacement.recipes ∧
    LoadFollows s ((t.afterLoad s).accept data) := by
  have chosen : LoadFollows s (t.loadReported.chooseIfReported s) ∧
      (t.loadReported.chooseIfReported s).recipes = t.loadReported.recipes := by
    unfold State.chooseIfReported
    split
    · exact ⟨h.follows, rfl⟩
    · exact ⟨h.follows.choose, t.loadReported.choose_frame.2.1⟩
  have parts : t.afterLoad s = (t.loadReported.chooseIfReported s).settle := rfl
  rw [parts]
  generalize t.loadReported.chooseIfReported s = u at chosen
  exact ⟨chosen.2.trans t.loadReported_recipes, chosen.1.accept data⟩

/-! ### The table after a load -/

theorem State.loadPresent_recipes (s : State) (i : Fin 32) (e : Entry) (body : Body) (trim : Int) (policy : Nat) :
    (s.loadPresent i e body trim (policyOfCode policy)).advanceReplacement.recipes =
      tableFilled s.recipes i e body trim policy := by
  unfold State.loadPresent tableFilled
  by_cases pending : e.state = .pending
  · have wants : s.recipes.wants.filter (fun w => w.entry != i) = s.recipes.wants.filter (fun w => w.entry ≠ i) :=
      List.filter_congr fun w _ => by simp [bne, beq_eq_decide]
    rw [if_pos pending, if_pos pending, ← wants]
    rfl
  · rw [if_neg pending, if_neg pending]
    rfl

theorem State.loadAbsent_recipes (s : State) (i : Fin 32) (key : Key) (body : Body) (trim : Int) (policy : Nat) :
    (s.loadAbsent i key body trim (policyOfCode policy)).advanceReplacement.recipes =
      tableLoaded (evicted s i).recipes i key body trim policy := by
  unfold State.loadAbsent
  rw [State.giveUp_evicted, State.setEntry_setEntry]
  rfl

/-- Settles O29: a load changes the table alone, and what follows it the choice keeps. -/
theorem loadRecipeFillsEntry : Obligations.LoadRecipeFillsEntry := by
  refine fun s key body trim policy => ⟨fun i e ok found => ?_, fun i ok absent way => ?_,
    fun ok absent blocked => congrArg Host.Outcome.next (loadRecipeRequest_blocked ok absent blocked),
    fun wrong => congrArg Host.Outcome.next (loadRecipeRequest_refused wrong)⟩
  · obtain ⟨recipes, follows⟩ := (s.loadPresent_loaded i e body trim (policyOfCode policy)).afterLoad
      (put8 i.val ++ put8 e.loadCase ++ put8 (flagBit 0 (e.state == .learned)))
    refine ⟨_, congrArg Host.Outcome.next (loadRecipeRequest_present ok found),
      recipes.trans (s.loadPresent_recipes i e body trim policy), follows, ?_⟩
    unfold Entry.loadCase
    cases e.state <;> rfl
  · obtain ⟨recipes, follows⟩ := (s.loadAbsent_loaded i key body trim (policyOfCode policy)).afterLoad
      (put8 i.val ++ put8 2 ++ put8 0)
    exact ⟨_, congrArg Host.Outcome.next (loadRecipeRequest_absent ok absent way),
      recipes.trans (s.loadAbsent_recipes i key body trim policy), follows, rfl⟩

end Sys2Proof.Machine
end

section
/-! SUPPORT. Records handed over one after another (O31). -/

namespace Sys2Proof.Machine

set_option Elab.async false

theorem length_le_listAfter (list : List WritebackRecord) (x : WritebackRecord) :
    list.length ≤ (listAfter list x).length := by
  unfold listAfter
  split <;> simp

theorem mem_listAfter_self (list : List WritebackRecord) (x : WritebackRecord) : x ∈ listAfter list x := by
  unfold listAfter
  split
  · rename_i present
    obtain ⟨r, mem, key⟩ := List.mem_map.1 present
    exact List.mem_map.2 ⟨r, mem, if_pos key⟩
  · exact List.mem_append_right _ List.mem_cons_self

/-- A hand-over leaves the records of other keys in the list (R173). -/
theorem mem_listAfter_of_ne {list : List WritebackRecord} {x r : WritebackRecord} (mem : r ∈ list) (other : r.key ≠ x.key) :
    r ∈ listAfter list x := by
  unfold listAfter
  split
  · exact List.mem_map.2 ⟨r, mem, if_neg other⟩
  · exact List.mem_append_left _ mem

/-- Records of distinct keys handed over one after another all stand in the list. -/
theorem mem_foldl_listAfter {rs : List WritebackRecord} (distinct : (rs.map WritebackRecord.key).Nodup)
    {list : List WritebackRecord} {r : WritebackRecord} (mem : r ∈ rs ∨ r ∈ list ∧ r.key ∉ rs.map WritebackRecord.key) :
    r ∈ rs.foldl listAfter list := by
  induction rs generalizing list with
  | nil => exact (mem.resolve_left List.not_mem_nil).1
  | cons x rest ih =>
    obtain ⟨fresh, distinct⟩ := List.nodup_cons.1 distinct
    refine ih distinct ?_
    rcases mem with new | ⟨old, absent⟩
    · rcases List.mem_cons.1 new with rfl | later
      · exact .inr ⟨mem_listAfter_self _ _, fresh⟩
      · exact .inl later
    · obtain ⟨other, absent⟩ := not_or.1 (mt List.mem_cons.2 absent)
      exact .inr ⟨mem_listAfter_of_ne old other, absent⟩

/-- What a row of hand-overs leaves: the list, WRITEBACK and event 15 for each record, and, but for the table's
entries, nothing else (R173). -/
structure HandedAll (rs : List WritebackRecord) (s t : State) : Prop where
  list      : t.recipes.writebacks = rs.foldl listAfter s.recipes.writebacks
  attention : t.attention =
    ⟨s.attention.pending ||| (if rs = [] then 0#11 else 0b100000#11), s.attention.enabled⟩
  counters  : t.counters = s.counters.mapIdx (fun _ c =>
    if c.selection = 15 then { c with count := c.count + BitVec.ofNat 32 rs.length } else c)
  table     : t.recipes = { s.recipes with entries := t.recipes.entries, writebacks := t.recipes.writebacks }
  frame     : t = { s with
    recipes := t.recipes, attention := t.attention, counters := t.counters
    pins := { s.pins with alert := t.pins.alert } }

theorem handedAll_nil (s : State) : HandedAll [] s s where
  list := rfl
  attention := by simp
  counters := by ext k : 1; simp
  table := rfl
  frame := rfl

theorem handedAll_cons {x : WritebackRecord} {rs : List WritebackRecord} {s t : State}
    (h : HandedAll rs (handedOver s x) t) : HandedAll (x :: rs) s t where
  list := h.list
  attention := by
    rw [h.attention]
    show Attention.mk (s.attention.pending ||| 0b100000#11 ||| _) _ = _
    have enabled : (handedOver s x).attention.enabled = s.attention.enabled := rfl
    split <;> simp [BitVec.or_assoc, enabled]
  counters := by
    have total : ∀ c : BitVec 32, c + 1 + BitVec.ofNat 32 rs.length = c + BitVec.ofNat 32 (rs.length + 1) := fun c => by
      rw [BitVec.add_assoc, Nat.add_comm rs.length, BitVec.ofNat_add]
      rfl
    rw [h.counters]
    show (s.counters.mapIdx _).mapIdx _ = _
    ext k : 1
    simp only [Vector.getElem_mapIdx, List.length_cons]
    by_cases selected : s.counters[k].selection = 15
    · simp only [if_pos selected]
      exact congrArg (Counter.mk _) (total _)
    · simp only [if_neg selected]
  table := h.table.trans rfl
  frame := h.frame.trans rfl

theorem handedAll_foldl (rs : List WritebackRecord) (s : State) : HandedAll rs s (rs.foldl handedOver s) := by
  induction rs generalizing s with
  | nil => exact handedAll_nil s
  | cons x rest ih => exact handedAll_cons (ih (handedOver s x))

/-- The state with all table entries replaced. -/
def State.withEntries (s : State) (entries : Vector (Option Entry) 32) : State := { s with recipes.entries := entries }

theorem HandedAll.withEntries {rs : List WritebackRecord} {s t : State} (h : HandedAll rs s t)
    (entries : Vector (Option Entry) 32) : HandedAll rs s (t.withEntries entries) where
  list := h.list
  attention := h.attention
  counters := h.counters
  table := congrArg (fun r : RecipeTable => { r with entries := entries }) h.table
  frame := congrArg (fun u : State => u.withEntries entries) h.frame

/-- Hand-overs do not read the entries. -/
theorem foldl_handedOver_withEntries (rs : List WritebackRecord) (s : State) (entries : Vector (Option Entry) 32) :
    rs.foldl handedOver (s.withEntries entries) = (rs.foldl handedOver s).withEntries entries := by
  induction rs generalizing s with
  | nil => rfl
  | cons x rest ih => exact ih (handedOver s x)

end Sys2Proof.Machine
end

section
/-! PROOF. The sweep of FLUSH UNPINNED (O31). -/

namespace Sys2Proof.Machine

set_option Elab.async false

/-! ### What becomes of an entry -/

/-- The record that an entry of the sweep hands over, from what its index held and what it holds (R161). -/
def sweptRecord (old new : Option Entry) : Option WritebackRecord :=
  if new.isNone then
    match old with
    | some e => if e.state = .learned then some ⟨e.key, e.trim, e.learned, .flushed⟩ else none
    | none => none
  else none

theorem sweptRecords_eq (s t : State) : sweptRecords s t =
    (List.finRange 32).filterMap fun i => sweptRecord s.recipes.entries[i] t.recipes.entries[i] := rfl

theorem sweptRecord_same (x : Option Entry) : sweptRecord x x = none := by
  cases x <;> rfl

theorem sweptRecord_gone (e : Entry) : sweptRecord (some e) none =
    if e.state = .learned then some ⟨e.key, e.trim, e.learned, .flushed⟩ else none := rfl

theorem sweptRecord_key {old new : Option Entry} {k : Key}
    (swept : (sweptRecord old new).map WritebackRecord.key = some k) : ∃ e, old = some e ∧ e.key = k := by
  unfold sweptRecord at swept
  split at swept
  · split at swept
    · rename_i e
      split at swept
      · exact ⟨e, rfl, Option.some.inj swept⟩
      · cases swept
    · cases swept
  · cases swept

/-- An entry that the sweep has looked at: it stands as it was, and if it is flushable it is LEARNED and met a full
list; or it is flushable and gone (R161). -/
def SweepFate (old new : Option Entry) (listed : Nat) : Prop :=
  new = old ∧ (∀ e, old = some e → Flushable e → e.state = .learned ∧ 8 ≤ listed) ∨
  new = none ∧ ∃ e, old = some e ∧ Flushable e

theorem SweepFate.mono {old new : Option Entry} {listed later : Nat} (h : SweepFate old new listed)
    (longer : listed ≤ later) : SweepFate old new later :=
  h.imp_left fun ⟨same, full⟩ => ⟨same, fun e entry flushable =>
    ⟨(full e entry flushable).1, (full e entry flushable).2.trans longer⟩⟩

/-! ### One entry of the sweep -/

theorem not_flushable_iff (e : Entry) : ¬ Flushable e ↔ e.state = .pending ∨ e.pinned = true ∨ 0 < e.useCount := by
  simp only [Flushable, not_and_or, not_not, Bool.not_eq_false, Nat.pos_iff_ne_zero]

/-- The cases of one entry: passed over, skipped for want of room, or given up (R161). -/
theorem sweepEntry_cases (x : State × Nat × Nat) (i : Fin 32) :
    ((∀ e, x.1.recipes.entries[i] = some e → ¬ Flushable e) ∧ sweepEntry x i = x) ∨
    (∃ e, x.1.recipes.entries[i] = some e ∧ Flushable e ∧ e.state = .learned ∧
      8 ≤ x.1.recipes.writebacks.length ∧ sweepEntry x i = (x.1, x.2.1, x.2.2 + 1)) ∨
    (∃ e, x.1.recipes.entries[i] = some e ∧ Flushable e ∧
      sweepEntry x i = (x.1.giveUp i .flushed, x.2.1 + 1, x.2.2)) := by
  unfold sweepEntry
  dsimp only
  split
  · rename_i empty
    exact .inl ⟨fun e entry => (nomatch empty.symm.trans entry), rfl⟩
  rename_i e entry
  split
  · rename_i passed
    refine .inl ⟨fun f again => ?_, rfl⟩
    rw [Option.some.inj (again.symm.trans entry)]
    exact (not_flushable_iff e).2 passed
  · rename_i taken
    have flushable : Flushable e := not_not.1 (mt (not_flushable_iff e).1 taken)
    split
    · rename_i full
      obtain ⟨learned, full⟩ := full
      have long := (not_or.1 (mt (canTake_iff _ _).2 (Bool.eq_false_iff.1 full))).1
      exact .inr (.inl ⟨e, entry, flushable, learned, by omega, rfl⟩)
    · exact .inr (.inr ⟨e, entry, flushable, rfl⟩)

/-- An entry given up by the sweep hands its record over, if it is LEARNED, and goes. -/
theorem State.giveUp_swept {s : State} {i : Fin 32} {e : Entry} (entry : s.recipes.entries[i] = some e) :
    s.giveUp i .flushed = ((sweptRecord (some e) none).toList.foldl handedOver s).withEntries
      (s.giveUp i .flushed).recipes.entries := by
  rw [sweptRecord_gone]
  by_cases learned : e.state = .learned
  · rw [if_pos learned, State.giveUp_of_learned _ entry learned]
    rfl
  · rw [if_neg learned, State.giveUp_of_other _ entry learned]
    rfl

/-! ### The sweep over the entries -/

/-- What the sweep of the entries `done` leaves of a state. -/
structure Swept (s : State) (done : List (Fin 32)) (x : State × Nat × Nat) : Prop where
  before  : ∀ i, i ∉ done → x.1.recipes.entries[i] = s.recipes.entries[i]
  fate    : ∀ i ∈ done, SweepFate s.recipes.entries[i] x.1.recipes.entries[i] x.1.recipes.writebacks.length
  state   : x.1 = ((done.filterMap fun i => sweptRecord s.recipes.entries[i] x.1.recipes.entries[i]).foldl
    handedOver s).withEntries x.1.recipes.entries
  flushed : x.2.1 = done.countP fun i => s.recipes.entries[i].isSome && x.1.recipes.entries[i].isNone
  skipped : x.2.2 = done.countP fun i => x.1.recipes.entries[i].any fun e => decide (Flushable e)

theorem swept_nil (s : State) : Swept s [] (s, 0, 0) := ⟨fun _ _ => rfl, nofun, rfl, rfl, rfl⟩

/-- The sweep goes on by one entry. -/
theorem Swept.extend {s : State} {done : List (Fin 32)} {x y : State × Nat × Nat} {i : Fin 32} (h : Swept s done x)
    (fresh : i ∉ done) (others : ∀ j, i ≠ j → y.1.recipes.entries[j] = x.1.recipes.entries[j])
    (state : y.1 = ((sweptRecord s.recipes.entries[i] y.1.recipes.entries[i]).toList.foldl
      handedOver x.1).withEntries y.1.recipes.entries)
    (fate : SweepFate s.recipes.entries[i] y.1.recipes.entries[i] y.1.recipes.writebacks.length)
    (flushed : y.2.1 = x.2.1 + if s.recipes.entries[i].isSome && y.1.recipes.entries[i].isNone then 1 else 0)
    (skipped : y.2.2 = x.2.2 + if y.1.recipes.entries[i].any (fun e => decide (Flushable e)) then 1 else 0) :
    Swept s (done ++ [i]) y := by
  have old : ∀ j ∈ done, y.1.recipes.entries[j] = x.1.recipes.entries[j] := fun j mem =>
    others j fun same => fresh (same ▸ mem)
  have longer : x.1.recipes.writebacks.length ≤ y.1.recipes.writebacks.length := by
    rw [state]
    cases sweptRecord s.recipes.entries[i] y.1.recipes.entries[i] with
    | none => exact Nat.le_refl _
    | some r => exact length_le_listAfter _ r
  refine ⟨fun j absent => ?_, fun j mem => ?_, ?_, ?_, ?_⟩
  · obtain ⟨absent, other⟩ := not_or.1 (mt List.mem_append.2 absent)
    exact (others j fun same => other (same ▸ List.mem_singleton_self i)).trans (h.before j absent)
  · rcases List.mem_append.1 mem with earlier | last
    · rw [old j earlier]
      exact (h.fate j earlier).mono longer
    · rw [List.mem_singleton.1 last]
      exact fate
  · have records : (done.filterMap fun j => sweptRecord s.recipes.entries[j] y.1.recipes.entries[j]) =
        done.filterMap fun j => sweptRecord s.recipes.entries[j] x.1.recipes.entries[j] :=
      List.filterMap_congr fun j mem => by rw [old j mem]
    have last : ∀ f : Fin 32 → Option WritebackRecord, [i].filterMap f = (f i).toList := fun f => by
      cases taken : f i <;> simp [taken]
    rw [List.filterMap_append, records, List.foldl_append, last]
    refine state.trans ((congrArg (fun t => (List.foldl handedOver t _).withEntries _) h.state).trans ?_)
    rw [foldl_handedOver_withEntries]
    rfl
  · rw [List.countP_append, List.countP_singleton, flushed, h.flushed]
    congr 1
    exact List.countP_congr fun j mem => by rw [old j mem]
  · rw [List.countP_append, List.countP_singleton, skipped, h.skipped]
    congr 1
    exact List.countP_congr fun j mem => by rw [old j mem]

/-- The sweep goes on by an entry that stands. -/
theorem Swept.stand {s : State} {done : List (Fin 32)} {x : State × Nat × Nat} {i : Fin 32} (h : Swept s done x)
    (fresh : i ∉ done) {skipped : Nat}
    (full : ∀ e, s.recipes.entries[i] = some e → Flushable e → e.state = .learned ∧ 8 ≤ x.1.recipes.writebacks.length)
    (count : skipped = x.2.2 + if x.1.recipes.entries[i].any (fun e => decide (Flushable e)) then 1 else 0) :
    Swept s (done ++ [i]) (x.1, x.2.1, skipped) := by
  have here := h.before i fresh
  refine h.extend fresh (fun _ _ => rfl) ?_ (.inl ⟨here, full⟩) ?_ count
  · dsimp only
    rw [here, sweptRecord_same]
    rfl
  · dsimp only
    rw [here]
    cases s.recipes.entries[i] <;> rfl

theorem Swept.step {s : State} {done : List (Fin 32)} {x : State × Nat × Nat} {i : Fin 32} (h : Swept s done x)
    (fresh : i ∉ done) : Swept s (done ++ [i]) (sweepEntry x i) := by
  have here := h.before i fresh
  rcases sweepEntry_cases x i with ⟨passed, same⟩ | ⟨e, entry, flushable, learned, long, same⟩ |
    ⟨e, entry, flushable, same⟩ <;> rw [same]
  · refine h.stand fresh (fun e entry flushable => absurd flushable (passed e (here.trans entry))) ?_
    cases entry : x.1.recipes.entries[i] with
    | none => rfl
    | some e => simp [passed e entry]
  · refine h.stand fresh (fun f again _ => ?_) ?_
    · rw [Option.some.inj (again.symm.trans (here.symm.trans entry))]
      exact ⟨learned, long⟩
    · simp only [entry, Option.any_some, decide_eq_true flushable, if_true]
  · have gone : (x.1.giveUp i .flushed).recipes.entries[i] = none := by rw [State.giveUp_entries, if_pos rfl]
    have held := here.symm.trans entry
    refine h.extend fresh (fun j other => by rw [State.giveUp_entries, if_neg other]) ?_ (.inr ⟨gone, e, held, flushable⟩)
      ?_ ?_
    · dsimp only
      rw [gone, held]
      exact State.giveUp_swept entry
    · simp only [gone, held, Option.isSome_some, Option.isNone_none, Bool.and_self, if_true]
    · simp only [gone, Option.any_none, Bool.false_eq_true, if_false, Nat.add_zero]

theorem foldl_sweepEntry_swept {s : State} {done : List (Fin 32)} (left : List (Fin 32)) {x : State × Nat × Nat}
    (once : (done ++ left).Nodup) (h : Swept s done x) : Swept s (done ++ left) (left.foldl sweepEntry x) := by
  induction left generalizing done x with
  | nil => rwa [List.append_nil]
  | cons i rest ih =>
    rw [List.append_cons] at once ⊢
    have fresh : i ∉ done := fun mem =>
      (List.nodup_append.1 (List.nodup_append.1 once).1).2.2 i mem i List.mem_cons_self rfl
    exact ih once (h.step fresh)

/-- The sweep looks at every entry once (R161). -/
theorem State.sweep_swept (s : State) : Swept s (List.finRange 32) s.sweep :=
  foldl_sweepEntry_swept (done := []) (List.finRange 32) (List.nodup_finRange 32) (swept_nil s)

/-! ### What the sweep leaves -/

/-- With every key in the table once, the records handed over have distinct keys. -/
theorem sweptRecords_distinct {s : State} (keys : KeysInSets s) (t : State) :
    ((sweptRecords s t).map WritebackRecord.key).Nodup := by
  obtain ⟨-, distinct⟩ := (keysInSets_iff s).1 keys
  rw [sweptRecords_eq, List.map_filterMap]
  refine (List.nodup_finRange 32).filterMap fun i j k first second => ?_
  obtain ⟨e, entry, key⟩ := sweptRecord_key first
  obtain ⟨f, other, same⟩ := sweptRecord_key second
  exact distinct i j e f entry other (key.trans same.symm)

/-- A LEARNED entry gone has its record in the list, if every key stands in the table once (R173). -/
theorem mem_sweptList {s t : State} {i : Fin 32} {e : Entry} (keys : KeysInSets s)
    (entry : s.recipes.entries[i] = some e) (learned : e.state = .learned) (gone : t.recipes.entries[i] = none)
    (list : List WritebackRecord) :
    ⟨e.key, e.trim, e.learned, .flushed⟩ ∈ (sweptRecords s t).foldl listAfter list := by
  refine mem_foldl_listAfter (sweptRecords_distinct keys t) (.inl ?_)
  rw [sweptRecords_eq]
  refine List.mem_filterMap.2 ⟨i, List.mem_finRange i, ?_⟩
  rw [entry, gone, sweptRecord_gone, if_pos learned]

theorem SweepFate.kept_or_gone {s t : State} {i : Fin 32} {listed : Nat}
    (h : SweepFate s.recipes.entries[i] t.recipes.entries[i] listed) :
    t.recipes.entries[i] = s.recipes.entries[i] ∨ EntryGone s t i := by
  rcases h with ⟨same, -⟩ | ⟨gone, e, entry, -⟩
  · exact .inl same
  · exact .inr ⟨by rw [entry]; rfl, gone⟩

/-- After the sweep the reply carries its two counts, and all else is as the sweep leaves it (R161). -/
theorem Swept.leaves {s : State} {x : State × Nat × Nat} (h : Swept s (List.finRange 32) x) :
    SweepLeaves s (x.1.accept (put8 x.2.1 ++ put8 x.2.2)) := by
  have handed : HandedAll (sweptRecords s x.1) s x.1 := by
    have all := (handedAll_foldl (sweptRecords s x.1) s).withEntries x.1.recipes.entries
    rwa [sweptRecords_eq, ← h.state] at all
  have fate := fun i => h.fate i (List.mem_finRange i)
  refine ⟨fun i => (fate i).kept_or_gone, fun i e entry => ⟨fun other => ?_, fun flushable valid => ?_,
    fun flushable stands => ?_, fun learned gone keys => ?_⟩, handed.list, handed.attention, handed.counters,
    handed.table, ?_, congrArg (State.accept · _) handed.frame⟩
  · rcases fate i with ⟨same, -⟩ | ⟨-, f, held, flushable⟩
    · exact same.trans entry
    · exact absurd (Option.some.inj (held.symm.trans entry) ▸ flushable) other
  · rcases fate i with ⟨-, full⟩ | ⟨gone, -⟩
    · rw [(full e entry flushable).1] at valid
      cases valid
    · exact gone
  · rcases fate i with ⟨-, full⟩ | ⟨gone, -⟩
    · exact (full e entry flushable).2
    · cases gone.symm.trans stands
  · exact handed.list ▸ mem_sweptList keys entry learned gone _
  · rw [h.flushed, h.skipped]
    rfl

/-- Settles O31: by induction on the entries swept, with the records handed over so far as one row of hand-overs. -/
theorem flushUnpinnedSweepsTable : Obligations.FlushUnpinnedSweepsTable :=
  fun s => ⟨flushUnpinnedRequest s, rfl, s.sweep_swept.leaves⟩

end Sys2Proof.Machine
end

section
/-! PROOF. The write-back list read and a hand-over requested (O33). -/

namespace Sys2Proof.Machine

set_option Elab.async false

/-! ### TAKE WRITEBACKS (R174) -/

/-- The count byte of the reply is the number of records taken, which is the list's length up to the limit. -/
theorem takeWritebacksRequest_eq (s : State) : takeWritebacksRequest s =
    replied { s with recipes := { s.recipes with writebacks := s.recipes.writebacks.drop 4 } } .ok
      (BitVec.ofNat 8 (min 4 s.recipes.writebacks.length) ::
        (s.recipes.writebacks.take 4).flatMap writebackView) := by
  rw [← List.length_take]
  rfl

/-! ### REQUEST WRITEBACK (R175) -/

section
variable {s : State} {key : Key} {i : Fin 32} {e : Entry}

theorem requestWritebackRequest_absent (absent : s.recipes.keySearch key = none) :
    requestWritebackRequest key s = replied s .notFound [] := onKey_absent absent _

theorem requestWritebackRequest_other (found : Found s key i e) (other : e.state ≠ .learned) :
    requestWritebackRequest key s = replied s .wrongState [] :=
  (onKey_found found _).trans (if_pos other)

/-- A LEARNED entry's request goes by the list's room alone. -/
theorem requestWritebackRequest_learned (found : Found s key i e) (learned : e.state = .learned) :
    requestWritebackRequest key s =
      if canTake s.recipes.writebacks e.key = false then s.refuse .listFull
      else ((s.handOver (e.record .requested)).setEntry i (some { e with state := .valid })).accept
        (put8 i.val ++ putSigned e.trim ++ put16 e.learned) :=
  (onKey_found found _).trans (if_neg (not_not.2 learned))

theorem requestWritebackRequest_full (found : Found s key i e) (learned : e.state = .learned)
    (full : ¬ ListHasRoom s.recipes.writebacks e.key) :
    requestWritebackRequest key s = replied s .listFull [] :=
  (requestWritebackRequest_learned found learned).trans
    (if_pos (Bool.eq_false_iff.2 (mt (canTake_iff _ _).1 full)))

theorem requestWritebackRequest_taken (found : Found s key i e) (learned : e.state = .learned)
    (room : ListHasRoom s.recipes.writebacks e.key) :
    requestWritebackRequest key s =
      replied (entrySet (handedOver s ⟨e.key, e.trim, e.learned, .requested⟩) i (some { e with state := .valid })) .ok
        (BitVec.ofNat 8 i.val :: putSigned e.trim ++ put16 e.learned) := by
  have roomy : ¬ canTake s.recipes.writebacks e.key = false := Bool.not_eq_false _ ▸ (canTake_iff _ _).2 room
  rw [requestWritebackRequest_learned found learned, if_neg roomy, State.handOver_eq]
  rfl

end

/-- Settles O33: the records taken leave the list's front, and a request's checks are taken in their order. -/
theorem writebacksTakenAndRequested : Obligations.WritebacksTakenAndRequested := fun s =>
  ⟨congrArg Host.Outcome.next (takeWritebacksRequest_eq s),
    fun _ absent => congrArg Host.Outcome.next (requestWritebackRequest_absent absent),
    fun _ _ _ found =>
      ⟨fun other => congrArg Host.Outcome.next (requestWritebackRequest_other found other),
        fun learned full => congrArg Host.Outcome.next (requestWritebackRequest_full found learned full),
        fun learned room => congrArg Host.Outcome.next (requestWritebackRequest_taken found learned room)⟩⟩

end Sys2Proof.Machine
end

section
/-! SUPPORT. The shared operations leave the port alone and keep ALERT at its level (O54). -/

namespace Sys2Proof.Machine

set_option Elab.async false

/-! ### The port and ALERT in the midst of a command -/

/-- What the law of the port reads of the state. -/
def State.link (s : State) := (s.port.inbound, s.port.replyFrame, s.port.receiver, s.pins.linkDe)

/-- A part of a command leaves the port alone and keeps ALERT at its level. -/
structure AlertKept (s t : State) : Prop where
  alert : AlertFollows s → AlertFollows t
  link  : t.link = s.link

section
variable {s t u : State}

theorem AlertKept.refl (s : State) : AlertKept s s := ⟨id, rfl⟩

theorem AlertKept.trans (h : AlertKept s t) (k : AlertKept t u) : AlertKept s u :=
  ⟨k.alert ∘ h.alert, k.link.trans h.link⟩

/-- What moves neither the attention sets nor a level of ALERT or the port. -/
theorem AlertKept.same
    (fields : (t.attention, t.pins.alert, t.link) = (s.attention, s.pins.alert, s.link) := by rfl) :
    AlertKept s t := by
  simp only [Prod.mk.injEq] at fields
  obtain ⟨sets, level, link⟩ := fields
  exact ⟨fun h => by rwa [AlertFollows, sets, level], link⟩

/-- What is kept from a state in which all that is read stands as it was. -/
theorem AlertKept.after (k : AlertKept t u)
    (fields : (t.attention, t.pins.alert, t.link) = (s.attention, s.pins.alert, s.link) := by rfl) :
    AlertKept s u :=
  (AlertKept.same fields).trans k

/-- What is kept up to a state from which all that is read stands as it was. -/
theorem AlertKept.then (h : AlertKept s t)
    (fields : (u.attention, u.pins.alert, u.link) = (t.attention, t.pins.alert, t.link) := by rfl) :
    AlertKept s u :=
  h.trans (.same fields)

end

variable (s : State)

/-- The attention sets are replaced together with the level of ALERT (R179). -/
theorem State.setAttention_alertKept (a : Attention) : AlertKept s (s.setAttention a) := ⟨fun _ => rfl, rfl⟩

theorem State.raise_alertKept (x : Source) : AlertKept s (s.raise x) := s.setAttention_alertKept _

theorem State.raiseIf_alertKept (b : Bool) (x : Source) : AlertKept s (s.raiseIf b x) := by
  unfold State.raiseIf
  split
  · exact s.raise_alertKept x
  · exact .refl s

/-! ### The tracker and the converter -/

theorem State.updateExit_alertKept (f : BilletRecord → BilletRecord) : AlertKept s (s.updateExit f) :=
  .same (by simp [State.link])

theorem State.evaluateZone_alertKept (z : Fin 6) : AlertKept s (s.evaluateZone z) := .same (by simp [State.link])

theorem State.evaluateAll_alertKept : AlertKept s s.evaluateAll := .same (by simp [State.link])

theorem State.grant_alertKept : AlertKept s s.grant := .same (by simp [State.link])

/-- Demand evaluated and a grant made, as most events end (R37, R56). -/
theorem State.regrant_alertKept : AlertKept s s.evaluateAll.grant :=
  s.evaluateAll_alertKept.trans (State.grant_alertKept _)

/-- A push leaves the attention sets alone (R15). -/
@[simp] theorem State.columnPushed_attention (loaded : Option (Fin 64)) :
    (s.columnPushed loaded).attention = s.attention := by
  have surveyed : ∀ (t : State) (b : Bool), (t.startSurvey b).attention = t.attention := fun t b => by
    unfold State.startSurvey
    split <;> rfl
  unfold State.columnPushed
  rw [surveyed]
  cases loaded with
  | none => rfl
  | some slot =>
    dsimp only
    unfold State.bindOrder
    split
    · dsimp only
      split <;> rfl
    · rfl

theorem State.columnPushed_alertKept (loaded : Option (Fin 64)) : AlertKept s (s.columnPushed loaded) :=
  .same (by simp [State.link])

theorem State.haltZone_alertKept (z : Fin 6) : AlertKept s (s.haltZone z) := (State.raiseIf_alertKept _ _ _).after

theorem State.spendZone_alertKept (z : Fin 6) : AlertKept s (s.spendZone z) := (State.raiseIf_alertKept _ _ _).after

theorem State.decideZone_alertKept (z : Fin 6) (forced : Bool) : AlertKept s (s.decideZone z forced) :=
  State.decideZone_induction (p := AlertKept s) z forced
    (fun _ => (s.haltZone_alertKept z).trans (State.grant_alertKept _))
    (fun _ => (State.grant_alertKept _).after)
    (fun _ => (s.spendZone_alertKept z).trans (State.grant_alertKept _))
    (fun _ => (State.grant_alertKept _).after) fun _ => .same

theorem State.closeSlice_alertKept (x : SliceRecord) (e : Nat) : AlertKept s (s.closeSlice x e) :=
  .same (by simp [State.link])

theorem State.loseSupply_alertKept (energy : SliceRecord → Nat) : AlertKept s (s.loseSupply energy) := by
  unfold State.loseSupply
  dsimp only
  split
  · exact (s.closeSlice_alertKept _ _).trans (State.raise_alertKept _ _).after
  · exact (State.raise_alertKept _ _).after

/-! ### Orders -/

theorem State.batch_alertKept (order : BilletOrder) : AlertKept s (s.batch order) := by
  rw [s.batch_eq]
  exact (State.raiseIf_alertKept _ _ _).after

theorem State.afterRetirement_alertKept (order : BilletOrder) (v : OrderVerdict) :
    AlertKept s (s.afterRetirement order v) := by
  have counted : AlertKept s (s.countRetirement v) := by
    unfold State.countRetirement
    split <;> exact .same
  unfold State.afterRetirement
  dsimp only
  split
  · exact counted
  · exact counted.trans (State.batch_alertKept _ order)

theorem State.retire_alertKept (slot : Fin 64) (status : StatusRecord) : AlertKept s (s.retire slot status) := by
  unfold State.retire
  split
  iterate 3 exact (State.afterRetirement_alertKept _ _ _).after
  all_goals exact .refl s

theorem State.skipHeads_alertKept (n : Nat) : AlertKept s (s.skipHeads n) := by
  induction n generalizing s with
  | zero => exact .refl s
  | succ n ih =>
    unfold State.skipHeads
    split
    · split
      · exact (s.retire_alertKept _ _).trans (ih _).after
      · exact .refl s
    all_goals exact .refl s

theorem State.ringLow_alertKept (before : Nat) : AlertKept s (s.ringLow before) := s.raiseIf_alertKept _ _

theorem State.loadDecision_alertKept : AlertKept s s.loadDecision.1 := by
  have skipped := s.skipHeads_alertKept s.ring.queued
  unfold State.loadDecision
  split
  · exact .refl s
  dsimp only
  split
  · exact skipped.trans (State.ringLow_alertKept _ _).after
  · exact skipped.trans (State.ringLow_alertKept _ _)

theorem State.removeExit_alertKept (v : BilletRecord → OrderVerdict) : AlertKept s (s.removeExit v) := by
  unfold State.removeExit
  split
  · exact ((s.dropExit.retire_alertKept _ _).then).after
  · exact .same

theorem State.withdrawNewest_alertKept (n : Nat) : AlertKept s (s.withdrawNewest n).1 := by
  obtain ⟨ring, recipes, h⟩ := s.withdrawNewest_frame n
  rw [h]
  exact .same

theorem State.reclaimOldest_alertKept (n : Nat) : AlertKept s (s.reclaimOldest n).1 := by
  obtain ⟨ring, h⟩ := s.reclaimOldest_frame n
  rw [h]
  exact .same

/-! ### Recipes -/

theorem State.handOver_alertKept (x : WritebackRecord) : AlertKept s (s.handOver x) :=
  ((State.raise_alertKept _ .writeback).after).then

theorem State.giveUp_alertKept (i : Fin 32) (cause : Cause) : AlertKept s (s.giveUp i cause) := by
  unfold State.giveUp
  split
  · split
    · exact (s.handOver_alertKept _).then
    · exact .same
  · exact .refl s

theorem State.allocate_alertKept (k : Key) (i : Fin 32) : AlertKept s (s.allocate k i) :=
  (s.giveUp_alertKept i .evicted).trans ((State.raise_alertKept _ .recipeWanted).after).then

theorem State.lookup_alertKept {k : Key} {found : Lookup} (h : s.lookup k = some found) : AlertKept s found.after := by
  unfold State.lookup at h
  split at h
  · cases h; exact .same
  split at h
  · cases h; exact .same
  split at h
  · cases h; exact .same
  split at h
  · cases h
  split at h
  · cases h; exact s.allocate_alertKept k _
  · cases h

theorem State.handOnTrim_alertKept (i : Fin 32) (e : Entry) : AlertKept s (s.handOnTrim i e) := by
  unfold State.handOnTrim
  split
  · exact .same
  · split
    · exact (State.handOver_alertKept _ _).after
    · exact .same

theorem State.learnFrom_alertKept (r : BilletRecord) (residual : Int) (width : Nat) :
    AlertKept s (s.learnFrom r residual width) := by
  have learned : ∀ i, AlertKept s (s.learn i residual width) := fun i => by
    unfold State.learn
    split
    · exact .refl s
    dsimp only
    split
    · exact .same
    · exact (s.handOnTrim_alertKept i _).trans (State.regrant_alertKept _)
  unfold State.learnFrom
  split
  · split
    · exact .refl s
    · exact learned _
  · exact .refl s

theorem State.sweep_alertKept : AlertKept s s.sweep.1 := by
  refine List.foldlRecOn (motive := fun x : State × Nat × Nat => AlertKept s x.1) (List.finRange 32) sweepEntry
    (.refl s) fun x h i _ => h.trans ?_
  rcases sweepEntry_cases x i with ⟨-, e⟩ | ⟨_, -, -, -, -, e⟩ | ⟨_, -, -, e⟩ <;> rw [e]
  · exact .refl x.1
  · exact .refl x.1
  · exact x.1.giveUp_alertKept i .flushed

/-! ### Operations and the choice -/

theorem State.decline_alertKept : AlertKept s s.decline := ((State.raise_alertKept _ .pressDeclined).after).then

theorem State.startPush_alertKept : AlertKept s s.startPush := s.loadDecision_alertKept.then

theorem State.startExtract_alertKept : AlertKept s s.startExtract := ((State.updateExit_alertKept _ _).then).after

theorem State.choose_alertKept : AlertKept s s.choose := by
  rcases s.choose_cases with h | ⟨-, -, ⟨v, -, -, h⟩ | ⟨-, -, h⟩ | ⟨-, -, -, h⟩ | ⟨-, -, -, h⟩⟩ <;> rw [h]
  · exact .refl s
  · exact .same
  · exact s.startExtract_alertKept
  · exact s.startPush_alertKept
  · unfold State.startColdWait
    split
    · exact (State.startPush_alertKept _).after
    · exact .same

theorem State.chooseIfReported_alertKept (before : State) : AlertKept s (s.chooseIfReported before) := by
  unfold State.chooseIfReported
  split
  · exact .refl s
  · exact s.choose_alertKept

/-! ### Changes of line state -/

theorem State.moveLine_alertKept (new : LineState) : AlertKept s (s.moveLine new) := by
  have noticed : ∀ t : State, AlertKept t (t.notice new) := fun t => by
    obtain ⟨port, -, -, sets, -, -, pins, -⟩ := t.notice_frame new
    exact .same (by rw [State.link, port, sets, pins]; rfl)
  have declined : ∀ t : State, AlertKept t t.declinePending := fun t => by
    unfold State.declinePending
    split
    · exact (State.decline_alertKept _).after
    · exact .refl t
  unfold State.moveLine
  dsimp only
  refine .trans ?_ (State.raiseIf_alertKept _ _ _)
  refine .then (t := if s.cadence.line = .run then _ else _) ?_
  split
  · exact (((noticed { s with cadence.line := new }).after).trans (declined _)).then
  · exact (noticed { s with cadence.line := new }).after

theorem State.stopIfDrained_alertKept : AlertKept s s.stopIfDrained := by
  unfold State.stopIfDrained
  split
  · exact s.moveLine_alertKept _
  · exact .refl s

theorem State.changeLine_alertKept (new : LineState) : AlertKept s (s.changeLine new) := by
  unfold State.changeLine
  dsimp only
  split
  · exact ((s.moveLine_alertKept new).trans (State.stopIfDrained_alertKept _)).trans (State.choose_alertKept _)
  · exact s.moveLine_alertKept new

theorem State.afterCauseAdded_alertKept : AlertKept s s.afterCauseAdded := by
  unfold State.afterCauseAdded
  split
  · exact s.changeLine_alertKept _
  · exact .refl s

theorem State.afterCauseRemoved_alertKept (held : Bool) : AlertKept s (s.afterCauseRemoved held) := by
  unfold State.afterCauseRemoved
  split
  · exact s.changeLine_alertKept _
  · exact .refl s

theorem State.addPressStop_alertKept : AlertKept s s.addPressStop := by
  unfold State.addPressStop
  split
  · exact .refl s
  · exact (State.afterCauseAdded_alertKept _).after

theorem State.pressStopAsserts_alertKept : AlertKept s s.pressStopAsserts := by
  unfold State.pressStopAsserts
  split
  · exact s.addPressStop_alertKept
  · exact .same

theorem State.supplyLoss_alertKept (energy : SliceRecord → Nat) : AlertKept s (s.supplyLoss energy) := by
  have added : ∀ t : State, AlertKept t t.addSupply := fun t => by
    unfold State.addSupply
    split
    · exact .refl t
    · exact (State.afterCauseAdded_alertKept _).after
  exact ((s.loseSupply_alertKept energy).trans (added _)).then

/-! ### Completions and timeouts -/

theorem State.afterCompletion_alertKept : AlertKept s s.afterCompletion :=
  (s.stopIfDrained_alertKept.trans (State.choose_alertKept _)).then

theorem State.pushCompleted_alertKept (loaded : Option (Fin 64)) : AlertKept s (s.pushCompleted loaded) := by
  have reported : AlertKept s (s.pushReported loaded) := .same (by simp [State.pushReported, State.link])
  unfold State.pushCompleted
  dsimp only
  split <;> exact reported.then

theorem State.purgeNext_alertKept : AlertKept s s.purgeNext := by
  unfold State.purgeNext
  split
  · exact .same
  · exact (State.changeLine_alertKept _ _).after

theorem State.handlingTimeout_alertKept (o : Operation) : AlertKept s (s.handlingTimeout o) := by
  have taken : AlertKept s (s.faultTaken o) := by
    cases o with
    | push loaded => exact ((s.endOperation.columnPushed_alertKept loaded).then).after
    | extract => exact (((State.updateExit_alertKept _ _).trans (State.decline_alertKept _)).then).after
    | divert => exact .same
  exact (taken.trans (State.changeLine_alertKept _ .faulted)).then

end Sys2Proof.Machine
end

section
/-! SUPPORT. What a dispatch finds in a frame is a request of Table 10-4 (O54). -/

namespace Sys2Proof

set_option Elab.async false

/-- What a dispatch finds, where it finds a request, is a row that Table 10-4 carries. -/
def Dispatched.Carried : Dispatched → Prop
  | .request i => (encodeRequest i).isSome = true
  | .unknownKind | .badLength | .badEncoding => True

theorem noPayload_carried {i : Instr} (h : (encodeRequest i).isSome = true) (payload : List Byte) :
    (noPayload i payload).Carried := by
  unfold noPayload
  split
  · exact h
  · trivial

theorem oneByte_carried {f : Nat → Instr} (h : ∀ n, (encodeRequest (f n)).isSome = true) (payload : List Byte) :
    (oneByte f payload).Carried := by
  unfold oneByte
  split
  · exact h _
  · trivial

theorem twoBytes_carried {f : Nat → Nat → Instr} (h : ∀ m n, (encodeRequest (f m n)).isSome = true)
    (payload : List Byte) : (twoBytes f payload).Carried := by
  unfold twoBytes
  split
  · exact h _ _
  · trivial

theorem oneKey_carried {f : Key → Instr} (h : ∀ k, (encodeRequest (f k)).isSome = true) (payload : List Byte) :
    (oneKey f payload).Carried := by
  unfold oneKey
  split
  · exact h _
  · trivial

theorem oneSet_carried {f : BitVec 16 → Instr} (h : ∀ x, (encodeRequest (f x)).isSome = true) (payload : List Byte) :
    (oneSet f payload).Carried := by
  unfold oneSet
  split
  · exact h _
  · trivial

theorem decodePower_carried (payload : List Byte) : (decodePower payload).Carried := by
  unfold decodePower
  split
  · split <;> trivial
  · trivial

theorem decodeSetZone_carried (payload : List Byte) : (decodeSetZone payload).Carried := by
  unfold decodeSetZone
  split <;> trivial

theorem decodePostOrder_carried (payload : List Byte) : (decodePostOrder payload).Carried := by
  unfold decodePostOrder
  split <;> trivial

theorem decodeLoadRecipe_carried (payload : List Byte) : (decodeLoadRecipe payload).Carried := by
  unfold decodeLoadRecipe
  split
  · split <;> trivial
  · trivial

theorem decodeReadRecipe_carried (payload : List Byte) : (decodeReadRecipe payload).Carried := by
  unfold decodeReadRecipe
  split
  · split <;> trivial
  · trivial

theorem decodeSetWindow_carried (payload : List Byte) : (decodeSetWindow payload).Carried := by
  unfold decodeSetWindow
  split
  · split <;> trivial
  · trivial

theorem decodeWriteSetting_carried (payload : List Byte) : (decodeWriteSetting payload).Carried := by
  unfold decodeWriteSetting
  split <;> trivial

theorem decodeWriteProfile_carried (payload : List Byte) : (decodeWriteProfile payload).Carried := by
  unfold decodeWriteProfile
  split <;> trivial

/-- Every kind of Table 10-4 is decoded by one of the forms above, as a request the table carries (R196). -/
theorem decodeRequest_carried (kind : Byte) (payload : List Byte) : (decodeRequest kind payload).Carried := by
  unfold decodeRequest
  split
  iterate 8 exact noPayload_carried rfl payload
  · exact twoBytes_carried (fun _ _ => rfl) payload
  · exact decodeSetZone_carried payload
  iterate 6 exact oneByte_carried (fun _ => rfl) payload
  · exact decodePower_carried payload
  · exact decodePostOrder_carried payload
  · exact oneByte_carried (fun _ => rfl) payload
  · exact twoBytes_carried (fun _ _ => rfl) payload
  · exact oneByte_carried (fun _ => rfl) payload
  · exact decodeLoadRecipe_carried payload
  · exact decodeReadRecipe_carried payload
  · exact oneKey_carried (fun _ => rfl) payload
  · exact noPayload_carried rfl payload
  iterate 2 exact oneKey_carried (fun _ => rfl) payload
  · exact decodeSetWindow_carried payload
  iterate 2 exact noPayload_carried rfl payload
  · exact oneKey_carried (fun _ => rfl) payload
  · exact noPayload_carried rfl payload
  iterate 3 exact oneSet_carried (fun _ => rfl) payload
  · exact twoBytes_carried (fun _ _ => rfl) payload
  · exact noPayload_carried rfl payload
  · exact decodeWriteSetting_carried payload
  · exact noPayload_carried rfl payload
  · exact decodeWriteProfile_carried payload
  iterate 2 exact noPayload_carried rfl payload
  · trivial

/-- A frame's dispatch finds no command but a request (R193). -/
theorem isRequest_of_decodeRequest {kind : Byte} {payload : List Byte} {i : Instr}
    (h : decodeRequest kind payload = .request i) : (encodeRequest i).isSome = true := by
  have carried := decodeRequest_carried kind payload
  rwa [h] at carried

end Sys2Proof
end

section
/-! SUPPORT. Every request is answered, leaves the port alone and keeps ALERT at its level (O54). -/

namespace Sys2Proof.Machine

set_option Elab.async false

/-! ### Answers (R193, R194) -/

/-- A request's block hands a reply to the port: it refuses the request and changes nothing else, or carries it out,
leaving the port alone and ALERT at its level. -/
inductive Answered (s : State) : State → Prop
  | refused (code : ResultCode) : Answered s (s.refuse code)
  | accepted {t : State} (data : List Byte) (kept : AlertKept s t) : Answered s (t.accept data)

section
variable {s t : State}

theorem Answered.kept (h : Answered s t) : AlertKept s t := by
  cases h with
  | refused code => exact .same
  | accepted data kept => exact kept.then

theorem Answered.reply (h : Answered s t) : ∃ r, t.reply = some r := by
  cases h <;> exact ⟨_, rfl⟩

/-- A request whose block goes one of two ways is answered if both ways answer it. -/
theorem Answered.ite {c : Prop} [Decidable c] {u : State} (yes : Answered s t) (no : Answered s u) :
    Answered s (if c then t else u) := by
  split
  · exact yes
  · exact no

end

variable (s : State)

/-- A request that only reads is carried out with nothing changed. -/
theorem Answered.read (data : List Byte) : Answered s (s.accept data) := .accepted data (.refl s)

theorem onZone_answered {s : State} {f : Fin 6 → State} (zone : Nat) (h : ∀ z, Answered s (f z)) :
    Answered s (onZone zone s f) := by
  unfold onZone
  split
  · exact h _
  · exact .refused _

theorem onKey_answered {s : State} {f : Fin 32 → Entry → State} (key : Key) (h : ∀ i e, Answered s (f i e)) :
    Answered s (onKey key s f) := by
  unfold onKey
  split
  · exact .refused _
  · split
    · exact h _ _
    · exact .refused _

theorem onSet_answered (set : BitVec 16) (f : BitVec 11 → Attention) : Answered s (onSet set s f) := by
  unfold onSet
  split
  · exact .accepted _ (s.setAttention_alertKept _)
  · exact .refused _

/-! ### Requests of the line -/

theorem startRequest_answered : Answered s (startRequest s) :=
  .ite (.refused _) (.ite (.refused _) (.ite (.refused _)
    (.accepted _ ((State.changeLine_alertKept _ _).after (t := { s with cadence.noLoad := false })).then)))

theorem stopRequest_answered : Answered s (stopRequest s) :=
  .ite (.accepted _ (s.changeLine_alertKept _).then) (.refused _)

theorem holdRequest_answered : Answered s (holdRequest s) := by
  refine .ite (.accepted _ (AlertKept.then (t := if s.cadence.manual then s else _) ?_)) (.refused _)
  split
  · exact .refl s
  · exact (State.afterCauseAdded_alertKept _).after

theorem resumeRequest_answered : Answered s (resumeRequest s) :=
  .ite (.accepted _ ((State.afterCauseRemoved_alertKept
    { s with cadence.manual := false, cadence.supply := false } _).after).then) (.refused _)

theorem drainRequest_answered : Answered s (drainRequest s) :=
  .ite (.accepted _ ((State.stopIfDrained_alertKept { s with cadence.noLoad := true }).after).then) (.refused _)

theorem purgeRequest_answered : Answered s (purgeRequest s) :=
  .ite (.accepted _ ((State.changeLine_alertKept { s with cadence.purgeStep := 1 } _).after).then) (.refused _)

theorem declareEmptyRequest_answered : Answered s (declareEmptyRequest s) :=
  .ite (.refused _) (.ite (.refused _) (.accepted _ .same))

/-! ### Requests of the zones and the converter -/

theorem setZoneRequest_answered (zone mode blockSize setpoint budget : Nat) (options : BitVec 8) :
    Answered s (setZoneRequest zone mode blockSize setpoint budget options s) := by
  refine onZone_answered zone fun z => ?_
  split
  · exact .refused _
  · exact .accepted _ (((State.evaluateZone_alertKept _ z).trans (State.grant_alertKept _)).after)

theorem enableZoneRequest_answered (zone : Nat) : Answered s (enableZoneRequest zone s) :=
  onZone_answered zone fun z => .ite (.accepted _ (State.grant_alertKept (s.updateZone z _)).after) (.refused _)

theorem disableZoneRequest_answered (zone : Nat) : Answered s (disableZoneRequest zone s) :=
  onZone_answered zone fun _ => .ite (.refused _) (.accepted _ .same)

theorem pauseZoneRequest_answered (zone : Nat) : Answered s (pauseZoneRequest zone s) :=
  onZone_answered zone fun _ => .ite (.refused _) (.accepted _ .same)

theorem continueZoneRequest_answered (zone : Nat) : Answered s (continueZoneRequest zone s) :=
  onZone_answered zone fun z => .accepted _ (State.grant_alertKept (s.updateZone z _)).after

theorem doseZoneRequest_answered (zone : Nat) : Answered s (doseZoneRequest zone s) := by
  refine onZone_answered zone fun z => ?_
  split
  iterate 3 exact .refused _
  all_goals exact .ite (.refused _) (.accepted _ (State.grant_alertKept (s.updateZone z _)).after)

theorem powerOnRequest_answered : Answered s (powerOnRequest s) :=
  .ite (.accepted _ (State.grant_alertKept { s with arbiter.enable := true }).after) (.refused _)

theorem powerContinueRequest_answered : Answered s (powerContinueRequest s) :=
  .accepted _ (State.grant_alertKept { s with arbiter.pause := false }).after

/-! ### Requests of the ring -/

theorem postOrderRequest_answered (billetId : BitVec 32) (key : Key) (flags : BitVec 8) (entryTemp exitOverride : Nat) :
    Answered s (postOrderRequest billetId key flags entryTemp exitOverride s) := by
  unfold postOrderRequest
  split
  · exact .refused _
  refine .ite (.refused _) ?_
  split
  · exact .refused _
  · rename_i found lookup
    exact .accepted _ (s.lookup_alertKept lookup).then

theorem withdrawRequest_answered (n : Nat) : Answered s (withdrawRequest n s) :=
  .ite (.accepted _ ((s.withdrawNewest_alertKept n).trans (State.ringLow_alertKept _ _))) (.refused _)

theorem readOrdersRequest_answered (first count : Nat) : Answered s (readOrdersRequest first count s) := by
  unfold readOrdersRequest
  split
  · exact .ite (.read s _) (.refused _)
  · exact .refused _

theorem reclaimRequest_answered (n : Nat) : Answered s (reclaimRequest n s) :=
  .ite (.accepted _ (s.reclaimOldest_alertKept n)) (.refused _)

/-! ### Requests of the recipe table -/

theorem loadRecipeRequest_answered (key : Key) (body : Body) (trim : Int) (policy : Nat) :
    Answered s (loadRecipeRequest key body trim policy s) := by
  have loaded : ∀ t : State, AlertKept t (t.afterLoad s) := fun t =>
    (((((State.evaluateAll_alertKept _).then).trans (State.grant_alertKept _)).after).trans
      (State.chooseIfReported_alertKept (State.grant (State.reportReadiness t.advanceReplacement.evaluateAll)) s)).then
  unfold loadRecipeRequest
  split
  · exact .refused _
  refine .ite ?_ (.refused _)
  split
  · split
    · refine .accepted _ ((loaded _).after ?_)
      unfold State.loadPresent
      dsimp only
      split <;> rfl
    · exact .refused _
  · split
    · exact .accepted _ ((s.giveUp_alertKept _ .evicted).trans (loaded _).after)
    · exact .refused _

theorem readRecipeRequest_answered (selector : RecipeSelector) : Answered s (readRecipeRequest selector s) := by
  cases selector with
  | key k => exact onKey_answered k fun _ _ => .read s _
  | window n =>
    unfold readRecipeRequest
    dsimp only
    split
    · exact .read s _
    · exact .refused _

theorem flushRecipeRequest_answered (key : Key) : Answered s (flushRecipeRequest key s) :=
  onKey_answered key fun i _ => .ite (.refused _) (.ite (.refused _) (.accepted _ (s.giveUp_alertKept i .flushed)))

theorem pinRecipeRequest_answered (key : Key) : Answered s (pinRecipeRequest key s) :=
  onKey_answered key fun _ _ => .ite (.read s _) (.ite (.refused _) (.accepted _ .same))

theorem unpinRecipeRequest_answered (key : Key) : Answered s (unpinRecipeRequest key s) :=
  onKey_answered key fun _ _ => .accepted _ .same

theorem setWindowRequest_answered (window enable : Nat) (base mask : BitVec 16) (body : Body) :
    Answered s (setWindowRequest window enable base mask body s) := by
  unfold setWindowRequest
  split
  · exact .refused _
  · exact .ite (.ite (.refused _) (.accepted _ .same)) (.refused _)

theorem requestWritebackRequest_answered (key : Key) : Answered s (requestWritebackRequest key s) :=
  onKey_answered key fun _ _ => .ite (.refused _) (.ite (.refused _) (.accepted _ (s.handOver_alertKept _).then))

/-! ### Requests of the attention unit, the counters and the settings -/

theorem selectCounterRequest_answered (counter event : Nat) : Answered s (selectCounterRequest counter event s) := by
  unfold selectCounterRequest
  split
  · exact .ite (.accepted _ .same) (.refused _)
  · exact .refused _

theorem writeSettingRequest_answered (id value : Nat) : Answered s (writeSettingRequest id value s) := by
  unfold writeSettingRequest
  split
  · exact .refused _
  refine .ite (.ite (.accepted _ ?_) (.refused _)) (.refused _)
  split
  · exact (State.regrant_alertKept { s with settings := writeSettingOf id value s.settings }).after
  · exact .same

theorem writeProfileRequest_answered (profile : Vector Nat 12) : Answered s (writeProfileRequest profile s) :=
  .ite (.accepted _ (State.regrant_alertKept { s with settings.profile := profile }).after) (.refused _)

/-! ### Every request -/

/-- Every request is answered (R193). -/
theorem takeRequest_answered {i : Instr} (request : (encodeRequest i).isSome = true) : Answered s (takeRequest i s) := by
  cases i
  case start => exact startRequest_answered s
  case stop => exact stopRequest_answered s
  case hold => exact holdRequest_answered s
  case resume => exact resumeRequest_answered s
  case drain => exact drainRequest_answered s
  case purge => exact purgeRequest_answered s
  case declareEmpty => exact declareEmptyRequest_answered s
  case readTrain => exact .ite (.read s _) (.refused _)
  case setZone => exact setZoneRequest_answered s _ _ _ _ _ _
  case readZone zone => exact onZone_answered zone fun _ => .read s _
  case enableZone => exact enableZoneRequest_answered s _
  case disableZone => exact disableZoneRequest_answered s _
  case pauseZone => exact pauseZoneRequest_answered s _
  case continueZone => exact continueZoneRequest_answered s _
  case doseZone => exact doseZoneRequest_answered s _
  case powerOn => exact powerOnRequest_answered s
  case powerContinue => exact powerContinueRequest_answered s
  case postOrder => exact postOrderRequest_answered s _ _ _ _ _
  case withdraw => exact withdrawRequest_answered s _
  case readOrders => exact readOrdersRequest_answered s _ _
  case reclaim => exact reclaimRequest_answered s _
  case loadRecipe => exact loadRecipeRequest_answered s _ _ _ _
  case readRecipe => exact readRecipeRequest_answered s _
  case flushRecipe => exact flushRecipeRequest_answered s _
  case flushUnpinned => exact .accepted _ s.sweep_alertKept
  case pinRecipe => exact pinRecipeRequest_answered s _
  case unpinRecipe => exact unpinRecipeRequest_answered s _
  case setWindow => exact setWindowRequest_answered s _ _ _ _ _
  case requestWriteback => exact requestWritebackRequest_answered s _
  case readAttention => exact .accepted _ (s.setAttention_alertKept _)
  case enableAttention | disableAttention | clearAttention => exact onSet_answered s _ _
  case selectCounter => exact selectCounterRequest_answered s _ _
  case writeSetting => exact writeSettingRequest_answered s _ _
  case writeProfile => exact writeProfileRequest_answered s _
  case readLine | readWants | readCounters | readSettings | identify => exact .read s _
  case powerOff | powerPause | takeWritebacks | restart => exact .accepted _ .same
  all_goals exact nomatch request

end Sys2Proof.Machine
end

section
/-! PROOF. Every step keeps ALERT at its level and the port in order (O54). -/

namespace Sys2Proof.Machine

set_option Elab.async false

section
variable (s : State)

/-! ### Events of the converter and the guards -/

theorem sliceDone_alertKept (sequence : BitVec 8) (energy : Nat) : AlertKept s (sliceDone sequence energy s) := by
  unfold sliceDone
  split
  · rename_i x _
    have closed : AlertKept s ((s.closeSlice x (min energy x.eset)).count .sliceCompleted) :=
      (s.closeSlice_alertKept x _).then
    exact ((closed.trans (State.decideZone_alertKept _ x.zone x.forced)).trans
      (State.chooseIfReported_alertKept _ s)).then
  · exact .refl s

theorem sliceFault_alertKept (sequence : BitVec 8) (energy : Nat) : AlertKept s (sliceFault sequence energy s) := by
  unfold sliceFault
  split
  · exact s.supplyLoss_alertKept _
  · exact .refl s

theorem convReadyFall_alertKept : AlertKept s (convReadyFall s) := by
  unfold convReadyFall
  dsimp only
  split
  · exact (State.supplyLoss_alertKept { s with pins.convReady := false } _).after
  · exact .same

theorem sliceTimerExpiry_alertKept : AlertKept s (sliceTimerExpiry s) := by
  unfold sliceTimerExpiry
  split
  · split
    · exact (State.supplyLoss_alertKept (s.send _) _).after
    · exact .refl s
  · exact .refl s

theorem State.cancelForHalt_alertKept (z : Fin 6) : AlertKept s (s.cancelForHalt z) := by
  unfold State.cancelForHalt
  split
  · exact .refl s
  · dsimp only
    split <;> exact .same

theorem guardAsserted_alertKept (zone : Nat) : AlertKept s (guardAsserted zone s) := by
  unfold guardAsserted
  split
  · exact .refl s
  · rename_i z _
    dsimp only
    split
    iterate 3 exact ((s.setGuard z true).haltZone_alertKept z).after
    · exact ((s.setGuard z true).cancelForHalt_alertKept z).after
    iterate 2 exact .same

theorem guardNegated_alertKept (zone : Nat) : AlertKept s (guardNegated zone s) := by
  unfold guardNegated
  split
  · exact .refl s
  · exact .same

/-! ### Events of the tracker -/

theorem pyroTemperatureMessage_alertKept (value : Nat) : AlertKept s (pyroTemperatureMessage value s) := by
  unfold pyroTemperatureMessage
  split
  · exact .refl s
  · have read := State.updateExit_alertKept { s with tracker.readingTimer := none }
    exact ((((read _).then (u := State.reportExit _)).trans (State.learnFrom_alertKept _ _ _ _)).trans
      (State.choose_alertKept _)).then.after

theorem readingTimerExpiry_alertKept : AlertKept s (readingTimerExpiry s) := by
  unfold readingTimerExpiry
  split
  · dsimp only
    split
    · split
      · have rejected := State.updateExit_alertKept { s with tracker.readingTimer := none }
        exact (((rejected _).then (u := State.reportExit _)).trans (State.choose_alertKept _)).then.after
      · exact .same
    · exact .same
  · exact .refl s

theorem surveyTimerExpiry_alertKept : AlertKept s (surveyTimerExpiry s) := by
  unfold surveyTimerExpiry
  split
  · refine .then (.trans (t := State.grant _) (.same ?_) (State.chooseIfReported_alertKept _ s))
    simp [State.recheckExit, State.link]
  · exact .refl s

/-! ### Events of the press and of handling -/

theorem pressCall_alertKept : AlertKept s (pressCall s) := by
  unfold pressCall
  dsimp only
  split
  · split
    · exact ((State.startExtract_alertKept { s with pins.pressCall := true }).then).after
    · exact ((State.choose_alertKept { s with pins.pressCall := true, cadence.pendingCall := true }).then).after
  · exact (State.decline_alertKept { s with pins.pressCall := true }).after

theorem pressStopAsserted_alertKept : AlertKept s (pressStopAsserted s) :=
  ((State.pressStopAsserts_alertKept { s with pins.pressStop := true }).then).after

theorem pressStopNegated_alertKept : AlertKept s (pressStopNegated s) := by
  unfold pressStopNegated
  dsimp only
  split
  · exact ((State.afterCauseRemoved_alertKept
      { s with pins.pressStop := false, cadence.holdDelay := none, cadence.pressStop := false } true).then).after
  · exact .same

theorem holdDelayExpiry_alertKept : AlertKept s (holdDelayExpiry s) := by
  unfold holdDelayExpiry
  split
  · exact ((State.addPressStop_alertKept { s with cadence.holdDelay := none }).then).after
  · exact .refl s

theorem pushDone_alertKept : AlertKept s (pushDone s) := by
  unfold pushDone
  split
  · rename_i loaded _
    have completed : AlertKept s (s.endOperation.pushCompleted loaded) :=
      (s.endOperation.pushCompleted_alertKept loaded).after
    dsimp only
    split
    · exact (completed.trans (State.purgeNext_alertKept _)).then
    · exact completed.trans (State.afterCompletion_alertKept _)
  all_goals exact .refl s

theorem extractDone_alertKept : AlertKept s (extractDone s) := by
  unfold extractDone
  split
  · exact ((s.endOperation.removeExit_alertKept _).trans (State.afterCompletion_alertKept _)).after
  all_goals exact .refl s

theorem divertDone_alertKept : AlertKept s (divertDone s) := by
  have removed : ∀ v, AlertKept s (s.endOperation.removeExit v) := fun v =>
    (s.endOperation.removeExit_alertKept v).after
  unfold divertDone
  split
  · split
    · exact (removed _).then
    · exact (removed _).trans (State.afterCompletion_alertKept _)
  all_goals exact .refl s

theorem handlingTimerExpiry_alertKept : AlertKept s (handlingTimerExpiry s) := by
  unfold handlingTimerExpiry
  split
  · split
    · exact s.handlingTimeout_alertKept _
    · exact .refl s
  · exact .refl s

theorem minPushTimerExpiry_alertKept : AlertKept s (minPushTimerExpiry s) := by
  unfold minPushTimerExpiry
  split
  · exact ((State.choose_alertKept { s with cadence.minPush := none }).then).after
  · exact .refl s

theorem coldWaitExpiry_alertKept : AlertKept s (coldWaitExpiry s) := by
  unfold coldWaitExpiry
  split
  · exact ((State.choose_alertKept { s with cadence.coldWait := .expired }).then).after
  all_goals exact .refl s

/-! ### Timers of the ring and the table -/

theorem batchDelayExpiry_alertKept : AlertKept s (batchDelayExpiry s) := by
  unfold batchDelayExpiry
  split
  · dsimp only
    split
    · exact (State.raise_alertKept { s with ring.batch := 0, ring.batchTimer := none } .orderDone).after
    · exact .same
  · exact .refl s

theorem fetchTimeout_alertKept (key : Key) : AlertKept s (fetchTimeout key s) := by
  unfold fetchTimeout
  split
  · exact ((State.raise_alertKept _ .recipeLost).then).after
  · exact .refl s

end

/-! ### ALERT and the port together -/

/-- ALERT stands at its level and the port is in order. -/
structure State.Signalled (s : State) : Prop where
  alert : AlertFollows s
  port  : PortInOrder s

section
variable {s t : State}

theorem AlertKept.signalled (k : AlertKept s t) (h : s.Signalled) : t.Signalled := by
  have link := k.link
  simp only [State.link, Prod.mk.injEq] at link
  obtain ⟨inbound, replyFrame, receiver, de⟩ := link
  exact ⟨k.alert h.alert, by rw [PortInOrder, inbound, replyFrame, receiver, de]; exact h.port⟩

theorem State.Signalled.same (h : s.Signalled)
    (fields : (t.attention, t.pins.alert, t.link) = (s.attention, s.pins.alert, s.link) := by rfl) : t.Signalled :=
  (AlertKept.same fields).signalled h

/-- With no request outstanding, no reply formed, LINK_DE negated and the receiver hunting, the port is in order. -/
theorem portInOrder_idle (idle : s.link = (none, none, .hunting, false)) : PortInOrder s := by
  simp only [State.link, Prod.mk.injEq] at idle
  obtain ⟨inbound, replyFrame, receiver, de⟩ := idle
  simp [PortInOrder, inbound, replyFrame, receiver, de]

/-! ### The resets (R103, R184, R202) -/

theorem State.takePressStop_alertKept (s : State) : AlertKept s s.takePressStop := by
  unfold State.takePressStop
  split
  · exact s.pressStopAsserts_alertKept
  · exact .refl s

/-- A RESTART puts the attention sets in place with the level of ALERT, and the port at its restart state. -/
theorem State.restart_signalled (s : State) : s.restart.Signalled := by
  have arbiter : ∀ t : State, AlertKept t t.restartArbiter := fun t => by
    unfold State.restartArbiter
    dsimp only
    split <;> exact .same
  have blocks : ∀ t : State, AlertFollows t → t.restartArbiter.restartTracker.restartLine.Signalled :=
    fun t follows => ⟨(arbiter t).alert follows, portInOrder_idle rfl⟩
  have restarted : s.restartBlocks.Signalled := by
    unfold State.restartBlocks
    exact blocks _ rfl
  rw [s.restart_eq]
  exact (State.takePressStop_alertKept _).signalled restarted

theorem powerOnReset_signalled (s : State) : (powerOnReset s).Signalled := by
  have blocks : s.powerOnBlocks.Signalled :=
    ⟨(by decide : false = powerOnAttention.alertLevel), portInOrder_idle rfl⟩
  rw [powerOnReset_eq]
  exact (State.takePressStop_alertKept _).signalled blocks

/-! ### The receiver (R190) -/

/-- A receiver that is not deaf may return to hunting. -/
theorem State.Signalled.hunt (h : s.Signalled) (hears : s.port.receiver ≠ .deaf) : s.hunt.Signalled := by
  obtain ⟨alert, formed, asserted, deaf⟩ := h
  exact ⟨alert, formed, asserted, nofun, fun de => absurd (deaf.2 de) hears⟩

theorem State.Signalled.abandonFrame (h : s.Signalled) : s.abandonFrame.Signalled := by
  unfold State.abandonFrame
  split
  · rename_i receiving
    exact (h.hunt (by simp [receiving])).same
  · exact h

theorem lengthByteDiscard_signalled (h : s.Signalled) (length : Nat) : (lengthByteDiscard length s).Signalled := by
  unfold lengthByteDiscard
  split
  · exact h.abandonFrame
  · exact h

theorem syncByteBeginsFrame_signalled (h : s.Signalled) : (syncByteBeginsFrame s).Signalled := by
  unfold syncByteBeginsFrame
  split
  · rename_i hunting
    obtain ⟨alert, formed, asserted, deaf⟩ := h
    exact ⟨alert, formed, asserted, nofun, fun de => nomatch hunting.symm.trans (deaf.2 de)⟩
  · exact h

/-! ### A frame taken (R191, R193, R194) -/

/-- The request a frame spells is answered, and so is a frame that spells none. -/
theorem dispatch_answered (s : State) (kind : Byte) (payload : List Byte) : Answered s (s.dispatch kind payload) := by
  unfold State.dispatch
  split
  iterate 3 exact .refused _
  · rename_i i decoded
    exact takeRequest_answered s (isRequest_of_decodeRequest decoded)

/-- A frame taken has its reply formed in the same step. -/
theorem State.Signalled.takeFrame (h : s.Signalled) (f : Frame) : (s.takeFrame f).Signalled := by
  have answered := dispatch_answered { s with port.inbound := some f } f.kind f.payload
  obtain ⟨r, reply⟩ := answered.reply
  have link := answered.kept.link
  simp only [State.link, Prod.mk.injEq] at link
  obtain ⟨inbound, -, receiver, de⟩ := link
  unfold State.takeFrame State.formReply
  rw [reply]
  refine ⟨answered.kept.alert h.alert, ?_, fun _ => ?_, ?_⟩
  · rw [inbound]; rfl
  · rw [inbound]; rfl
  · rw [receiver, de]; exact h.port.2.2

theorem frameReceived_signalled (h : s.Signalled) (f : Frame) : (frameReceived f s).Signalled := by
  unfold frameReceived
  split
  · exact h
  rename_i hears
  have hunting := h.hunt hears
  split
  · exact hunting.same
  unfold State.checkFrame
  split
  · exact hunting.same
  split
  · exact hunting
  split
  · exact hunting.same
  · exact hunting.takeFrame f

/-! ### The reply (R188, R192) -/

/-- A formed reply begins to be sent. -/
theorem State.Signalled.beginReply (h : s.Signalled) (formed : s.port.replyFrame.isSome = true) :
    s.beginReply.Signalled :=
  ⟨h.alert, h.port.1, fun _ => h.port.1.symm.trans formed, fun _ => rfl, fun _ => rfl⟩

theorem replySent_signalled (h : s.Signalled) : (replySent s).Signalled := by
  rcases replySent_cases s with ⟨-, e⟩ | ⟨-, -, -, -, e⟩ | ⟨-, -, -, e⟩ <;> rw [e]
  · exact h
  · exact State.restart_signalled _
  · exact ⟨h.alert, portInOrder_idle rfl⟩

theorem restartTakesEffect_signalled (h : s.Signalled) : (restartTakesEffect s).Signalled := by
  unfold restartTakesEffect
  split
  · exact s.restart_signalled
  · exact h

/-! ### Commands and steps -/

/-- Every command keeps ALERT at its level and the port in order. -/
theorem exec_signalled {i : Instr} (h : s.Signalled) (e : exec i s = .next t) : t.Signalled := by
  by_cases request : (encodeRequest i).isSome = true
  · rw [exec_request request s] at e
    cases e
    exact (takeRequest_answered s request).kept.signalled h
  cases i
  case frameReceived f => cases e; exact frameReceived_signalled h f
  case idleGapAbandon | framingErrorAbandon => cases e; exact h.abandonFrame
  case lengthByteDiscard n => cases e; exact lengthByteDiscard_signalled h n
  case syncByteBeginsFrame => cases e; exact syncByteBeginsFrame_signalled h
  case replySent => cases e; exact replySent_signalled h
  case restartTakesEffect => cases e; exact restartTakesEffect_signalled h
  case powerOnReset => cases e; exact powerOnReset_signalled s
  case sliceDone sequence energy => cases e; exact (sliceDone_alertKept s sequence energy).signalled h
  case sliceFault sequence energy => cases e; exact (sliceFault_alertKept s sequence energy).signalled h
  case convReadyFall => cases e; exact (convReadyFall_alertKept s).signalled h
  case sliceTimerExpiry => cases e; exact (sliceTimerExpiry_alertKept s).signalled h
  case guardAsserted zone => cases e; exact (guardAsserted_alertKept s zone).signalled h
  case guardNegated zone => cases e; exact (guardNegated_alertKept s zone).signalled h
  case pyroTemperatureMessage value => cases e; exact (pyroTemperatureMessage_alertKept s value).signalled h
  case readingTimerExpiry => cases e; exact (readingTimerExpiry_alertKept s).signalled h
  case surveyTimerExpiry => cases e; exact (surveyTimerExpiry_alertKept s).signalled h
  case pressCall => cases e; exact (pressCall_alertKept s).signalled h
  case pressStopAsserted => cases e; exact (pressStopAsserted_alertKept s).signalled h
  case pressStopNegated => cases e; exact (pressStopNegated_alertKept s).signalled h
  case holdDelayExpiry => cases e; exact (holdDelayExpiry_alertKept s).signalled h
  case pushDone => cases e; exact (pushDone_alertKept s).signalled h
  case extractDone => cases e; exact (extractDone_alertKept s).signalled h
  case divertDone => cases e; exact (divertDone_alertKept s).signalled h
  case handlingTimerExpiry => cases e; exact (handlingTimerExpiry_alertKept s).signalled h
  case minPushTimerExpiry => cases e; exact (minPushTimerExpiry_alertKept s).signalled h
  case coldWaitExpiry => cases e; exact (coldWaitExpiry_alertKept s).signalled h
  case batchDelayExpiry => cases e; exact (batchDelayExpiry_alertKept s).signalled h
  case fetchTimeout key => cases e; exact (fetchTimeout_alertKept s key).signalled h
  case convReadyRise | pressCallNegated | pyroNoTarget => cases e; exact h.same
  case readRecipe selector => cases selector <;> exact absurd rfl request
  all_goals exact absurd rfl request

/-- Every step keeps ALERT at its level and the port in order. -/
theorem step_signalled (h : s.Signalled) (e : step s = .next t) : t.Signalled := by
  unfold step stepQueue at e
  split at e
  · rename_i rest _
    exact exec_signalled (s := { s with pending := rest }) h.same e
  unfold idleStep at e
  split at e
  · exact exec_signalled h e
  split at e
  · rename_i begins
    cases e
    exact h.beginReply (Bool.and_eq_true_iff.1 begins).1
  unfold State.passTime at e
  split at e
  · cases e; exact h.same
  · exact exec_signalled h e

end

/-- Settles O54: the attention sets are replaced only together with ALERT's level, every request dispatched is answered,
so that its reply is formed as it is taken, and nothing but the link's own events moves the port. -/
theorem alertAndPortKept : Obligations.AlertAndPortKept := fun _ _ alert port e =>
  have kept := step_signalled ⟨alert, port⟩ e
  ⟨kept.alert, kept.port⟩

end Sys2Proof.Machine
end

section
/-! PROOF. The requests of the attention unit and SELECT COUNTER (O34). -/

namespace Sys2Proof.Machine

set_option Elab.async false

/-! ### The sets replaced (R179) -/

/-- ALERT at its level is the level the statements give it. -/
theorem State.setAttention_eq_attentionSet (s : State) (pending enabled : BitVec 11) :
    s.setAttention ⟨pending, enabled⟩ = attentionSet s pending enabled := by
  unfold State.setAttention attentionSet
  rw [alertLevel_eq]

/-- What a set is left with when what it shares with another is taken out of it (R180). -/
theorem and_not_and_self (x y : BitVec 11) : x &&& ~~~(x &&& y) = x &&& ~~~y := by
  ext i
  cases h : x[i] <;> simp [h]

theorem and_not_and_other (x y : BitVec 11) : y &&& ~~~(x &&& y) = y &&& ~~~x := by
  rw [BitVec.and_comm x y, and_not_and_self]

/-- READ ATTENTION takes the reported set out of both sets (R180). -/
theorem readAttentionRequest_eq (s : State) :
    readAttentionRequest s =
      replied (attentionSet s (s.attention.pending &&& ~~~s.attention.enabled)
        (s.attention.enabled &&& ~~~s.attention.pending)) .ok
        (put16 (s.attention.pending &&& s.attention.enabled).toNat ++ put16 s.attention.pending.toNat) := by
  unfold readAttentionRequest
  dsimp only
  rw [and_not_and_self, and_not_and_other, State.setAttention_eq_attentionSet]
  rfl

/-! ### Requests that carry a source set (section 9.4) -/

/-- A set that names no source above 10 is taken. -/
theorem onSet_taken {set : BitVec 16} (named : set.toNat < 2048) (s : State) (f : BitVec 11 → Attention) :
    onSet set s f = replied (attentionSet s (f (set.setWidth 11)).pending (f (set.setWidth 11)).enabled) .ok [] := by
  rw [onSet, sourceSetOf, if_pos named, ← State.setAttention_eq_attentionSet]
  rfl

/-- A set that names a source above 10 is refused. -/
theorem onSet_refused {set : BitVec 16} (unnamed : 2048 ≤ set.toNat) (s : State) (f : BitVec 11 → Attention) :
    onSet set s f = replied s .badValue [] := by
  rw [onSet, sourceSetOf, if_neg (Nat.not_lt.2 unnamed)]
  rfl

/-! ### SELECT COUNTER (R186) -/

theorem selectCounterRequest_selected (s : State) (k : Fin 4) {event : Nat} (counted : event ≤ 15) :
    selectCounterRequest k.val event s = replied { s with counters := s.counters.set k ⟨event, 0⟩ } .ok [] := by
  rw [selectCounterRequest, dif_pos k.isLt, if_pos counted]
  rfl

theorem selectCounterRequest_refused (s : State) {counter event : Nat} (outside : 3 < counter ∨ 15 < event) :
    selectCounterRequest counter event s = replied s .badValue [] := by
  unfold selectCounterRequest
  split
  · rw [if_neg (by omega)]
    rfl
  · rfl

/-- Settles O34: READ ATTENTION reports what the sets share, a set that names a source above 10 is refused, and ALERT is
the level of the sets put in place. -/
theorem attentionRequestsChangeSets : Obligations.AttentionRequestsChangeSets := fun s =>
  ⟨congrArg Host.Outcome.next (readAttentionRequest_eq s),
    fun _ named => ⟨congrArg Host.Outcome.next (onSet_taken named s _),
      congrArg Host.Outcome.next (onSet_taken named s _), congrArg Host.Outcome.next (onSet_taken named s _)⟩,
    fun _ unnamed => ⟨congrArg Host.Outcome.next (onSet_refused unnamed s _),
      congrArg Host.Outcome.next (onSet_refused unnamed s _), congrArg Host.Outcome.next (onSet_refused unnamed s _)⟩,
    fun k _ counted => congrArg Host.Outcome.next (selectCounterRequest_selected s k counted),
    fun _ _ outside => congrArg Host.Outcome.next (selectCounterRequest_refused s outside)⟩

end Sys2Proof.Machine
end

section
/-! SUPPORT. The shared operations leave the queue alone (O3). -/

namespace Sys2Proof.Machine

set_option Elab.async false

/-! ### Operations that change nothing outside their units -/

variable (s : State)

theorem State.pending_of_outside {t : State} (h : t.outside = s.outside) : t.pending = s.pending :=
  congrArg (fun x => x.2.2.1) h

@[simp] theorem State.startPush_pending : s.startPush.pending = s.pending := s.pending_of_outside s.startPush_outside

@[simp] theorem State.startExtract_pending : s.startExtract.pending = s.pending :=
  s.pending_of_outside s.startExtract_outside

@[simp] theorem State.choose_pending : s.choose.pending = s.pending := s.pending_of_outside s.choose_outside

@[simp] theorem State.chooseIfReported_pending (before : State) : (s.chooseIfReported before).pending = s.pending :=
  s.pending_of_outside (s.chooseIfReported_outside before)

@[simp] theorem State.learnFrom_pending (r : BilletRecord) (residual : Int) (width : Nat) :
    (s.learnFrom r residual width).pending = s.pending :=
  s.pending_of_outside (s.learnFrom_outside r residual width)

@[simp] theorem State.moveLine_pending (new : LineState) : (s.moveLine new).pending = s.pending :=
  s.pending_of_outside (s.moveLine_outside new)

@[simp] theorem State.faultTaken_pending (o : Operation) : (s.faultTaken o).pending = s.pending := by
  obtain ⟨-, -, outside, -⟩ := s.faultTaken_frame o
  exact s.pending_of_outside outside

@[simp] theorem State.columnPushed_pending (loaded : Option (Fin 64)) : (s.columnPushed loaded).pending = s.pending := by
  obtain ⟨outside, -⟩ := s.columnPushed_outside loaded
  exact s.pending_of_outside outside

/-! ### Changes of line state and hold causes (R75, R76) -/

@[simp] theorem State.stopIfDrained_pending : s.stopIfDrained.pending = s.pending := by
  unfold State.stopIfDrained
  split <;> simp

@[simp] theorem State.changeLine_pending (new : LineState) : (s.changeLine new).pending = s.pending := by
  unfold State.changeLine
  dsimp only
  split <;> simp

@[simp] theorem State.afterCauseAdded_pending : s.afterCauseAdded.pending = s.pending := by
  unfold State.afterCauseAdded
  split <;> simp

@[simp] theorem State.afterCauseRemoved_pending (held : Bool) : (s.afterCauseRemoved held).pending = s.pending := by
  unfold State.afterCauseRemoved
  split <;> simp

@[simp] theorem State.addSupply_pending : s.addSupply.pending = s.pending := by
  unfold State.addSupply
  split <;> simp

@[simp] theorem State.addPressStop_pending : s.addPressStop.pending = s.pending := by
  unfold State.addPressStop
  split <;> simp

@[simp] theorem State.pressStopAsserts_pending : s.pressStopAsserts.pending = s.pending := by
  unfold State.pressStopAsserts
  split <;> simp

@[simp] theorem State.takePressStop_pending : s.takePressStop.pending = s.pending := by
  unfold State.takePressStop
  split <;> simp

@[simp] theorem State.supplyLoss_pending (energy : SliceRecord → Nat) : (s.supplyLoss energy).pending = s.pending := by
  simp [State.supplyLoss]

/-! ### Completions and timeouts (R97, R104, R112) -/

@[simp] theorem State.afterCompletion_pending : s.afterCompletion.pending = s.pending := by
  simp [State.afterCompletion]

@[simp] theorem State.pushCompleted_pending (loaded : Option (Fin 64)) :
    (s.pushCompleted loaded).pending = s.pending := by
  unfold State.pushCompleted
  dsimp only
  split <;> simp

@[simp] theorem State.purgeNext_pending : s.purgeNext.pending = s.pending := by
  unfold State.purgeNext
  split
  · rfl
  · simp

@[simp] theorem State.handlingTimeout_pending (o : Operation) : (s.handlingTimeout o).pending = s.pending :=
  (State.changeLine_pending (s.faultTaken o) .faulted).trans (s.faultTaken_pending o)

/-! ### Orders and recipes -/

@[simp] theorem State.withdrawNewest_pending (n : Nat) : (s.withdrawNewest n).1.pending = s.pending := by
  obtain ⟨ring, recipes, h⟩ := s.withdrawNewest_frame n
  rw [h]

@[simp] theorem State.reclaimOldest_pending (n : Nat) : (s.reclaimOldest n).1.pending = s.pending := by
  obtain ⟨ring, h⟩ := s.reclaimOldest_frame n
  rw [h]

/-- The lookup of a posted key touches the table alone, or allocates an entry (R146). -/
theorem State.lookup_pending {k : Key} {found : Lookup} (h : s.lookup k = some found) :
    found.after.pending = s.pending := by
  unfold State.lookup at h
  split at h
  · cases h; rfl
  split at h
  · cases h; rfl
  split at h
  · cases h; rfl
  split at h
  · cases h
  split at h
  · cases h; simp
  · cases h

@[simp] theorem State.loadPresent_pending (i : Fin 32) (e : Entry) (body : Body) (trim : Int) (policy : Policy) :
    (s.loadPresent i e body trim policy).pending = s.pending := by
  unfold State.loadPresent
  dsimp only
  split <;> rfl

@[simp] theorem State.loadAbsent_pending (i : Fin 32) (key : Key) (body : Body) (trim : Int) (policy : Policy) :
    (s.loadAbsent i key body trim policy).pending = s.pending := by
  simp [State.loadAbsent]

@[simp] theorem State.afterLoad_pending (before : State) : (s.afterLoad before).pending = s.pending := by
  simp [State.afterLoad]

@[simp] theorem State.sweep_pending : s.sweep.1.pending = s.pending := by
  unfold State.sweep
  refine List.foldlRecOn (motive := fun x : State × Nat × Nat => x.1.pending = s.pending) (List.finRange 32) sweepEntry
    rfl fun x kept i _ => ?_
  rcases sweepEntry_cases x i with ⟨-, e⟩ | ⟨_, -, -, -, -, e⟩ | ⟨_, -, -, e⟩ <;> rw [e]
  · exact kept
  · exact kept
  · simpa using kept

/-! ### The resets (R207) -/

/-- A fold over operations that leave the queue alone leaves it alone. -/
theorem foldl_pending {α : Type} {f : State → α → State} (h : ∀ s x, (f s x).pending = s.pending) (l : List α) :
    (l.foldl f s).pending = s.pending := by
  induction l generalizing s with
  | nil => rfl
  | cons x l ih => exact (ih (f s x)).trans (h s x)

@[simp] theorem State.loseRecords_pending : s.loseRecords.pending = s.pending :=
  foldl_pending s (by simp) s.tracker.train

@[simp] theorem State.loseLoading_pending : s.loseLoading.pending = s.pending := by
  unfold State.loseLoading
  refine foldl_pending s (fun t i => ?_) (List.finRange 64)
  unfold State.loseLoadingAt
  split
  · simp
  all_goals rfl

@[simp] theorem State.restartRecipes_pending : s.restartRecipes.pending = s.pending := by
  unfold State.restartRecipes
  dsimp only
  refine foldl_pending s (fun t i => ?_) (List.finRange 32)
  unfold State.dropPendingAt
  split
  · split <;> simp
  · rfl

@[simp] theorem State.restartArbiter_pending : s.restartArbiter.pending = s.pending := by
  unfold State.restartArbiter
  dsimp only
  split <;> rfl

@[simp] theorem State.restart_pending : s.restart.pending = s.pending := by
  rw [s.restart_eq, State.takePressStop_pending]
  simp [State.restartBlocks, State.restartLine, State.restartTracker, State.clearBatch]

end Sys2Proof.Machine
end

section
/-! PROOF. Every command answers a next state and leaves the queue alone (O3). -/

namespace Sys2Proof.Machine

set_option Elab.async false

section
variable (s : State)

/-! ### Requests of the line -/

theorem startRequest_pending : (startRequest s).pending = s.pending := by
  unfold startRequest
  iterate 3
    split
    · rfl
  simp

theorem stopRequest_pending : (stopRequest s).pending = s.pending := by
  unfold stopRequest
  split <;> simp

theorem holdRequest_pending : (holdRequest s).pending = s.pending := by
  unfold holdRequest
  split
  · simp only [State.accept_frame, State.settle_frame]
    split <;> simp
  · simp

theorem resumeRequest_pending : (resumeRequest s).pending = s.pending := by
  unfold resumeRequest
  dsimp only
  split <;> simp

theorem drainRequest_pending : (drainRequest s).pending = s.pending := by
  unfold drainRequest
  split <;> simp

theorem purgeRequest_pending : (purgeRequest s).pending = s.pending := by
  unfold purgeRequest
  split <;> simp [State.startPurgeDivert]

theorem declareEmptyRequest_pending : (declareEmptyRequest s).pending = s.pending := by
  unfold declareEmptyRequest
  iterate 2
    split
    · rfl
  simp

theorem readTrainRequest_pending (first count : Nat) : (readTrainRequest first count s).pending = s.pending := by
  unfold readTrainRequest
  split <;> simp

/-! ### Requests of the zones and the converter -/

/-- A request that names a zone leaves the queue alone if it does so for every zone. -/
theorem onZone_pending {s : State} {f : Fin 6 → State} (zone : Nat) (h : ∀ z, (f z).pending = s.pending) :
    (onZone zone s f).pending = s.pending := by
  unfold onZone
  split
  · exact h _
  · simp

theorem setZoneRequest_pending (zone mode blockSize setpoint budget : Nat) (options : BitVec 8) :
    (setZoneRequest zone mode blockSize setpoint budget options s).pending = s.pending := by
  refine onZone_pending zone fun z => ?_
  split <;> simp

theorem readZoneRequest_pending (zone : Nat) : (readZoneRequest zone s).pending = s.pending :=
  onZone_pending zone fun _ => rfl

theorem enableZoneRequest_pending (zone : Nat) : (enableZoneRequest zone s).pending = s.pending := by
  refine onZone_pending zone fun z => ?_
  dsimp only
  split <;> simp

theorem disableZoneRequest_pending (zone : Nat) : (disableZoneRequest zone s).pending = s.pending := by
  refine onZone_pending zone fun z => ?_
  split <;> simp

theorem pauseZoneRequest_pending (zone : Nat) : (pauseZoneRequest zone s).pending = s.pending := by
  refine onZone_pending zone fun z => ?_
  split <;> simp

theorem continueZoneRequest_pending (zone : Nat) : (continueZoneRequest zone s).pending = s.pending :=
  onZone_pending zone fun z => by simp

theorem doseZoneRequest_pending (zone : Nat) : (doseZoneRequest zone s).pending = s.pending := by
  refine onZone_pending zone fun z => ?_
  split
  iterate 3 rfl
  all_goals split <;> simp

theorem powerOnRequest_pending : (powerOnRequest s).pending = s.pending := by
  unfold powerOnRequest
  split <;> simp

theorem powerContinueRequest_pending : (powerContinueRequest s).pending = s.pending := by
  simp [powerContinueRequest]

/-! ### Requests of the ring -/

theorem postOrderRequest_pending (billetId : BitVec 32) (key : Key) (flags : BitVec 8) (entryTemp exitOverride : Nat) :
    (postOrderRequest billetId key flags entryTemp exitOverride s).pending = s.pending := by
  unfold postOrderRequest
  split
  · rfl
  split
  · rfl
  split
  · rfl
  · rename_i found lookup
    exact s.lookup_pending lookup

theorem withdrawRequest_pending (n : Nat) : (withdrawRequest n s).pending = s.pending := by
  unfold withdrawRequest
  dsimp only
  split <;> simp

theorem readOrdersRequest_pending (first count : Nat) : (readOrdersRequest first count s).pending = s.pending := by
  unfold readOrdersRequest
  split
  · split <;> rfl
  · rfl

theorem reclaimRequest_pending (n : Nat) : (reclaimRequest n s).pending = s.pending := by
  unfold reclaimRequest
  dsimp only
  split <;> simp

/-! ### Requests of the recipe table -/

/-- A request that names a key leaves the queue alone if it does so for every entry. -/
theorem onKey_pending {s : State} {f : Fin 32 → Entry → State} (key : Key) (h : ∀ i e, (f i e).pending = s.pending) :
    (onKey key s f).pending = s.pending := by
  unfold onKey
  split
  · rfl
  · split
    · exact h _ _
    · rfl

theorem loadRecipeRequest_pending (key : Key) (body : Body) (trim : Int) (policy : Nat) :
    (loadRecipeRequest key body trim policy s).pending = s.pending := by
  unfold loadRecipeRequest
  split
  · rfl
  split
  · split
    · split <;> simp
    · split <;> simp
  · rfl

theorem readRecipeRequest_pending (selector : RecipeSelector) : (readRecipeRequest selector s).pending = s.pending := by
  cases selector with
  | key k => exact onKey_pending k fun _ _ => rfl
  | window n =>
    unfold readRecipeRequest
    dsimp only
    split <;> rfl

theorem flushRecipeRequest_pending (key : Key) : (flushRecipeRequest key s).pending = s.pending := by
  refine onKey_pending key fun i e => ?_
  iterate 2
    split
    · rfl
  simp

theorem flushUnpinnedRequest_pending : (flushUnpinnedRequest s).pending = s.pending := by
  simp [flushUnpinnedRequest]

theorem pinRecipeRequest_pending (key : Key) : (pinRecipeRequest key s).pending = s.pending := by
  refine onKey_pending key fun i e => ?_
  iterate 2
    split
    · rfl
  simp

theorem unpinRecipeRequest_pending (key : Key) : (unpinRecipeRequest key s).pending = s.pending :=
  onKey_pending key fun _ _ => rfl

theorem setWindowRequest_pending (window enable : Nat) (base mask : BitVec 16) (body : Body) :
    (setWindowRequest window enable base mask body s).pending = s.pending := by
  unfold setWindowRequest
  split
  · rfl
  split
  · split <;> rfl
  · rfl

theorem requestWritebackRequest_pending (key : Key) : (requestWritebackRequest key s).pending = s.pending := by
  refine onKey_pending key fun i e => ?_
  iterate 2
    split
    · rfl
  simp

/-! ### Requests of the attention unit, the counters and the settings -/

theorem onSet_pending (set : BitVec 16) (f : BitVec 11 → Attention) : (onSet set s f).pending = s.pending := by
  unfold onSet
  split <;> rfl

theorem selectCounterRequest_pending (counter event : Nat) :
    (selectCounterRequest counter event s).pending = s.pending := by
  unfold selectCounterRequest
  split
  · split <;> rfl
  · rfl

theorem writeSettingRequest_pending (id value : Nat) : (writeSettingRequest id value s).pending = s.pending := by
  unfold writeSettingRequest
  split
  · rfl
  split
  · split
    · dsimp only [State.accept]
      split <;> simp
    · rfl
  · rfl

theorem writeProfileRequest_pending (profile : Vector Nat 12) : (writeProfileRequest profile s).pending = s.pending := by
  unfold writeProfileRequest
  split <;> simp

/-! ### Every request -/

theorem takeRequest_pending (i : Instr) : (takeRequest i s).pending = s.pending := by
  cases i
  case start => exact startRequest_pending s
  case stop => exact stopRequest_pending s
  case hold => exact holdRequest_pending s
  case resume => exact resumeRequest_pending s
  case drain => exact drainRequest_pending s
  case purge => exact purgeRequest_pending s
  case declareEmpty => exact declareEmptyRequest_pending s
  case readTrain => exact readTrainRequest_pending s _ _
  case setZone => exact setZoneRequest_pending s _ _ _ _ _ _
  case readZone => exact readZoneRequest_pending s _
  case enableZone => exact enableZoneRequest_pending s _
  case disableZone => exact disableZoneRequest_pending s _
  case pauseZone => exact pauseZoneRequest_pending s _
  case continueZone => exact continueZoneRequest_pending s _
  case doseZone => exact doseZoneRequest_pending s _
  case powerOn => exact powerOnRequest_pending s
  case powerContinue => exact powerContinueRequest_pending s
  case postOrder => exact postOrderRequest_pending s _ _ _ _ _
  case withdraw => exact withdrawRequest_pending s _
  case readOrders => exact readOrdersRequest_pending s _ _
  case reclaim => exact reclaimRequest_pending s _
  case loadRecipe => exact loadRecipeRequest_pending s _ _ _ _
  case readRecipe => exact readRecipeRequest_pending s _
  case flushRecipe => exact flushRecipeRequest_pending s _
  case flushUnpinned => exact flushUnpinnedRequest_pending s
  case pinRecipe => exact pinRecipeRequest_pending s _
  case unpinRecipe => exact unpinRecipeRequest_pending s _
  case setWindow => exact setWindowRequest_pending s _ _ _ _ _
  case requestWriteback => exact requestWritebackRequest_pending s _
  case enableAttention | disableAttention | clearAttention => exact onSet_pending s _ _
  case selectCounter => exact selectCounterRequest_pending s _ _
  case writeSetting => exact writeSettingRequest_pending s _ _
  case writeProfile => exact writeProfileRequest_pending s _
  all_goals rfl

/-! ### Events of the converter and the guards -/

theorem sliceDone_pending (sequence : BitVec 8) (energy : Nat) : (sliceDone sequence energy s).pending = s.pending := by
  unfold sliceDone
  split <;> simp

theorem sliceFault_pending (sequence : BitVec 8) (energy : Nat) :
    (sliceFault sequence energy s).pending = s.pending := by
  unfold sliceFault
  split <;> simp

theorem convReadyFall_pending : (convReadyFall s).pending = s.pending := by
  unfold convReadyFall
  dsimp only
  split <;> simp

theorem sliceTimerExpiry_pending : (sliceTimerExpiry s).pending = s.pending := by
  unfold sliceTimerExpiry
  split
  · split <;> simp
  · rfl

theorem State.cancelForHalt_pending (z : Fin 6) : (s.cancelForHalt z).pending = s.pending := by
  unfold State.cancelForHalt
  split
  · rfl
  · dsimp only
    split <;> rfl

theorem guardAsserted_pending (zone : Nat) : (guardAsserted zone s).pending = s.pending := by
  unfold guardAsserted
  split
  · rfl
  · rename_i z _
    dsimp only
    split
    iterate 3 simp
    · exact (s.setGuard z true).cancelForHalt_pending z
    iterate 2 rfl

theorem guardNegated_pending (zone : Nat) : (guardNegated zone s).pending = s.pending := by
  unfold guardNegated
  split <;> rfl

/-! ### Events of the tracker -/

theorem pyroTemperatureMessage_pending (value : Nat) : (pyroTemperatureMessage value s).pending = s.pending := by
  unfold pyroTemperatureMessage
  split <;> simp

theorem readingTimerExpiry_pending : (readingTimerExpiry s).pending = s.pending := by
  unfold readingTimerExpiry
  split
  · dsimp only
    split
    · split <;> simp
    · rfl
  · rfl

theorem surveyTimerExpiry_pending : (surveyTimerExpiry s).pending = s.pending := by
  unfold surveyTimerExpiry
  split
  · simp [State.recheckExit]
  · rfl

/-! ### Events of the press and of handling -/

theorem pressCall_pending : (pressCall s).pending = s.pending := by
  unfold pressCall
  dsimp only
  split
  · split <;> simp
  · simp

theorem pressStopNegated_pending : (pressStopNegated s).pending = s.pending := by
  unfold pressStopNegated
  dsimp only
  split <;> simp

theorem holdDelayExpiry_pending : (holdDelayExpiry s).pending = s.pending := by
  unfold holdDelayExpiry
  split <;> simp

theorem pushDone_pending : (pushDone s).pending = s.pending := by
  unfold pushDone
  split
  · dsimp only
    split <;> simp
  all_goals rfl

theorem extractDone_pending : (extractDone s).pending = s.pending := by
  unfold extractDone
  split
  · simp
  all_goals rfl

theorem divertDone_pending : (divertDone s).pending = s.pending := by
  unfold divertDone
  split
  · split <;> simp
  all_goals rfl

theorem handlingTimerExpiry_pending : (handlingTimerExpiry s).pending = s.pending := by
  unfold handlingTimerExpiry
  split
  · split <;> simp
  · rfl

theorem minPushTimerExpiry_pending : (minPushTimerExpiry s).pending = s.pending := by
  unfold minPushTimerExpiry
  split <;> simp

theorem coldWaitExpiry_pending : (coldWaitExpiry s).pending = s.pending := by
  unfold coldWaitExpiry
  split
  · simp
  all_goals rfl

/-! ### Timers of the ring and the table -/

theorem batchDelayExpiry_pending : (batchDelayExpiry s).pending = s.pending := by
  unfold batchDelayExpiry
  split
  · dsimp only
    split <;> rfl
  · rfl

theorem fetchTimeout_pending (key : Key) : (fetchTimeout key s).pending = s.pending := by
  unfold fetchTimeout
  split <;> simp

/-! ### The link and the resets -/

theorem formReply_pending (f : Frame) : (s.formReply f).pending = s.pending := by
  unfold State.formReply
  split <;> rfl

theorem dispatch_pending (kind : Byte) (payload : List Byte) : (s.dispatch kind payload).pending = s.pending := by
  unfold State.dispatch
  split
  iterate 3 rfl
  · exact takeRequest_pending s _

theorem takeFrame_pending (f : Frame) : (s.takeFrame f).pending = s.pending :=
  (formReply_pending _ f).trans (dispatch_pending { s with port.inbound := some f } f.kind f.payload)

theorem frameReceived_pending (f : Frame) : (frameReceived f s).pending = s.pending := by
  unfold frameReceived
  split
  · rfl
  split
  · rfl
  unfold State.checkFrame
  iterate 3
    split
    · rfl
  exact takeFrame_pending s.hunt f

theorem State.abandonFrame_pending : s.abandonFrame.pending = s.pending := by
  unfold State.abandonFrame
  split <;> rfl

theorem lengthByteDiscard_pending (length : Nat) : (lengthByteDiscard length s).pending = s.pending := by
  unfold lengthByteDiscard
  split
  · exact s.abandonFrame_pending
  · rfl

theorem syncByteBeginsFrame_pending : (syncByteBeginsFrame s).pending = s.pending := by
  unfold syncByteBeginsFrame
  split <;> rfl

theorem replySent_pending : (replySent s).pending = s.pending := by
  rcases replySent_cases s with ⟨-, e⟩ | ⟨-, -, -, -, e⟩ | ⟨-, -, -, e⟩ <;> rw [e]
  · exact s.endReply.restart_pending
  · rfl

theorem restartTakesEffect_pending : (restartTakesEffect s).pending = s.pending := by
  unfold restartTakesEffect
  split <;> simp

theorem powerOnReset_pending : (powerOnReset s).pending = s.pending :=
  s.powerOnBlocks.takePressStop_pending

end

/-! ### Every command -/

/-- Settles O3: every arm of `exec` answers a next state, and no part of it writes the queue. -/
theorem everyCommandCompletes : Obligations.EveryCommandCompletes := by
  intro i s
  by_cases request : (encodeRequest i).isSome = true
  · exact ⟨takeRequest i s, exec_request request s, takeRequest_pending s i⟩
  cases i
  case restartTakesEffect => exact ⟨_, rfl, restartTakesEffect_pending s⟩
  case powerOnReset => exact ⟨_, rfl, powerOnReset_pending s⟩
  case frameReceived f => exact ⟨_, rfl, frameReceived_pending s f⟩
  case idleGapAbandon | framingErrorAbandon => exact ⟨_, rfl, s.abandonFrame_pending⟩
  case lengthByteDiscard n => exact ⟨_, rfl, lengthByteDiscard_pending s n⟩
  case syncByteBeginsFrame => exact ⟨_, rfl, syncByteBeginsFrame_pending s⟩
  case replySent => exact ⟨_, rfl, replySent_pending s⟩
  case sliceDone sequence energy => exact ⟨_, rfl, sliceDone_pending s sequence energy⟩
  case sliceFault sequence energy => exact ⟨_, rfl, sliceFault_pending s sequence energy⟩
  case convReadyFall => exact ⟨_, rfl, convReadyFall_pending s⟩
  case sliceTimerExpiry => exact ⟨_, rfl, sliceTimerExpiry_pending s⟩
  case guardAsserted zone => exact ⟨_, rfl, guardAsserted_pending s zone⟩
  case guardNegated zone => exact ⟨_, rfl, guardNegated_pending s zone⟩
  case pyroTemperatureMessage value => exact ⟨_, rfl, pyroTemperatureMessage_pending s value⟩
  case readingTimerExpiry => exact ⟨_, rfl, readingTimerExpiry_pending s⟩
  case surveyTimerExpiry => exact ⟨_, rfl, surveyTimerExpiry_pending s⟩
  case pressCall => exact ⟨_, rfl, pressCall_pending s⟩
  case pressStopAsserted => exact ⟨_, rfl, State.pressStopAsserts_pending { s with pins.pressStop := true }⟩
  case pressStopNegated => exact ⟨_, rfl, pressStopNegated_pending s⟩
  case holdDelayExpiry => exact ⟨_, rfl, holdDelayExpiry_pending s⟩
  case pushDone => exact ⟨_, rfl, pushDone_pending s⟩
  case extractDone => exact ⟨_, rfl, extractDone_pending s⟩
  case divertDone => exact ⟨_, rfl, divertDone_pending s⟩
  case handlingTimerExpiry => exact ⟨_, rfl, handlingTimerExpiry_pending s⟩
  case minPushTimerExpiry => exact ⟨_, rfl, minPushTimerExpiry_pending s⟩
  case coldWaitExpiry => exact ⟨_, rfl, coldWaitExpiry_pending s⟩
  case batchDelayExpiry => exact ⟨_, rfl, batchDelayExpiry_pending s⟩
  case fetchTimeout key => exact ⟨_, rfl, fetchTimeout_pending s key⟩
  case convReadyRise | pressCallNegated | pyroNoTarget => exact ⟨_, rfl, rfl⟩
  case readRecipe selector => cases selector <;> exact absurd rfl request
  all_goals exact absurd rfl request

end Sys2Proof.Machine
end

section
/-! PROOF. Every well-formed request is decoded from the bytes that carry it (O4). -/

namespace Sys2Proof

set_option Elab.async false

/-! ### Fields (R197) -/

theorem fitsByte_iff {n : Nat} : fitsByte n = true ↔ n < 256 := decide_eq_true_iff

theorem fitsHalf_iff {n : Nat} : fitsHalf n = true ↔ n < 65536 := decide_eq_true_iff

theorem fitsWord_iff {n : Nat} : fitsWord n = true ↔ n < 4294967296 := decide_eq_true_iff

theorem fitsSigned_iff {t : Int} : fitsSigned t = true ↔ -32768 ≤ t ∧ t < 32768 := decide_eq_true_iff

/-- A two-byte set or key pattern read back from its bytes, the more significant one first. -/
theorem append_put16 (x : BitVec 16) : BitVec.ofNat 8 (x.toNat / 256) ++ BitVec.ofNat 8 x.toNat = x := by
  apply BitVec.eq_of_toNat_eq
  rw [BitVec.toNat_append, BitVec.toNat_ofNat, BitVec.toNat_ofNat, ← Nat.shiftLeft_add_eq_or_of_lt (by omega),
    Nat.shiftLeft_eq]
  omega

/-- A billet id read back from its four bytes. -/
theorem ofNat_get32_put32 (x : BitVec 32) :
    BitVec.ofNat 32 (get32 (BitVec.ofNat 8 x.toNat) (BitVec.ofNat 8 (x.toNat / 256)) (BitVec.ofNat 8 (x.toNat / 65536))
      (BitVec.ofNat 8 (x.toNat / 65536 / 256))) = x := by
  rw [get32_put32 x.isLt, BitVec.ofNat_toNat, BitVec.setWidth_eq]

theorem getBody_putBody {b : Body} (fits : b.fits = true) : getBody (putBody b) = some b := by
  simp only [Body.fits, Bool.and_eq_true, fitsByte_iff, fitsHalf_iff] at fits
  obtain ⟨⟨⟨⟨⟨⟨⟨⟨gain, surface⟩, loss⟩, equal⟩, tExit⟩, width⟩, slim⟩, tHold⟩, maxHold⟩ := fits
  simp only [putBody, put16, put8, List.cons_append, List.nil_append, getBody, get16_put16 gain, get8_put8 surface,
    get16_put16 loss, get16_put16 equal, get16_put16 tExit, get16_put16 width, get16_put16 slim, get16_put16 tHold,
    get16_put16 maxHold]

theorem length_putBody (b : Body) : (putBody b).length = 17 := rfl

/-- The twelve values of a profile, one by one. -/
theorem getProfile_flatMap {profile : Vector Nat 12} (fits : profile.toList.all fitsHalf = true) :
    getProfile (profile.toList.flatMap put16) = some profile := by
  obtain ⟨⟨values⟩, size⟩ := profile
  match values, size with
  | [a, b, c, d, e, f, g, h, i, j, k, l], _ =>
    simp only [Vector.toList, List.all_cons, List.all_nil, Bool.and_eq_true, fitsHalf_iff] at fits
    obtain ⟨ha, hb, hc, hd, he, hf, hg, hh, hi, hj, hk, hl, -⟩ := fits
    simp only [Vector.toList, put16, List.flatMap_cons, List.flatMap_nil, List.cons_append, List.nil_append, getProfile,
      get16_put16 ha, get16_put16 hb, get16_put16 hc, get16_put16 hd, get16_put16 he, get16_put16 hf, get16_put16 hg,
      get16_put16 hh, get16_put16 hi, get16_put16 hj, get16_put16 hk, get16_put16 hl]

/-! ### Payloads, form by form (Table 10-4) -/

theorem oneByte_put8 {n : Nat} (fits : fitsByte n = true) (f : Nat → Instr) : oneByte f (put8 n) = .request (f n) := by
  simp only [put8, oneByte, get8_put8 (fitsByte_iff.1 fits)]

theorem twoBytes_put8 {m n : Nat} (fits : (fitsByte m && fitsByte n) = true) (f : Nat → Nat → Instr) :
    twoBytes f (put8 m ++ put8 n) = .request (f m n) := by
  obtain ⟨hm, hn⟩ := Bool.and_eq_true_iff.1 fits
  simp only [put8, List.cons_append, List.nil_append, twoBytes, get8_put8 (fitsByte_iff.1 hm),
    get8_put8 (fitsByte_iff.1 hn)]

theorem oneKey_putKey (k : Key) (f : Key → Instr) : oneKey f (putKey k) = .request (f k) := rfl

theorem oneSet_put16 (x : BitVec 16) (f : BitVec 16 → Instr) : oneSet f (put16 x.toNat) = .request (f x) := by
  simp only [put16, oneSet, append_put16]

theorem decodeSetZone_put {zone mode block setpoint budget : Nat} {options : BitVec 8}
    (fits : (Instr.setZone zone mode block setpoint budget options).wellFormed = true) :
    decodeSetZone (put8 zone ++ put8 mode ++ put8 block ++ put16 setpoint ++ put16 budget ++ [options]) =
      .request (.setZone zone mode block setpoint budget options) := by
  simp only [Instr.wellFormed, Bool.and_eq_true, fitsByte_iff, fitsHalf_iff] at fits
  obtain ⟨⟨⟨⟨hz, hm⟩, hb⟩, hs⟩, hg⟩ := fits
  simp only [put8, put16, List.cons_append, List.nil_append, decodeSetZone, get8_put8 hz, get8_put8 hm, get8_put8 hb,
    get16_put16 hs, get16_put16 hg]

theorem decodePostOrder_put {billetId : BitVec 32} {key : Key} {flags : BitVec 8} {temp exitOverride : Nat}
    (fits : (Instr.postOrder billetId key flags temp exitOverride).wellFormed = true) :
    decodePostOrder (put32 billetId.toNat ++ putKey key ++ [flags] ++ put16 temp ++ put16 exitOverride) =
      .request (.postOrder billetId key flags temp exitOverride) := by
  simp only [Instr.wellFormed, Bool.and_eq_true, fitsHalf_iff] at fits
  obtain ⟨ht, hx⟩ := fits
  simp only [put32, put16, putKey, List.cons_append, List.nil_append, decodePostOrder, ofNat_get32_put32,
    getKey_putKey, get16_put16 ht, get16_put16 hx]

theorem decodeLoadRecipe_put {key : Key} {body : Body} {trim : Int} {policy : Nat}
    (fits : (Instr.loadRecipe key body trim policy).wellFormed = true) :
    decodeLoadRecipe (putKey key ++ putBody body ++ putSigned trim ++ put8 policy) =
      .request (.loadRecipe key body trim policy) := by
  simp only [Instr.wellFormed, Bool.and_eq_true, fitsSigned_iff, fitsByte_iff] at fits
  obtain ⟨⟨hb, ht⟩, hp⟩ := fits
  have bytes : putKey key ++ putBody body ++ putSigned trim ++ put8 policy =
      key.size :: key.grade :: (putBody body ++ (putSigned trim ++ put8 policy)) := by
    simp only [putKey, List.cons_append, List.nil_append, List.append_assoc]
  rw [bytes]
  dsimp only [decodeLoadRecipe]
  rw [List.take_left' (length_putBody body), List.drop_left' (length_putBody body), getBody_putBody hb]
  simp only [putSigned, put16, put8, List.cons_append, List.nil_append, getKey_putKey, getSigned_putSigned ht,
    get8_put8 hp]

theorem decodeSetWindow_put {window enable : Nat} {base mask : BitVec 16} {body : Body}
    (fits : (Instr.setWindow window enable base mask body).wellFormed = true) :
    decodeSetWindow (put8 window ++ put8 enable ++ put16 base.toNat ++ put16 mask.toNat ++ putBody body) =
      .request (.setWindow window enable base mask body) := by
  simp only [Instr.wellFormed, Bool.and_eq_true, fitsByte_iff] at fits
  obtain ⟨⟨hw, he⟩, hb⟩ := fits
  simp only [put8, put16, List.cons_append, List.nil_append, decodeSetWindow, getBody_putBody hb, get8_put8 hw,
    get8_put8 he, append_put16]

theorem decodeWriteSetting_put {id value : Nat} (fits : (Instr.writeSetting id value).wellFormed = true) :
    decodeWriteSetting (put8 id ++ put32 value) = .request (.writeSetting id value) := by
  simp only [Instr.wellFormed, Bool.and_eq_true, fitsByte_iff, fitsWord_iff] at fits
  obtain ⟨hi, hv⟩ := fits
  simp only [put8, put32, put16, List.cons_append, List.nil_append, decodeWriteSetting, get8_put8 hi, get32_put32 hv]

theorem decodeReadRecipe_window {n : Nat} (fits : fitsByte n = true) :
    decodeReadRecipe (put8 1 ++ put8 n ++ put8 0) = .request (.readRecipe (.window n)) := by
  have number : get8 (BitVec.ofNat 8 n) = n := get8_put8 (fitsByte_iff.1 fits)
  exact congrArg (fun m => Dispatched.request (.readRecipe (.window m))) number

theorem decodeWriteProfile_put {profile : Vector Nat 12} (fits : profile.toList.all fitsHalf = true) :
    decodeWriteProfile (profile.toList.flatMap put16) = .request (.writeProfile profile) := by
  rw [decodeWriteProfile, getProfile_flatMap fits]

/-! ### Every request -/

/-- Settles O4: each row's bytes are read back by the decoder of its form. -/
theorem requestRoundTrip : Obligations.RequestRoundTrip := by
  intro i kind payload fits e
  cases i
  case readTrain | readOrders | selectCounter => cases e; exact twoBytes_put8 fits _
  case readZone | enableZone | disableZone | pauseZone | continueZone | doseZone | withdraw | reclaim =>
    cases e; exact oneByte_put8 fits _
  case flushRecipe | pinRecipe | unpinRecipe | requestWriteback => cases e; exact oneKey_putKey _ _
  case enableAttention | disableAttention | clearAttention => cases e; exact oneSet_put16 _ _
  case setZone => cases e; exact decodeSetZone_put fits
  case postOrder => cases e; exact decodePostOrder_put fits
  case loadRecipe => cases e; exact decodeLoadRecipe_put fits
  case readRecipe selector =>
    cases selector with
    | key k => cases e; rfl
    | window n => cases e; exact decodeReadRecipe_window fits
  case setWindow => cases e; exact decodeSetWindow_put fits
  case writeSetting => cases e; exact decodeWriteSetting_put fits
  case writeProfile => cases e; exact decodeWriteProfile_put fits
  case start | stop | hold | resume | drain | purge | declareEmpty | readLine | powerOn | powerOff | powerPause |
      powerContinue | flushUnpinned | readWants | takeWritebacks | readAttention | readCounters | readSettings |
      identify | restart =>
    cases e; rfl
  all_goals cases e

end Sys2Proof
end

section
/-! PROOF. Dispatch follows Table 10-4 (O5). -/

namespace Sys2Proof

set_option Elab.async false

open Sys2Proof.Machine

/-! ### What a payload of the right length spells (R193) -/

/-- A payload of its kind's length spells a request of that kind, or one of the two encodings that chapter 10 leaves
undefined: a POWER sub-action or a READ RECIPE selector (R52, R197). -/
def Spelled (kind : Byte) (payload : List Byte) (found : Dispatched) : Prop :=
  (∃ i, found = .request i ∧ (encodeRequest i).map Prod.fst = some kind) ∨
  (found = .badEncoding ∧
    ((kind = 0x17#8 ∧ ∃ b, payload.head? = some b ∧ 3 < b.toNat) ∨
      (kind = 0x31#8 ∧ ∃ b, payload.head? = some b ∧ 1 < b.toNat)))

/-- A decoder keeps to a kind's row of Table 10-4: it refuses any other length than the row's, and finds what a payload of
that length spells. -/
structure KeepsRow (kind : Byte) (length : Nat) (decode : List Byte → Dispatched) : Prop where
  refuses : ∀ payload, payload.length ≠ length → decode payload = .badLength
  spells  : ∀ payload, payload.length = length → Spelled kind payload (decode payload)

theorem Spelled.request {kind : Byte} {payload : List Byte} {i : Instr}
    (carried : (encodeRequest i).map Prod.fst = some kind) : Spelled kind payload (.request i) :=
  .inl ⟨i, rfl, carried⟩

/-! ### The decoders, form by form -/

section
variable {kind : Byte}

theorem noPayload_keepsRow {i : Instr} (carried : (encodeRequest i).map Prod.fst = some kind) :
    KeepsRow kind 0 (noPayload i) where
  refuses payload other := by
    unfold noPayload
    split
    · exact absurd rfl other
    · rfl
  spells payload own := by
    match payload, own with
    | [], _ => exact .request carried

theorem oneByte_keepsRow {f : Nat → Instr} (carried : ∀ n, (encodeRequest (f n)).map Prod.fst = some kind) :
    KeepsRow kind 1 (oneByte f) where
  refuses payload other := by
    unfold oneByte
    split
    · exact absurd rfl other
    · rfl
  spells payload own := by
    match payload, own with
    | [_], _ => exact .request (carried _)

theorem twoBytes_keepsRow {f : Nat → Nat → Instr} (carried : ∀ m n, (encodeRequest (f m n)).map Prod.fst = some kind) :
    KeepsRow kind 2 (twoBytes f) where
  refuses payload other := by
    unfold twoBytes
    split
    · exact absurd rfl other
    · rfl
  spells payload own := by
    match payload, own with
    | [_, _], _ => exact .request (carried _ _)

theorem oneKey_keepsRow {f : Key → Instr} (carried : ∀ k, (encodeRequest (f k)).map Prod.fst = some kind) :
    KeepsRow kind 2 (oneKey f) where
  refuses payload other := by
    unfold oneKey
    split
    · exact absurd rfl other
    · rfl
  spells payload own := by
    match payload, own with
    | [_, _], _ => exact .request (carried _)

theorem oneSet_keepsRow {f : BitVec 16 → Instr} (carried : ∀ x, (encodeRequest (f x)).map Prod.fst = some kind) :
    KeepsRow kind 2 (oneSet f) where
  refuses payload other := by
    unfold oneSet
    split
    · exact absurd rfl other
    · rfl
  spells payload own := by
    match payload, own with
    | [_, _], _ => exact .request (carried _)

end

/-- A sub-action above 3 is undefined (R52). -/
theorem decodePower_keepsRow : KeepsRow 0x17 1 decodePower where
  refuses payload other := by
    unfold decodePower
    split
    · exact absurd rfl other
    · rfl
  spells payload own := by
    match payload, own with
    | [a], _ =>
      dsimp only [decodePower]
      split
      iterate 4 exact .request rfl
      rename_i no0 no1 no2 no3
      refine .inr ⟨rfl, .inl ⟨rfl, a, rfl, ?_⟩⟩
      have defined : a.toNat ≠ 0 ∧ a.toNat ≠ 1 ∧ a.toNat ≠ 2 ∧ a.toNat ≠ 3 := ⟨no0, no1, no2, no3⟩
      omega

theorem decodeSetZone_keepsRow : KeepsRow 0x10 8 decodeSetZone where
  refuses payload other := by
    unfold decodeSetZone
    split
    · exact absurd rfl other
    · rfl
  spells payload own := by
    match payload, own with
    | [_, _, _, _, _, _, _, _], _ => exact .request rfl

theorem decodePostOrder_keepsRow : KeepsRow 0x20 11 decodePostOrder where
  refuses payload other := by
    unfold decodePostOrder
    split
    · exact absurd rfl other
    · rfl
  spells payload own := by
    match payload, own with
    | [_, _, _, _, _, _, _, _, _, _, _], _ => exact .request rfl

/-- A selector above 1 is undefined (R197). -/
theorem decodeReadRecipe_keepsRow : KeepsRow 0x31 3 decodeReadRecipe where
  refuses payload other := by
    unfold decodeReadRecipe
    split
    · exact absurd rfl other
    · rfl
  spells payload own := by
    match payload, own with
    | [s, _, _], _ =>
      dsimp only [decodeReadRecipe]
      split
      iterate 2 exact .request rfl
      rename_i no0 no1
      refine .inr ⟨rfl, .inr ⟨rfl, s, rfl, ?_⟩⟩
      have defined : s.toNat ≠ 0 ∧ s.toNat ≠ 1 := ⟨no0, no1⟩
      omega

/-- A recipe body is read from 17 bytes and from no other number (Table 10-10). -/
theorem getBody_eq_none_iff (bytes : List Byte) : getBody bytes = none ↔ bytes.length ≠ 17 := by
  constructor
  · intro absent own
    match bytes, own with
    | [_, _, _, _, _, _, _, _, _, _, _, _, _, _, _, _, _], _ => cases absent
  · intro other
    unfold getBody
    split
    · exact absurd rfl other
    · rfl

/-- A profile is read from 24 bytes and from no other number (Table 10-4). -/
theorem getProfile_eq_none_iff (bytes : List Byte) : getProfile bytes = none ↔ bytes.length ≠ 24 := by
  constructor
  · intro absent own
    match bytes, own with
    | [_, _, _, _, _, _, _, _, _, _, _, _, _, _, _, _, _, _, _, _, _, _, _, _], _ => cases absent
  · intro other
    unfold getProfile
    split
    · exact absurd rfl other
    · rfl

theorem decodeLoadRecipe_keepsRow : KeepsRow 0x30 22 decodeLoadRecipe where
  refuses payload other := by
    unfold decodeLoadRecipe
    split
    · rename_i k0 k1 rest
      split
      · rename_i body t0 t1 p read left
        have read : (rest.take 17).length = 17 := by
          by_contra short
          cases read.symm.trans ((getBody_eq_none_iff _).2 short)
        have left := congrArg List.length left
        simp only [List.length_take, List.length_drop, List.length_cons, List.length_nil] at read left other
        omega
      · rfl
    · rfl
  spells payload own := by
    match payload, own with
    | k0 :: k1 :: rest, own =>
      have long : (rest.take 17).length = 17 := by simp at own ⊢; omega
      have left : (rest.drop 17).length = 3 := by simp at own ⊢; omega
      unfold decodeLoadRecipe
      dsimp only
      split
      · exact .request rfl
      · rename_i no
        cases read : getBody (rest.take 17) with
        | none => exact absurd long ((getBody_eq_none_iff _).1 read)
        | some body =>
          match last : rest.drop 17, left with
          | [t0, t1, p], _ => exact absurd last (no body t0 t1 p read)

theorem decodeSetWindow_keepsRow : KeepsRow 0x36 23 decodeSetWindow where
  refuses payload other := by
    unfold decodeSetWindow
    split
    · rename_i rest
      rw [(getBody_eq_none_iff rest).2 fun own => other (by simp [own])]
    · rfl
  spells payload own := by
    match payload, own with
    | _ :: _ :: _ :: _ :: _ :: _ :: rest, own =>
      unfold decodeSetWindow
      dsimp only
      split
      · exact .request rfl
      · rename_i absent
        exact absurd (by simpa using own) ((getBody_eq_none_iff rest).1 absent)

theorem decodeWriteSetting_keepsRow : KeepsRow 0x50 5 decodeWriteSetting where
  refuses payload other := by
    unfold decodeWriteSetting
    split
    · exact absurd rfl other
    · rfl
  spells payload own := by
    match payload, own with
    | [_, _, _, _, _], _ => exact .request rfl

theorem decodeWriteProfile_keepsRow : KeepsRow 0x52 24 decodeWriteProfile where
  refuses payload other := by
    rw [decodeWriteProfile, (getProfile_eq_none_iff payload).2 other]
  spells payload own := by
    unfold decodeWriteProfile
    split
    · exact .request rfl
    · rename_i absent
      exact absurd own ((getProfile_eq_none_iff payload).1 absent)

/-! ### The dispatch, kind by kind (R196) -/

/-- What the dispatch owes a kind whose payload length is given. -/
def FollowsRow (kind : Byte) (decode : List Byte → Dispatched) : Option Nat → Prop
  | some n => KeepsRow kind n decode
  | none   => ∀ payload, decode payload = .unknownKind

/-- The decoder of a kind of Table 10-4 is the one that keeps to its row. -/
theorem KeepsRow.follows {kind : Byte} {code n : Nat} {decode : List Byte → Dispatched} (is : kind.toNat = code)
    (row : KeepsRow (BitVec.ofNat 8 code) n decode)
    (length : payloadLength (BitVec.ofNat 8 code) = some n := by rfl) : FollowsRow kind decode (payloadLength kind) := by
  subst is
  rw [BitVec.ofNat_toNat, BitVec.setWidth_eq] at row length
  rw [length]
  exact row

theorem decodeRequest_follows (kind : Byte) : FollowsRow kind (decodeRequest kind) (payloadLength kind) := by
  unfold decodeRequest
  split
  iterate 8 exact (noPayload_keepsRow rfl).follows ‹_›
  · exact (twoBytes_keepsRow fun _ _ => rfl).follows ‹_›
  · exact decodeSetZone_keepsRow.follows ‹_›
  iterate 6 exact (oneByte_keepsRow fun _ => rfl).follows ‹_›
  · exact decodePower_keepsRow.follows ‹_›
  · exact decodePostOrder_keepsRow.follows ‹_›
  · exact (oneByte_keepsRow fun _ => rfl).follows ‹_›
  · exact (twoBytes_keepsRow fun _ _ => rfl).follows ‹_›
  · exact (oneByte_keepsRow fun _ => rfl).follows ‹_›
  · exact decodeLoadRecipe_keepsRow.follows ‹_›
  · exact decodeReadRecipe_keepsRow.follows ‹_›
  · exact (oneKey_keepsRow fun _ => rfl).follows ‹_›
  · exact (noPayload_keepsRow rfl).follows ‹_›
  iterate 2 exact (oneKey_keepsRow fun _ => rfl).follows ‹_›
  · exact decodeSetWindow_keepsRow.follows ‹_›
  iterate 2 exact (noPayload_keepsRow rfl).follows ‹_›
  · exact (oneKey_keepsRow fun _ => rfl).follows ‹_›
  · exact (noPayload_keepsRow rfl).follows ‹_›
  iterate 3 exact (oneSet_keepsRow fun _ => rfl).follows ‹_›
  · exact (twoBytes_keepsRow fun _ _ => rfl).follows ‹_›
  · exact (noPayload_keepsRow rfl).follows ‹_›
  · exact decodeWriteSetting_keepsRow.follows ‹_›
  · exact (noPayload_keepsRow rfl).follows ‹_›
  · exact decodeWriteProfile_keepsRow.follows ‹_›
  iterate 2 exact (noPayload_keepsRow rfl).follows ‹_›
  · have unlisted : payloadLength kind = none := by
      unfold payloadLength
      split
      iterate 42 contradiction
      rfl
    rw [unlisted]
    exact fun _ => rfl

/-- Settles O5: each kind's decoder keeps to the kind's row of Table 10-4, and a kind without a row is unknown. -/
theorem dispatchFollowsTable : Obligations.DispatchFollowsTable := by
  intro kind payload
  have follows := decodeRequest_follows kind
  cases length : payloadLength kind with
  | none =>
    rw [length] at follows
    exact ⟨fun _ => follows payload, nofun, nofun⟩
  | some n =>
    rw [length] at follows
    refine ⟨nofun, fun m same other => ?_, fun own => ?_⟩
    · cases same
      exact follows.refuses payload other
    · exact follows.spells payload (Option.some.inj own).symm

end Sys2Proof
end

section
/-! PROOF. The receiver, the checks of a frame, its answer, and requests refused (O6 to O9). -/

namespace Sys2Proof.Machine

set_option Elab.async false

/-! ### The receiver's phases (R190, R192) -/

section
variable {s : State}

theorem syncByteBeginsFrame_hunting (hunting : s.port.receiver = .hunting) :
    syncByteBeginsFrame s = { s with port := { s.port with receiver := .receiving } } := if_pos hunting

theorem syncByteBeginsFrame_other (other : s.port.receiver ≠ .hunting) : syncByteBeginsFrame s = s := if_neg other

theorem State.abandonFrame_receiving (receiving : s.port.receiver = .receiving) :
    s.abandonFrame = { s with port := { s.port with receiver := .hunting, discard := true } } := if_pos receiving

theorem State.abandonFrame_other (other : s.port.receiver ≠ .receiving) : s.abandonFrame = s := if_neg other

/-- A gap, a framing error and a length byte above 200 abandon the frame in progress alike (R190). -/
theorem exec_abandons (s : State) {i : Instr}
    (breaks : i = .idleGapAbandon ∨ i = .framingErrorAbandon ∨ ∃ n, i = .lengthByteDiscard n ∧ 200 < n) :
    exec i s = .next s.abandonFrame := by
  rcases breaks with rfl | rfl | ⟨n, rfl, above⟩
  · rfl
  · rfl
  · exact congrArg Host.Outcome.next (if_pos above)

theorem lengthByteDiscard_within {n : Nat} (within : n ≤ 200) (s : State) : lengthByteDiscard n s = s :=
  if_neg (Nat.not_lt.2 within)

theorem replySent_idle (idle : s.port.inbound = none) : replySent s = s := by
  rw [replySent, idle]
  rfl

/-- The end of a reply that is not a RESTART's own ends the reply alone (R192). -/
theorem replySent_outstanding (outstanding : s.port.inbound.isSome = true) (other : ¬ RestartReplyOwed s) :
    replySent s = s.endReply := by
  rcases replySent_cases s with ⟨none, -⟩ | ⟨f, held, due, asks, -⟩ | ⟨-, -, -, ends⟩
  · rw [none] at outstanding
    cases outstanding
  · exact absurd ⟨due, f, held, (asksRestart_iff f).1 asks⟩ other
  · exact ends

end

/-- Settles O6: each phase and the end of a reply from the equations of the receiver's acts. -/
theorem receiverPhases : Obligations.ReceiverPhases := fun s =>
  ⟨fun hunting => congrArg Host.Outcome.next (syncByteBeginsFrame_hunting hunting),
    fun other => congrArg Host.Outcome.next (syncByteBeginsFrame_other other),
    fun _ breaks =>
      ⟨fun receiving => (exec_abandons s breaks).trans
          (congrArg Host.Outcome.next (State.abandonFrame_receiving receiving)),
        fun other => (exec_abandons s breaks).trans (congrArg Host.Outcome.next (State.abandonFrame_other other))⟩,
    fun _ within => congrArg Host.Outcome.next (lengthByteDiscard_within within s),
    fun outstanding other => congrArg Host.Outcome.next (replySent_outstanding outstanding other),
    fun idle => congrArg Host.Outcome.next (replySent_idle idle)⟩

/-! ### The checks of a complete frame (R191) -/

section
variable {f : Frame} {s : State}

/-- A frame names this station when its address byte has the station address's value (R189). -/
theorem address_eq_iff (f : Frame) (s : State) :
    f.address = s.port.station.setWidth 8 ↔ f.address.toNat = s.port.station.toNat := by
  have value : (s.port.station.setWidth 8).toNat = s.port.station.toNat := BitVec.toNat_setWidth_of_le (by decide)
  rw [← value]
  exact BitVec.toNat_inj.symm

theorem frameReceived_deaf (f : Frame) (deaf : s.port.receiver = .deaf) : frameReceived f s = s := if_pos deaf

/-- A frame heard returns the receiver to hunting and comes to its checks (R190). -/
theorem frameReceived_heard (short : f.payload.length ≤ 200) (hears : s.port.receiver ≠ .deaf) :
    frameReceived f s = s.hunt.checkFrame f := by
  rw [frameReceived, if_neg hears, if_neg (Nat.not_lt.2 short)]

theorem State.checkFrame_spoiled (s : State) (wrong : f.crc ≠ crc16 f.covered) : s.checkFrame f = s.discardFrame :=
  if_pos wrong

theorem State.checkFrame_elsewhere (crc : f.crc = crc16 f.covered) (other : f.address.toNat ≠ s.port.station.toNat) :
    s.checkFrame f = s := by
  rw [State.checkFrame, if_neg (not_not.2 crc), if_pos (mt (address_eq_iff f s).1 other)]

/-- A frame that comes whole to its station is discarded while a request stands outstanding, and taken otherwise. -/
theorem State.checkFrame_here (crc : f.crc = crc16 f.covered) (here : f.address.toNat = s.port.station.toNat) :
    s.checkFrame f = if s.port.inbound.isSome then s.discardFrame else s.takeFrame f := by
  rw [State.checkFrame, if_neg (not_not.2 crc), if_neg (not_not.2 ((address_eq_iff f s).2 here))]

end

/-- Settles O7: the checks in the order of R191, each by the equation of the check that lets the frame go. -/
theorem frameChecks : Obligations.FrameChecks := fun f s short =>
  ⟨fun deaf => congrArg Host.Outcome.next (frameReceived_deaf f deaf),
    fun hears wrong => congrArg Host.Outcome.next
      ((frameReceived_heard short hears).trans (s.hunt.checkFrame_spoiled wrong)),
    fun hears crc other => congrArg Host.Outcome.next
      ((frameReceived_heard short hears).trans (State.checkFrame_elsewhere (s := s.hunt) crc other)),
    fun hears crc here outstanding => congrArg Host.Outcome.next
      ((frameReceived_heard short hears).trans
        ((State.checkFrame_here (s := s.hunt) crc here).trans (if_pos outstanding)))⟩

/-! ### The answer to a frame (R193, R194) -/

section
variable {f : Frame} {s : State}

theorem State.formReply_of_reply {r : Reply} (f : Frame) (reply : s.reply = some r) :
    s.formReply f = answered f s r := by
  unfold State.formReply
  split
  · rename_i found
    cases found.symm.trans reply
    rfl
  · rename_i none
    cases none.symm.trans reply

/-- A frame that passes its checks is dispatched as the outstanding request, and its reply is formed (R191 step 4). -/
theorem frameReceived_taken (taken : FrameTaken f s) :
    frameReceived f s = ((frameHeld f s).dispatch f.kind f.payload).formReply f := by
  obtain ⟨hears, short, crc, here, idle⟩ := taken
  rw [frameReceived_heard short hears, State.checkFrame_here (s := s.hunt) crc here, if_neg]
  · rfl
  · exact Option.not_isSome_iff_eq_none.2 idle

/-- The port answers a frame that spells no request with its own code (R193). -/
theorem State.dispatch_of_portCode {kind : Byte} {payload : List Byte} {code : ResultCode}
    (h : portCode (decodeRequest kind payload) = some code) (s : State) :
    s.dispatch kind payload = replied s code [] := by
  unfold State.dispatch
  split
  iterate 3
    rename_i found
    rw [found] at h
    cases h
    rfl
  · rename_i found
    rw [found] at h
    cases h

theorem State.dispatch_of_request {kind : Byte} {payload : List Byte} {i : Instr}
    (h : decodeRequest kind payload = .request i) (s : State) : s.dispatch kind payload = takeRequest i s := by
  rw [State.dispatch, h]

end

/-- Settles O8: a frame taken is dispatched; the request it spells is always answered, and the reply is formed from that
answer, or from the port's own code. -/
theorem frameAnswered : Obligations.FrameAnswered := by
  intro f s taken
  have received : exec (.frameReceived f) s = .next (((frameHeld f s).dispatch f.kind f.payload).formReply f) :=
    congrArg Host.Outcome.next (frameReceived_taken taken)
  refine ⟨fun i decoded => ?_, fun code refused => ?_⟩
  · have request := isRequest_of_decodeRequest decoded
    obtain ⟨r, reply⟩ := (takeRequest_answered (frameHeld f s) request).reply
    refine ⟨takeRequest i (frameHeld f s), r, exec_request request _, reply, received.trans ?_⟩
    rw [State.dispatch_of_request decoded, State.formReply_of_reply f reply]
  · refine received.trans ?_
    rw [State.dispatch_of_portCode refused, State.formReply_of_reply f rfl]

/-! ### Requests refused (R193) -/

/-- A block that answers another code than OK has refused the request. -/
theorem Answered.eq_replied {s t : State} {code : ResultCode} {data : List Byte} (h : Answered s t)
    (reply : t.reply = some ⟨code, data⟩) (other : code ≠ .ok) : t = replied s code [] := by
  cases h with
  | refused c =>
    cases reply
    rfl
  | accepted d kept =>
    cases reply
    exact absurd rfl other

/-- Settles O9: a request's block either refuses it, with nothing changed but the reply, or answers OK. -/
theorem refusedRequestChangesNothing : Obligations.RefusedRequestChangesNothing := by
  intro i s t code data request e reply other
  rw [exec_request request s] at e
  cases e
  exact (takeRequest_answered s request).eq_replied reply other

end Sys2Proof.Machine
end

section
/-! PROOF. WRITE SETTING and WRITE PROFILE (O35). -/

namespace Sys2Proof.Machine

set_option Elab.async false

/-! ### Demand evaluated under new settings (R204, R37) -/

/-- An evaluation keeps what a channel holds besides its request: settings, budget and stop code (R36). -/
theorem State.evaluateZone_kept (s : State) (z y : Fin 6) :
    (s.evaluateZone z).arbiter.zones[y].settings = s.arbiter.zones[y].settings ∧
    (s.evaluateZone z).arbiter.zones[y].remaining = s.arbiter.zones[y].remaining ∧
    (s.evaluateZone z).arbiter.zones[y].stopCode = s.arbiter.zones[y].stopCode := by
  by_cases own : z = y
  · subst own
    rcases s.evaluateZone_cases z with ⟨-, h⟩ | ⟨-, h⟩ <;> rw [h]
    · exact ⟨rfl, rfl, rfl⟩
    · rw [State.updateZone_zones, if_pos rfl]
      split <;> exact ⟨rfl, rfl, rfl⟩
  · rw [s.evaluateZone_others own]
    exact ⟨rfl, rfl, rfl⟩

theorem State.evaluateAll_kept (s : State) (y : Fin 6) :
    s.evaluateAll.arbiter.zones[y].settings = s.arbiter.zones[y].settings ∧
    s.evaluateAll.arbiter.zones[y].remaining = s.arbiter.zones[y].remaining ∧
    s.evaluateAll.arbiter.zones[y].stopCode = s.arbiter.zones[y].stopCode :=
  State.evaluateAll_induction
    (p := fun t => t.arbiter.zones[y].settings = s.arbiter.zones[y].settings ∧
      t.arbiter.zones[y].remaining = s.arbiter.zones[y].remaining ∧
      t.arbiter.zones[y].stopCode = s.arbiter.zones[y].stopCode) s ⟨rfl, rfl, rfl⟩
    fun t z ⟨settings, remaining, stopCode⟩ => by
      obtain ⟨settings', remaining', stopCode'⟩ := t.evaluateZone_kept z y
      exact ⟨settings'.trans settings, remaining'.trans remaining, stopCode'.trans stopCode⟩

/-- All that an evaluation and the grant behind it change: the demand flags, the arbiter and what is sent to the
converter (R37, R56). -/
theorem State.regrant_eq (s : State) : ∃ arbiter demand convTx, s.evaluateAll.grant = { s with
    arbiter := arbiter, tracker := { s.tracker with demand := demand }, wires := { s.wires with convTx := convTx } } := by
  obtain ⟨arbiter, convTx, granted⟩ := s.evaluateAll.grant_eq
  have evaluated : ∃ a d, s.evaluateAll = { s with arbiter := a, tracker := { s.tracker with demand := d } } := by
    refine State.evaluateAll_induction (p := fun t => ∃ a d, t =
      { s with arbiter := a, tracker := { s.tracker with demand := d } }) s ⟨_, _, rfl⟩ fun t z ⟨a, d, h⟩ => ?_
    obtain ⟨zones, one⟩ := t.evaluateZone_eq z
    rw [one, h]
    exact ⟨_, _, rfl⟩
  obtain ⟨a, d, h⟩ := evaluated
  rw [granted, h]
  exact ⟨_, _, _, rfl⟩

/-- Settings written, demand evaluated and a grant made leave what R204 gives. -/
theorem settingsLeave_regrant (settings : Settings) (s : State) :
    SettingsLeave settings s (({ s with settings := settings } : State).evaluateAll.grant.accept []) := by
  let written : State := { s with settings := settings }
  obtain ⟨arbiter, demand, convTx, h⟩ := written.regrant_eq
  have evaluated : DemandEvaluated written.evaluateAll.grant :=
    State.grant_demandEvaluated written.evaluateAll_demandEvaluated
  have slice : SliceKept s written.evaluateAll.grant := by
    have kept := written.evaluateAll.grant_sliceKept
    simpa [SliceKept, written] using kept
  refine ⟨by simp, evaluated, written.evaluateAll.grant_noGrantDue, slice, rfl, ?_, fun y => ?_, ?_⟩
  · show written.evaluateAll.grant.tracker = { s.tracker with demand := written.evaluateAll.grant.tracker.demand }
    rw [h]
  · obtain ⟨settings', remaining, stopCode, -⟩ := written.evaluateAll.grant_kept y
    obtain ⟨settings'', remaining', stopCode'⟩ := written.evaluateAll_kept y
    exact ⟨settings'.trans settings'', remaining.trans remaining', stopCode.trans stopCode'⟩
  · show written.evaluateAll.grant.accept [] = _
    rw [h]
    rfl

/-! ### WRITE SETTING and WRITE PROFILE (R203, R205) -/

theorem settingValueOk_iff {id value : Nat} :
    SettingValueOk id value ↔ ∃ lo hi, settingRange id = some (lo, hi) ∧ lo ≤ value ∧ value ≤ hi := by
  unfold SettingValueOk settingInRange
  cases settingRange id with
  | none => simp
  | some range =>
    obtain ⟨lo, hi⟩ := range
    simp

theorem writeSettingRequest_outOfRange {id value : Nat} (bad : ¬ SettingValueOk id value) (s : State) :
    writeSettingRequest id value s = s.refuse .badValue := by
  unfold writeSettingRequest
  split
  · rfl
  · rename_i range
    exact if_neg fun fits => bad (settingValueOk_iff.2 ⟨_, _, range, fits⟩)

theorem writeSettingRequest_inRange {id value : Nat} (ok : SettingValueOk id value) (s : State) :
    writeSettingRequest id value s =
      if s.mayWrite id then
        let written : State := { s with settings := writeSettingOf id value s.settings }
        (if evaluatesDemand id then written.evaluateAll.grant else written).accept []
      else s.refuse .wrongState := by
  obtain ⟨lo, hi, range, fits⟩ := settingValueOk_iff.1 ok
  unfold writeSettingRequest
  rw [range]
  exact if_pos fits

/-- AMBIENT alone asks for a line that is STOPPED with an empty train (R203). -/
theorem State.mayWrite_iff (s : State) (id : Nat) :
    s.mayWrite id = true ↔ id = 1 → s.cadence.line = .stopped ∧ s.tracker.train = [] := by
  by_cases ambient : id = 1 <;> simp [State.mayWrite, ambient]

theorem evaluatesDemand_iff (id : Nat) : evaluatesDemand id = true ↔ id = 1 ∨ id = 2 ∨ id = 14 := by
  simp [evaluatesDemand, or_assoc]

/-- Settles O35: the checks in their order, and the write with the evaluation and grant that may follow. -/
theorem settingsWritten : Obligations.SettingsWritten := by
  intro s
  refine ⟨fun id value bad => ?_, fun value ok busy => ?_, fun id value ok ambient deadband ceiling => ?_,
    fun id value ok bears => ?_, fun profile ok => ?_, fun profile bad => ?_⟩
  · exact congrArg Host.Outcome.next (writeSettingRequest_outOfRange bad s)
  · have barred : ¬ s.mayWrite 1 = true := fun may =>
      have ⟨stopped, empty⟩ := (s.mayWrite_iff 1).1 may rfl
      busy.elim (· stopped) (· empty)
    exact congrArg Host.Outcome.next ((writeSettingRequest_inRange ok s).trans (if_neg barred))
  · have may : s.mayWrite id = true := (s.mayWrite_iff id).2 fun own => absurd own ambient
    have quiet : ¬ evaluatesDemand id = true := by simp [evaluatesDemand_iff, ambient, deadband, ceiling]
    refine congrArg Host.Outcome.next ((writeSettingRequest_inRange ok s).trans ?_)
    rw [if_pos may]
    dsimp only
    rw [if_neg quiet]
    rfl
  · have may : s.mayWrite id = true := (s.mayWrite_iff id).2 fun own =>
      bears.elim And.right fun other => by omega
    have evaluates : evaluatesDemand id = true :=
      (evaluatesDemand_iff id).2 (bears.imp_left And.left)
    refine ⟨_, congrArg Host.Outcome.next (writeSettingRequest_inRange ok s), ?_⟩
    rw [if_pos may]
    dsimp only
    rw [if_pos evaluates]
    exact settingsLeave_regrant _ s
  · exact ⟨_, congrArg Host.Outcome.next (if_pos ok), settingsLeave_regrant _ s⟩
  · exact congrArg Host.Outcome.next (if_neg (Bool.eq_false_iff.1 bad))

end Sys2Proof.Machine
end

section
/-! SUPPORT. The orders a RESTART retires and the PENDING entries it drops, slot by slot and entry by entry (O36). -/

namespace Sys2Proof.Machine

set_option Elab.async false

/-! ### A fold that acts on each place once -/

/-- A fold of one act for each place, each of which changes what is read at its own place alone, changes what is read at
every place. -/
theorem foldl_places {n : Nat} {β : Type} {f : State → Fin n → State} {read : State → Fin n → β} {g : β → β}
    (settled : ∀ x, g (g x) = g x) (one : ∀ t j i, read (f t j) i = if j = i then g (read t i) else read t i)
    (s : State) (i : Fin n) : read ((List.finRange n).foldl f s) i = g (read s i) := by
  have fold : ∀ (places : List (Fin n)) (t : State),
      read (places.foldl f t) i = if i ∈ places then g (read t i) else read t i := by
    intro places
    induction places with
    | nil => exact fun t => rfl
    | cons j rest ih =>
      intro t
      rw [List.foldl_cons, ih, one]
      by_cases own : j = i
      · simp [own, settled]
      · simp [own, Ne.symm own]
  rw [fold, if_pos (List.mem_finRange i)]

/-- A count over the places of one kind or another, none of both. -/
theorem countP_split {α : Type} {l : List α} {p q r : α → Bool} (either : ∀ a, p a = (q a || r a))
    (apart : ∀ a, q a = true → r a = false) : l.countP p = l.countP q + l.countP r := by
  have first : ∀ a, (p a && q a) = q a := fun a => by
    rw [either]
    cases q a <;> simp
  have second : ∀ a, (p a && !q a) = r a := fun a => by
    rw [either]
    cases one : q a with
    | false => simp
    | true => simp [apart a one]
  rw [List.countP_eq_countP_filter_add l p q]
  simp only [List.countP_filter, first, second]

/-! ### An order retired RESTART_LOST (R132, R141) -/

/-- A slot after the retirement of its order (R132). -/
def Slot.retired (status : StatusRecord) : Slot → Slot
  | .queued o | .loading o | .inLine o => .done o status
  | .free => .free
  | .done o st => .done o st

theorem Slot.retired_retired (a b : StatusRecord) (x : Slot) : (x.retired a).retired b = x.retired a := by
  cases x <;> rfl

theorem State.retire_slot (s : State) (j i : Fin 64) (status : StatusRecord) :
    (s.retire j status).ring.slots[i] = if j = i then s.ring.slots[i].retired status else s.ring.slots[i] := by
  rw [State.retire_slots]
  by_cases own : j = i
  · subst own
    rw [if_pos rfl, if_pos rfl]
    cases s.ring.slots[j] <;> rfl
  · rw [if_neg own, if_neg own]

/-- The number of LOADING and IN_LINE orders resolved to an entry or window. -/
def Ring.loadedFrom (r : Ring) (ref : RecipeRef) : Nat :=
  (List.finRange 64).countP (fun i => r.slots[i].loadedOrder.any (fun o => o.resolution == .recipe ref))

/-- What a RESTART's retirements change: slots of the ring and use counts, which fall by one for each LOADING or IN_LINE
order retired (R132, R141, R166). -/
structure OrdersLost (s t : State) : Prop where
  frame   : ∃ slots recipes, t = { s with ring := { s.ring with slots := slots }, recipes := recipes }
  lowered : ∃ n : RecipeRef → Nat, s.recipes.Lowered n t.recipes ∧
    ∀ ref, s.ring.loadedFrom ref = n ref + t.ring.loadedFrom ref

theorem OrdersLost.refl (s : State) : OrdersLost s s :=
  ⟨⟨s.ring.slots, s.recipes, rfl⟩, fun _ => 0, s.recipes.lowered_refl, fun _ => (Nat.zero_add _).symm⟩

theorem OrdersLost.trans {s t u : State} (h : OrdersLost s t) (k : OrdersLost t u) : OrdersLost s u := by
  obtain ⟨⟨slots, recipes, t_eq⟩, n, lowered, count⟩ := h
  obtain ⟨⟨slots', recipes', u_eq⟩, n', lowered', count'⟩ := k
  refine ⟨⟨slots', recipes', by rw [u_eq, t_eq]⟩, fun ref => n ref + n' ref, lowered.trans lowered', fun ref => ?_⟩
  rw [count, count', Nat.add_assoc]

/-- A fold of retirements loses orders only. -/
theorem OrdersLost.foldl {α : Type} {f : State → α → State} (one : ∀ t a, OrdersLost t (f t a)) (l : List α)
    (s : State) : OrdersLost s (l.foldl f s) :=
  List.foldlRecOn (motive := OrdersLost s) l f (.refl s) fun t h a _ => h.trans (one t a)

/-- A retirement RESTART_LOST is counted nowhere and does not reach batching (R132, R141). -/
theorem State.afterRetirement_restartLost (s : State) (o : BilletOrder) : s.afterRetirement o .restartLost = s := rfl

theorem State.retire_loaded {s : State} {i : Fin 64} {o : BilletOrder} {status : StatusRecord}
    (loaded : s.ring.slots[i].loadedOrder = some o) (lost : status.verdict = .restartLost) :
    s.retire i status = (s.setSlot i (.done o status)).dropUse o.resolution := by
  unfold State.retire
  cases slot : s.ring.slots[i] with
  | inLine p | loading p =>
    rw [slot] at loaded
    cases loaded
    dsimp only
    rw [lost, State.afterRetirement_restartLost]
  | free | queued p | done p st => rw [slot] at loaded; cases loaded

theorem State.retire_ordersLost (s : State) (i : Fin 64) {status : StatusRecord}
    (lost : status.verdict = .restartLost) : OrdersLost s (s.retire i status) := by
  have others : ∀ j ≠ i, (s.retire i status).ring.slots[j] = s.ring.slots[j] := fun j other => by
    rw [State.retire_slot, if_neg (Ne.symm other)]
  have own : (s.retire i status).ring.slots[i].loadedOrder = none := by
    rw [State.retire_slot, if_pos rfl]
    cases s.ring.slots[i] <;> rfl
  have count : ∀ ref, s.ring.loadedFrom ref =
      (if s.ring.slots[i].loadedOrder.any (fun o => o.resolution == .recipe ref) then 1 else 0) +
        (s.retire i status).ring.loadedFrom ref := fun ref =>
    countP_finRange_split (by rw [own]; rfl) fun j other => by rw [others j other]
  cases loaded : s.ring.slots[i].loadedOrder with
  | some o =>
    have retired := State.retire_loaded loaded lost
    refine ⟨⟨_, _, retired⟩, _, ?_, count⟩
    rw [retired, loaded]
    have lowered := s.recipes.changeUse_lowered o.resolution
    simp only [Option.any_some, beq_iff_eq]
    exact lowered
  | none =>
    have kept : ∃ slots, s.retire i status = { s with ring := { s.ring with slots := slots } } := by
      unfold State.retire
      cases slot : s.ring.slots[i] with
      | inLine p | loading p => rw [slot] at loaded; cases loaded
      | queued p => dsimp only; rw [lost]; exact ⟨_, rfl⟩
      | free | done p st => exact ⟨_, rfl⟩
    obtain ⟨slots, h⟩ := kept
    refine ⟨⟨slots, s.recipes, h⟩, _, ?_, count⟩
    rw [h, loaded]
    exact s.recipes.lowered_refl

/-! ### The retirements of a RESTART (R28, R141) -/

/-- A slot after the retirement of the LOADING order (R141 step 2). -/
def Slot.unloaded : Slot → Slot
  | .loading o => .done o (emptyStatus .restartLost)
  | x => x

theorem Slot.unloaded_unloaded (x : Slot) : x.unloaded.unloaded = x.unloaded := by cases x <;> rfl

theorem Slot.retired_unloaded (status : StatusRecord) (x : Slot) : (x.retired status).unloaded = x.retired status := by
  cases x <;> rfl

theorem State.loseRecords_ordersLost (s : State) : OrdersLost s s.loseRecords :=
  .foldl (f := fun (x : State) (r : BilletRecord) => x.retire r.slot (recordStatus .restartLost s.tracker.clock r))
    (fun t r => t.retire_ordersLost r.slot rfl) s.tracker.train s

theorem State.loseLoading_ordersLost (s : State) : OrdersLost s s.loseLoading := by
  refine .foldl (f := State.loseLoadingAt) (fun t i => ?_) _ s
  unfold State.loseLoadingAt
  split
  · exact t.retire_ordersLost i rfl
  all_goals exact .refl t

theorem State.loseLoadingAt_slot (s : State) (j i : Fin 64) :
    (s.loseLoadingAt j).ring.slots[i] = if j = i then s.ring.slots[i].unloaded else s.ring.slots[i] := by
  unfold State.loseLoadingAt
  by_cases own : j = i
  · subst own
    cases slot : s.ring.slots[j] with
    | loading o =>
      dsimp only
      rw [State.retire_slot, slot]
      rfl
    | free | queued o | inLine o | done o st => simp only [slot]; rfl
  · split
    · rw [State.retire_slot]
      simp [own]
    all_goals simp [own]

theorem State.loseLoading_slot (s : State) (i : Fin 64) :
    s.loseLoading.ring.slots[i] = s.ring.slots[i].unloaded := by
  unfold State.loseLoading
  exact foldl_places (read := fun (t : State) (i : Fin 64) => t.ring.slots[i]) Slot.unloaded_unloaded
    State.loseLoadingAt_slot s i

/-- The retirement of the records of a train: a slot no record belongs to is left, and the order of another takes the
values of its record (R28, R133). -/
theorem lostRecords_slot (now : Clock) (train : List BilletRecord) (s : State) (i : Fin 64) :
    let t := train.foldl (fun x r => x.retire r.slot (recordStatus .restartLost now r)) s
    ((∀ r ∈ train, r.slot ≠ i) → t.ring.slots[i] = s.ring.slots[i]) ∧
    ((∃ r ∈ train, r.slot = i) → ∃ r ∈ train, r.slot = i ∧
      t.ring.slots[i] = s.ring.slots[i].retired (recordStatus .restartLost now r)) := by
  induction train generalizing s with
  | nil => exact ⟨fun _ => rfl, nofun⟩
  | cons r rest ih =>
    obtain ⟨away, among⟩ := ih (s.retire r.slot (recordStatus .restartLost now r))
    rw [State.retire_slot] at away among
    simp only [List.foldl_cons, List.forall_mem_cons, List.exists_mem_cons_iff]
    by_cases own : r.slot = i
    · rw [if_pos own] at away among
      refine ⟨fun other => absurd own other.1, fun _ => .inl ⟨own, ?_⟩⟩
      by_cases later : ∃ q ∈ rest, q.slot = i
      · obtain ⟨q, -, -, slot⟩ := among later
        rw [slot, Slot.retired_retired]
      · exact away fun q mem same => later ⟨q, mem, same⟩
    · rw [if_neg own] at away among
      exact ⟨fun other => away other.2, fun some_ => .inr (among (some_.resolve_left own))⟩

/-- What the retirements of a RESTART leave: of the slots, LOADING orders retired with zeros and those of the train's
records with the records' values (R28, R133, R141). -/
structure OrdersRetired (s t : State) : Prop extends OrdersLost s t where
  away   : ∀ {i : Fin 64}, (∀ r ∈ s.tracker.train, r.slot ≠ i) → t.ring.slots[i] = s.ring.slots[i].unloaded
  record : ∀ {i : Fin 64}, (∃ r ∈ s.tracker.train, r.slot = i) → ∃ r ∈ s.tracker.train, r.slot = i ∧
    t.ring.slots[i] = s.ring.slots[i].retired (recordStatus .restartLost s.tracker.clock r)

theorem State.loseOrders_retired (s : State) : OrdersRetired s s.loseRecords.loseLoading := by
  refine ⟨s.loseRecords_ordersLost.trans s.loseRecords.loseLoading_ordersLost, fun {i} away => ?_, fun {i} some_ => ?_⟩
  · rw [State.loseLoading_slot]
    exact congrArg Slot.unloaded ((lostRecords_slot s.tracker.clock s.tracker.train s i).1 away)
  · obtain ⟨r, mem, own, slot⟩ := (lostRecords_slot s.tracker.clock s.tracker.train s i).2 some_
    refine ⟨r, mem, own, ?_⟩
    rw [State.loseLoading_slot]
    exact (congrArg Slot.unloaded slot).trans (Slot.retired_unloaded _ _)

/-- An order lost is LOADING or IN_LINE. -/
theorem refersTo_of_lostSlot {s : State} {i : Fin 64} (lost : lostSlot s i = true) (ref : RecipeRef) :
    s.ring.slots[i].loadedOrder.any (fun o => o.resolution == .recipe ref) = s.ring.slots[i].refersTo ref := by
  unfold lostSlot at lost
  cases slot : s.ring.slots[i] with
  | loading o | inLine o => rfl
  | free | queued o | done o st => rw [slot] at lost; cases lost

section
variable {s t : State} (retired : OrdersRetired s t)
include retired

/-- A slot with no order to retire is left (R132). -/
theorem OrdersRetired.idle {i : Fin 64} (idle : ∀ status, s.ring.slots[i].retired status = s.ring.slots[i]) :
    t.ring.slots[i] = s.ring.slots[i] := by
  by_cases some_ : ∃ r ∈ s.tracker.train, r.slot = i
  · obtain ⟨r, -, -, slot⟩ := retired.record some_
    rw [slot, idle]
  · have kept := Slot.retired_unloaded (emptyStatus .restartLost) s.ring.slots[i]
    rw [idle] at kept
    rw [retired.away fun r mem own => some_ ⟨r, mem, own⟩, kept]

/-- A slot is LOADING or IN_LINE after the retirements if it was before and its order is not lost. -/
theorem OrdersRetired.loadedOrder (i : Fin 64) :
    t.ring.slots[i].loadedOrder = if lostSlot s i = true then none else s.ring.slots[i].loadedOrder := by
  by_cases some_ : ∃ r ∈ s.tracker.train, r.slot = i
  · obtain ⟨r, mem, own, slot⟩ := retired.record some_
    have any : s.tracker.train.any (fun r => r.slot == i) = true := List.any_eq_true.2 ⟨r, mem, beq_iff_eq.2 own⟩
    rw [slot, lostSlot, any]
    cases s.ring.slots[i] <;> rfl
  · have away : ∀ r ∈ s.tracker.train, r.slot ≠ i := fun r mem own => some_ ⟨r, mem, own⟩
    have none_ : s.tracker.train.any (fun r => r.slot == i) = false :=
      List.any_eq_false.2 fun r mem own => away r mem (beq_iff_eq.1 own)
    rw [retired.away away, lostSlot, none_]
    cases s.ring.slots[i] <;> rfl

/-- Every use count falls by the number of orders retired (R166). -/
theorem OrdersRetired.uses : s.recipes.Lowered
    (fun ref => (List.finRange 64).countP (fun i => lostSlot s i && s.ring.slots[i].refersTo ref)) t.recipes := by
  obtain ⟨n, lowered, count⟩ := retired.lowered
  have lost : ∀ ref, s.ring.loadedFrom ref =
      (List.finRange 64).countP (fun i => lostSlot s i && s.ring.slots[i].refersTo ref) + t.ring.loadedFrom ref := by
    refine fun ref => countP_split (fun i => ?_) fun i both => ?_
    · rw [retired.loadedOrder]
      by_cases lost : lostSlot s i = true
      · rw [refersTo_of_lostSlot lost, if_pos lost, lost]
        simp
      · simp [lost]
    · rw [retired.loadedOrder, if_pos (Bool.and_eq_true_iff.1 both).1]
      rfl
  have same : n = fun ref => (List.finRange 64).countP (fun i => lostSlot s i && s.ring.slots[i].refersTo ref) :=
    funext fun ref => Nat.add_right_cancel ((count ref).symm.trans (lost ref))
  rwa [same] at lowered

/-- The retirements leave an entry's state as it was. -/
theorem OrdersRetired.entryPending (i : Fin 32) :
    entryPending t.recipes.entries[i] = entryPending s.recipes.entries[i] := by
  rw [retired.uses.entries]
  cases s.recipes.entries[i] <;> rfl

end

/-! ### The PENDING entries dropped (R130, R166) -/

/-- An entry after a RESTART has dropped the PENDING ones (R166). -/
def settledEntry (x : Option Entry) : Option Entry := if entryPending x = true then none else x

theorem settledEntry_settles (x : Option Entry) : entryPending (settledEntry x) = false := by
  unfold settledEntry
  split
  · rfl
  · rename_i settled
    exact Bool.eq_false_iff.2 settled

theorem settledEntry_settled (x : Option Entry) : settledEntry (settledEntry x) = settledEntry x :=
  if_neg (Bool.eq_false_iff.1 (settledEntry_settles x))

/-- A slot after the PENDING entries of a table have been dropped: its QUEUED order marked if it waits for one
(R130). -/
def Slot.settledBy (entries : Vector (Option Entry) 32) : Slot → Slot
  | .queued o => match o.resolution with
    | .recipe (.entry i) => .queued (if entryPending entries[i] = true then { o with resolution := .noRecipe } else o)
    | .recipe (.window _) | .noRecipe => .queued o
  | x => x

theorem Slot.settledBy_of_settled {entries : Vector (Option Entry) 32}
    (settled : ∀ i : Fin 32, entryPending entries[i] = false) (x : Slot) : x.settledBy entries = x := by
  unfold Slot.settledBy
  split
  · split
    · rw [settled]; rfl
    · rfl
    · rfl
  · rfl

/-- A PENDING entry dropped, with its mark on the orders that wait for it, changes nothing of how the ring will stand
once all are dropped (R130). -/
theorem Slot.markNoRecipe_settledBy (t : RecipeTable) {i : Fin 32} (pending : entryPending t.entries[i] = true)
    (x : Slot) : (x.markNoRecipe i).settledBy (t.put i none).entries = x.settledBy t.entries := by
  cases x with
  | free | loading o | inLine o | done o st => rfl
  | queued o =>
    unfold Slot.markNoRecipe
    dsimp only
    by_cases own : o.resolution = .recipe (.entry i)
    · simp only [own, if_true, Slot.settledBy, pending]
    · rw [if_neg own]
      unfold Slot.settledBy
      dsimp only
      split
      · rename_i j other
        rw [t.put_other fun same => own (by rw [other, same])]
      · rfl
      · rfl

/-- What dropping PENDING entries changes: slots of the ring and entries of the table, with the ring on its way to how
it will stand once all are dropped (R130, R166). -/
structure PendingsDropped (s t : State) : Prop where
  frame  : ∃ slots entries, t = { s with
    ring := { s.ring with slots := slots }, recipes := { s.recipes with entries := entries } }
  stands : ∀ j : Fin 64, t.ring.slots[j].settledBy t.recipes.entries = s.ring.slots[j].settledBy s.recipes.entries

theorem PendingsDropped.refl (s : State) : PendingsDropped s s := ⟨⟨_, _, rfl⟩, fun _ => rfl⟩

theorem PendingsDropped.trans {s t u : State} (h : PendingsDropped s t) (k : PendingsDropped t u) :
    PendingsDropped s u := by
  obtain ⟨⟨slots, entries, t_eq⟩, stands⟩ := h
  obtain ⟨⟨slots', entries', u_eq⟩, stands'⟩ := k
  exact ⟨⟨slots', entries', by rw [u_eq, t_eq]⟩, fun j => (stands' j).trans (stands j)⟩

theorem State.dropPendingAt_dropped (s : State) (i : Fin 32) : PendingsDropped s (s.dropPendingAt i) := by
  cases pending : entryPending s.recipes.entries[i] with
  | false =>
    rw [State.dropPendingAt_other pending]
    exact .refl s
  | true =>
    have dropped := State.dropPendingAt_unmanned pending
    have recipes : (s.dropPendingAt i).recipes = s.recipes.put i none := congrArg Ledger.recipes dropped
    have slots : (s.dropPendingAt i).ring.slots = s.ring.slots.mapIdx (fun _ x => x.markNoRecipe i) :=
      congrArg Ledger.slots dropped
    refine ⟨?_, fun j => ?_⟩
    · unfold State.dropPendingAt
      split
      · split <;> exact ⟨_, _, rfl⟩
      · exact ⟨_, _, rfl⟩
    · have marked : (s.ring.slots.mapIdx fun _ x => x.markNoRecipe i)[j] = s.ring.slots[j].markNoRecipe i := by simp
      rw [slots, marked, recipes]
      exact Slot.markNoRecipe_settledBy s.recipes pending _

theorem State.dropPendingAt_entry (s : State) (j i : Fin 32) : (s.dropPendingAt j).recipes.entries[i] =
    if j = i then settledEntry s.recipes.entries[i] else s.recipes.entries[i] := by
  cases pending : entryPending s.recipes.entries[j] with
  | false =>
    rw [State.dropPendingAt_other pending]
    split
    · rename_i own
      subst own
      exact (if_neg (Bool.eq_false_iff.1 pending)).symm
    · rfl
  | true =>
    have recipes : (s.dropPendingAt j).recipes = s.recipes.put j none :=
      congrArg Ledger.recipes (State.dropPendingAt_unmanned pending)
    rw [recipes, RecipeTable.put_entries]
    split
    · rename_i own
      subst own
      exact (if_pos pending).symm
    · rfl

theorem State.restartRecipes_entry (s : State) (i : Fin 32) :
    s.restartRecipes.recipes.entries[i] = settledEntry s.recipes.entries[i] := by
  have dropped := foldl_places (read := fun (t : State) (i : Fin 32) => t.recipes.entries[i]) settledEntry_settled
    State.dropPendingAt_entry s i
  unfold State.restartRecipes
  dsimp only
  exact dropped

/-- What a RESTART does to the recipe table besides the use counts: entries settled and wants removed; and to the ring:
the QUEUED orders that wait for a PENDING entry marked (R130, R166). -/
structure PendingsSettled (s t : State) : Prop where
  frame   : ∃ slots entries, t = { s with
    ring := { s.ring with slots := slots }, recipes := { s.recipes with entries := entries, wants := [] } }
  entries : ∀ i : Fin 32, t.recipes.entries[i] = settledEntry s.recipes.entries[i]
  slots   : ∀ j : Fin 64, t.ring.slots[j] = s.ring.slots[j].settledBy s.recipes.entries

theorem State.restartRecipes_settled (s : State) : PendingsSettled s s.restartRecipes := by
  have entries := s.restartRecipes_entry
  have dropped : PendingsDropped s ((List.finRange 32).foldl State.dropPendingAt s) :=
    List.foldlRecOn (motive := PendingsDropped s) (List.finRange 32) State.dropPendingAt (.refl s)
      fun t h i _ => h.trans (t.dropPendingAt_dropped i)
  unfold State.restartRecipes at entries ⊢
  obtain ⟨⟨slots, entries', frame⟩, stands⟩ := dropped
  rw [frame] at stands entries ⊢
  refine ⟨⟨slots, entries', rfl⟩, entries, fun j => (Slot.settledBy_of_settled (fun i => ?_) _).symm.trans (stands j)⟩
  exact (congrArg entryPending (entries i)).trans (settledEntry_settles _)

end Sys2Proof.Machine
end

section
/-! PROOF. A RESTART takes effect (O36). -/

namespace Sys2Proof.Machine

set_option Elab.async false

/-! ### The ring and the table after a RESTART (R141, R166) -/

/-- What a RESTART leaves of the ring and the recipe table, and that it touches nothing else with them. -/
structure OrdersRestarted (s t : State) : Prop where
  frame    : t = { s with ring := { s.ring with slots := t.ring.slots }, recipes := t.recipes }
  table    : TableAfterRestart s t
  slots    : SlotsAfterRestart s t
  settled  : ∀ i : Fin 32, entryPending t.recipes.entries[i] = false
  unloaded : ∀ i : Fin 64, t.ring.slots[i].isLoading = false
  lost     : ∀ (i : Fin 64) (o : BilletOrder),
    s.ring.slots[i] = .loading o ∨ s.ring.slots[i] = .inLine o ∧ (∃ r ∈ s.tracker.train, r.slot = i) →
    ∃ st, t.ring.slots[i] = .done o st ∧ st.verdict = .restartLost

/-- A QUEUED order as the dropped entries leave it (R130). -/
theorem OrdersRetired.settledBy_queued {s u : State} (retired : OrdersRetired s u) (o : BilletOrder) :
    (Slot.queued o).settledBy u.recipes.entries = .queued (queuedAfterRestart s o) := by
  unfold Slot.settledBy queuedAfterRestart
  dsimp only
  cases resolved : o.resolution with
  | noRecipe => rfl
  | recipe ref =>
    cases ref with
    | entry i => dsimp only; rw [retired.entryPending]
    | window w => rfl

section
variable {s u t : State} (retired : OrdersRetired s u) (settled : PendingsSettled u t)
include retired settled

theorem tableAfterRestart_of_settled : TableAfterRestart s t := by
  obtain ⟨uses, entries, windows, -, writebacks, replacement⟩ := retired.uses
  have uses : ∀ ref, u.recipes.useOf ref = useAfterRestart s ref := uses
  obtain ⟨⟨slots, entries', frame⟩, entry, -⟩ := settled
  refine ⟨fun i => ?_, fun w => ?_, by rw [frame], by rw [frame]; exact writebacks, by rw [frame]; exact replacement⟩
  · rw [entry, settledEntry, retired.entryPending, entries, uses]
  · have window : t.recipes.windows[w] = u.recipes.windows[w] := by rw [frame]
    rw [window, windows, uses]

theorem slotsAfterRestart_of_settled : SlotsAfterRestart s t := by
  intro i
  rw [settled.slots]
  refine ⟨fun o loading away => ?_, fun o inLine some_ => ?_, fun o queued away => ?_, fun o st done => ?_,
    fun free => ?_⟩
  · rw [retired.away away, loading]
    rfl
  · obtain ⟨r, mem, own, slot⟩ := retired.record some_
    refine ⟨r, mem, own, ?_⟩
    rw [slot, inLine]
    rfl
  · rw [retired.away away, queued]
    exact retired.settledBy_queued o
  · rw [retired.idle (by rw [done]; exact fun _ => rfl), done]
    rfl
  · rw [retired.idle (by rw [free]; exact fun _ => rfl), free]
    rfl

/-- An order lost is DONE in its slot with the verdict RESTART_LOST, LOADING or IN_LINE (R141). -/
theorem restartLost_of_settled {i : Fin 64} {o : BilletOrder}
    (held : s.ring.slots[i] = .loading o ∨ s.ring.slots[i] = .inLine o ∧ ∃ r ∈ s.tracker.train, r.slot = i) :
    ∃ st, t.ring.slots[i] = .done o st ∧ st.verdict = .restartLost := by
  rw [settled.slots]
  by_cases some_ : ∃ r ∈ s.tracker.train, r.slot = i
  · obtain ⟨r, -, -, slot⟩ := retired.record some_
    rw [slot]
    rcases held with held | ⟨held, -⟩ <;> rw [held] <;> exact ⟨_, rfl, rfl⟩
  · have loading : s.ring.slots[i] = .loading o := held.resolve_right fun inLine => some_ inLine.2
    rw [retired.away fun r mem own => some_ ⟨r, mem, own⟩, loading]
    exact ⟨_, rfl, rfl⟩

end

theorem State.ordersRestarted (s : State) : OrdersRestarted s s.loseRecords.loseLoading.restartRecipes := by
  have retired := s.loseOrders_retired
  have unloaded := s.loseRecords.loseLoading_lost.2
  generalize s.loseRecords.loseLoading = u at retired unloaded
  have settled := u.restartRecipes_settled
  have lost := u.restartRecipes_lost
  generalize u.restartRecipes = t at settled lost
  refine ⟨?_, tableAfterRestart_of_settled retired settled, slotsAfterRestart_of_settled retired settled, fun i => ?_,
    fun i => lost.loading i (unloaded i), fun i o => restartLost_of_settled retired settled⟩
  · obtain ⟨slots, recipes, u_eq⟩ := retired.frame
    obtain ⟨slots', entries, t_eq⟩ := settled.frame
    rw [t_eq, u_eq]
  · rw [settled.entries]
    exact settledEntry_settles _

/-! ### The other blocks (R28, R73, R103, R184, R202) -/

/-- ALERT stands after a RESTART if RESTARTED is enabled (R179, R184). -/
theorem alertLevel_restarted (enabled : BitVec 11) :
    Attention.alertLevel ⟨Source.restarted.bit, enabled⟩ = enabled.getLsbD 0 := by
  show (1#11 &&& enabled != 0#11) = _
  rw [BitVec.and_comm, ← BitVec.twoPow_zero, BitVec.and_twoPow]
  cases enabled.getLsbD 0 <;> rfl

/-- The messages that end a slice in flight at a RESTART (R73). -/
def State.restartCancels (s : State) : List ConvMessage :=
  match s.arbiter.slice with
  | some x => [.sliceCancel x.sequence]
  | none => []

theorem State.restartArbiter_eq (s : State) : s.restartArbiter = { s with
    arbiter := { zones := s.arbiter.zones.mapIdx (fun _ c => c.restarted), enable := false, pause := false
                 favour := .zone6, sequence := s.arbiter.sequence, slice := none, sliceTimer := none }
    wires := { s.wires with convTx := s.wires.convTx ++ s.restartCancels } } := by
  unfold State.restartArbiter State.restartCancels
  cases s.arbiter.slice with
  | none => simp [State.updateZones]
  | some x => rfl

/-- The units of a RESTART behind its retirements and dropped entries, before PRESS_STOP is looked at. -/
def State.restartUnits (s : State) : State :=
  let raised := s.clearBatch.setAttention { s.attention with pending := Source.restarted.bit }
  raised.restartArbiter.restartTracker.restartLine

theorem State.restartUnits_eq (s : State) : s.restartUnits = { s with
    port := portReset s.pins.address
    ring := { s.ring with batch := 0, batchTimer := none }
    tracker := { train := [], surveyTimer := none, readingTimer := none, clock := s.tracker.clock
                 line := .stopped, demand := Vector.replicate 6 false }
    arbiter := { zones := s.arbiter.zones.mapIdx (fun _ c => c.restarted), enable := false, pause := false
                 favour := .zone6, sequence := s.arbiter.sequence, slice := none, sliceTimer := none }
    cadence := resetCadence
    attention := ⟨1#11, s.attention.enabled⟩
    settings := { s.settings with lastReset := .restartRequest }
    pins := pinsReset s.pins (s.attention.enabled.getLsbD 0)
    wires := { s.wires with convTx := s.wires.convTx ++ s.restartCancels } } := by
  rw [← alertLevel_restarted s.attention.enabled, State.restartUnits]
  dsimp only
  rw [State.restartArbiter_eq]
  rfl

/-- PRESS_STOP looked at when the cadence unit has been reset: asserted, it loads the hold-delay timer or, without a
delay, is a cause at once (R103, R78). -/
theorem State.takePressStop_reset {s : State} (reset : s.cadence = resetCadence) : s.takePressStop =
    { s with cadence := cadenceReset s.pins.pressStop s.settings.holdDelay s.tracker.clock } := by
  unfold State.takePressStop State.pressStopAsserts State.addPressStop State.afterCauseAdded
  cases stop : s.pins.pressStop with
  | false =>
    rw [if_neg Bool.false_ne_true]
    show s = { s with cadence := resetCadence }
    rw [← reset]
  | true =>
    rw [if_pos rfl]
    by_cases delay : s.settings.holdDelay = 0
    · simp [delay, reset, resetCadence, cadenceReset]
    · simp [delay, reset, resetCadence, cadenceReset, State.timer]

/-- A RESTART is its retirements and dropped entries, then the units, then PRESS_STOP looked at. -/
theorem State.restart_orders (s : State) : ∃ t, OrdersRestarted s t ∧ s.restart = t.restartUnits.takePressStop := by
  refine ⟨_, s.ordersRestarted, ?_⟩
  unfold State.restart
  generalize s.loseRecords.loseLoading.restartRecipes = t
  rfl

/-- What a RESTART leaves when it takes effect (R207), with the orders it retires. -/
theorem State.restart_leaves (s : State) : RestartLeaves s s.restart ∧ ∀ (i : Fin 64) (o : BilletOrder),
    s.ring.slots[i] = .loading o ∨ s.ring.slots[i] = .inLine o ∧ (∃ r ∈ s.tracker.train, r.slot = i) →
    ∃ st, s.restart.ring.slots[i] = .done o st ∧ st.verdict = .restartLost := by
  obtain ⟨t, ⟨frame, table, slots, settled, unloaded, lost⟩, restarted⟩ := s.restart_orders
  rw [State.restartUnits_eq, State.takePressStop_reset rfl] at restarted
  rw [frame] at restarted
  rw [restarted]
  refine ⟨⟨rfl, rfl, rfl, rfl, rfl, rfl, rfl, rfl, fun z => ?_, table, slots, rfl, settled, rfl, rfl, rfl, rfl, rfl,
    rfl, rfl, unloaded, rfl, rfl, rfl, rfl, rfl⟩, lost⟩
  simp only [Fin.getElem_fin, Vector.getElem_mapIdx]
  rfl

/-! ### RESTART, and the moment it takes effect (R207) -/

theorem owesRestartReply_iff (p : Port) : p.owesRestartReply = true ↔
    ∃ f, p.inbound = some f ∧ decodeRequest f.kind f.payload = .request .restart := by
  simp only [Port.owesRestartReply, Option.any_eq_true, asksRestart_iff]

theorem restartMayTakeEffect_iff (s : State) :
    s.restartMayTakeEffect = true ↔ s.port.restartDue = true ∧ ¬ RestartReplyOwed s := by
  rw [RestartReplyOwed, ← owesRestartReply_iff]
  unfold State.restartMayTakeEffect
  cases s.port.restartDue <;> simp

/-- The end of RESTART's own reply restarts the part (R192, R207). -/
theorem replySent_restart {s : State} (owed : RestartReplyOwed s) : replySent s = s.endReply.restart := by
  obtain ⟨due, own⟩ := owed
  have owes := (owesRestartReply_iff s.port).2 own
  obtain ⟨f, held, -⟩ := own
  simp [replySent, held, due, owes]

/-- Settles O36: each block's restart state, whether RESTART's reply ends or a bare RESTART takes effect. -/
theorem restartTakesEffectAfterReply : Obligations.RestartTakesEffectAfterReply := by
  intro s
  refine ⟨rfl, fun owed => ?_, fun due bare => ?_, fun early => ?_⟩
  · refine ⟨_, congrArg Host.Outcome.next (replySent_restart owed), ?_⟩
    exact s.endReply.restart_leaves.1
  · obtain ⟨leaves, lost⟩ := s.restart_leaves
    have effect : restartTakesEffect s = s.restart := if_pos ((restartMayTakeEffect_iff s).2 ⟨due, bare⟩)
    exact ⟨_, congrArg Host.Outcome.next effect, leaves, fun i o loading => lost i o (.inl loading),
      fun i o inLine some_ => lost i o (.inr ⟨inLine, some_⟩)⟩
  · refine congrArg Host.Outcome.next (if_neg fun may => ?_)
    obtain ⟨due, bare⟩ := (restartMayTakeEffect_iff s).1 may
    exact early.elim (fun none_ => Bool.false_ne_true (none_.symm.trans due)) bare

end Sys2Proof.Machine
end
